-- ==== Sys2Proof/Word.lean ====
section
/-!
DEFINITION. Words of the module: bytes, 32-bit floating words and keys, 64-byte commands, and the reserved
values of identifiers, epochs and slots (R10, R26, R30).
-/
namespace Sys2Proof

/-- One byte. -/
abbrev Byte := BitVec 8

/-- An IEEE 754 binary32 encoding, or a 32-bit distance key (R94). -/
abbrev W32 := BitVec 32

/-- A 64-byte command (R203). -/
abbrev CmdWord := BitVec 512

/-- An external identifier's reserved value (R10, R29). -/
def nullId : Nat := 0xFFFFFFFFFFFFFFFF

/-- The epoch value that is never assigned (R30). -/
def noEpoch : Nat := 0xFFFFFFFFFFFF

/-- The null slot of a partition (R26). -/
def nullSlot : Nat := 0x3FFFFFF

end Sys2Proof
end

