-- ==== Sys2Proof/Types/Base.lean ====
section
/-!
DEFINITION. Types shared by every part of the module: completion statuses and cause flags, sparse byte memory,
access paths, ports, and the named outcomes of reads and translations.
-/
namespace Sys2Proof

/-- Completion status of a command (R219). -/
inductive Status
  | ok | partialDeadline | partialPoison | deferredReport
  | invalid | noIndex | capacity
  | aborted | pageFault | fenced | tooLate
  deriving DecidableEq, Repr

/-- CAUSE flags (R217) without DEF_VALID, DEF_LOST and REPORT_ONLY, which belong to the entry itself. -/
structure Cause where
  cut : Bool := false
  poison : Bool := false
  fenced : Bool := false
  late : Bool := false
  arrivalWon : Bool := false
  deriving DecidableEq, Repr

/-- Byte memory in canonical form: addresses strictly rising, no entry equal to what an unlisted address reads
as. `fill` 0: unlisted bytes read 0; any other `fill` names an undefined background (R399 step 4). -/
structure Mem where
  fill : Nat := 0
  cells : List (Nat × Byte) := []
  deriving DecidableEq, Repr

/-- The two host ports (R17, R193). -/
inductive Port
  | a | b
  deriving DecidableEq, Repr

/-- Record formats (R28). -/
inductive Format
  | w | c
  deriving DecidableEq, Repr

/-- How a read of near memory or the far tier ends (R392, R395): correct, uncorrectable with piece 0 readable,
or uncorrectable with piece 0 lost. -/
inductive ReadOutcome
  | good | badTail | badHeader
  deriving DecidableEq, Repr

/-- Answer to the translation requests of an access (R226): every page granted, so many pages without access, an error. A
buffer that is written entry by entry (FETCH, GET_LOG) may be granted for so many further entries (R228, R404). -/
inductive XlatAnswer
  | granted | upTo (entries : Nat) | noAccess (pages : Nat) | error
  deriving DecidableEq, Repr

/-- A host-memory access that the module translates (R226): of a channel's queues, of a command's buffers and list directories, of a
dense run's descriptor burst or next block of a stream. -/
inductive Access
  | sq | cq | result | payload | query | partTable | codeset | image | template | args | inDir | outDir | log
  | descriptors (die stream : Nat) | block (die stream : Nat)
  deriving DecidableEq, Repr

/-- State of a translated buffer of a command (R226, R229). -/
inductive Xlat
  | none | asked | paging | present | failed
  deriving DecidableEq, Repr

/-- A host buffer of a command that the module reads (R228), its list directories among them (R307). -/
inductive BufKind
  | query | payload | partTable | codeset | image | template | args | inDir | outDir
  deriving DecidableEq, Repr

/-- A host memory write that left the module: port, PASID when the channel carries one, relaxed-ordering attribute, address, bytes. -/
structure HostWrite where
  port : Port
  pasid : Option Nat
  relaxed : Bool
  addr : Nat
  data : List Byte
  deriving DecidableEq, Repr

/-- A management-port peer: source address and UDP port (R377). -/
structure Peer where
  addr : Nat
  udp : Nat
  deriving DecidableEq, Repr

/-- Where a dictionary message comes from (R366, R376): a mailbox whose request stands in MB_REQ, or a datagram. -/
inductive MsgSrc
  | mailbox (p : Port)
  | datagram (peer : Peer) (allNodes : Bool) (checksumOk : Bool) (data : List Byte)
  deriving DecidableEq, Repr

/-- A PCIe feature that the host may ask a port for (R193). -/
inductive LinkFeature
  | pasid | ats | pri | linkIde | selectiveIde | msix | msi | intx | srIov
  deriving DecidableEq, Repr

/-- Execution units of a core, and the die's row engine (R235, R262). -/
inductive ExecUnit
  | f | g | e | t | s | rowEngine
  deriving DecidableEq, Repr

/-- Parity of a received frame (R337): every flit good, a payload flit bad, or the head flit bad. -/
inductive FrameParity
  | good | payloadBad | headBad
  deriving DecidableEq, Repr

/-- The frame header of R333 and its payload. -/
structure Frame where
  typ : Nat
  tc : Nat
  hops : Nat
  dst : Nat
  src : Nat
  origin : Nat
  len : Nat
  group : Nat
  ptag : Nat
  cutTime : Nat
  payload : List Byte
  deriving DecidableEq, Repr

/-- A frame as it arrives: its sequence number, transmission number and parity (R332, R337). -/
structure RxFrame where
  fseq : Nat
  rpl : Nat
  parity : FrameParity
  frame : Frame
  deriving DecidableEq, Repr

/-- A link-control flit (R335): what every one of them carries. -/
structure LinkControl where
  parityOk : Bool
  aseq : Nat
  peerId : Nat
  credits : List Nat
  tA : Nat
  tB : Nat
  deriving DecidableEq, Repr

/-- Where an uncorrectable read is reported (R392): a record (with or without its piece 0), a rerank vector, a
64-byte line of a tablature area or activation space, or another address of a tier. -/
inductive MemPlace
  | record (idx part slot : Nat) (header : Bool)
  | rerank (idx part slot : Nat)
  | area (tab die chunk : Nat)
  | act (tab die chunk : Nat)
  | other (addr : Nat)
  deriving DecidableEq, Repr

/-- A request whose timer runs (R394): an expand request; a memory request of a block, with the bytes of the block that did arrive, of a
query's rerank vectors, or of a command's buffer; a descriptor burst; the reload of a die's hub store from its backing copy. -/
inductive ReqKind
  | expand (tag part expTag : Nat)
  | block (die stream : Nat) (data : List Byte)
  | rerank (tag : Nat)
  | descriptors (die stream : Nat)
  | hostRead (slot seq : Nat) (buf : BufKind)
  | between (die : Nat)
  deriving DecidableEq, Repr

/-- What a packet of a link inside the module, or of a host link, carries (R392): an expand request or its response; 64 bytes of a
block, of a query's vector or of its rerank vectors, from a byte on; a command's buffer; a list under way to a merge stage; anything
else. -/
inductive Packet
  | expandRequest (tag part expTag : Nat) | expandResponse (tag part expTag : Nat)
  | block (die stream first : Nat) | vector (tag first : Nat) | rerank (tag first : Nat)
  | hostRead (slot seq : Nat) (buf : BufKind) | list (tag pick : Nat) | other
  deriving DecidableEq, Repr

/-- What the check of a firmware image finds (R441, R443): whether its signature verifies, FW_VERSION, security version,
and the digest that is measured. -/
structure FwImage where
  valid : Bool
  version : Nat
  sec : Nat
  digest : List Byte := []
  deriving DecidableEq, Repr

/-- Where a parity error is detected (R392). Cores are global numbers; a walker store names the context whose walk it
holds, a merge store the die stage or (none) the hub stage and the entry, or the fabric stage's or a row list's entry; a parameter
cache the index and version of the block; a link inside the module its packet, whether the header is good, and how often it was
replayed. -/
inductive ParityPlace
  | dieNetwork (packet : Packet) (header : Bool) (replays : Nat) | fabricLink | hostLink (packet : Packet)
  | coreStore (core : Nat) | walkerStore (core ctx : Nat) | selectionRegs (core : Nat) (tag : Option Nat)
  | accumulator (core tile : Nat)
  | hubStoreStream (die stream block : Nat) | hubStoreMirror (die : Nat)
  | lineBuffer (die : Nat)
  | queryTable (stack tag : Nat) | paramCache (stack index version : Nat)
  | sideMemory (die entry : Nat) | mergeStore (tag : Nat) (die : Option Nat) (entry : Nat)
  | fabricStore (tag entry : Nat) | rowStore (die row core entry : Nat)
  | management | hubLink (packet : Packet) (header : Bool) (replays : Nat)
  deriving DecidableEq, Repr

/-- What the management port sees of neighbour discovery and ICMPv6 (R375): the outcome of duplicate address detection, a
solicitation with its source and target, an echo request with its addresses and what follows its checksum. -/
inductive NdMessage
  | duplicate
  | solicitation (source target : List Byte)
  | echo (source dest body : List Byte)
  deriving DecidableEq, Repr

end Sys2Proof
end

