-- ==== Sys2Proof/Types/Power.lean ====
section
/-!
DEFINITION. Time base, pins, power manager, thermal state, start-up and TAP (12 R349-R350, 15, 16 R449, 17).
-/
namespace Sys2Proof

/-- Synchronisation states of the time base (R350, codes of R352). -/
inductive TimeState
  | free | acquire | locked | holdover | master
  deriving DecidableEq, Repr

/-- An outstanding time exchange (R349): its number, t1, and when it was sent. -/
structure Exchange where
  num : Nat
  t1 : Nat
  sent : Nat
  deriving DecidableEq, Repr

/-- Time base and ACLK (R8, R20, R349, R350). `tick` is the ACLK count in ns since auxiliary power-on. -/
structure TimeBase where
  base : Nat := 0
  tick : Nat := 0
  sync : TimeState := .free
  offset : Int := 0
  exch : Option Exchange := none
  nextNum : Nat := 0
  missed : Nat := 0
  lastStart : Option Nat := none
  slewLeft : Int := 0
  lastSlew : Option Nat := none
  deriving DecidableEq, Repr

/-- Input pins, straps and supplies at the connector (R463, R467). `pwrEnAt`, `perstAt` and `pumpAt` say when the present level was
taken (R465). -/
structure Pins where
  aux : Bool := true
  pwrEn : Bool := false
  pwrEnLowSince : Option Nat := none
  pwrEnAt : Nat := 0
  perst : Bool := true
  perstAt : Nat := 0
  pumpOk : Bool := false
  pumpLowSince : Option Nat := none
  pumpHighSince : Option Nat := none
  pumpAt : Nat := 0
  strapModId : Nat := 0
  strapSplit : Bool := false
  modId : Nat := 0
  split : Bool := false
  sampled : Bool := false
  deriving DecidableEq, Repr

/-- PWR_STATE (R413). -/
inductive PwrState
  | a0 | a1 | q1 | q2 | off | starting | failed | tripped
  deriving DecidableEq, Repr

/-- Why the module is in TRIPPED (R422, R424). -/
inductive TripCause
  | thermal | overCurrent
  deriving DecidableEq, Repr

/-- A power-state entry in progress (R225): target, the command, when admitted, and whether and when it passed its commit
point. -/
structure EntryRec where
  target : PwrState
  slot : Nat
  seq : Nat
  since : Nat
  committed : Bool := false
  commitAt : Nat := 0
  deriving DecidableEq, Repr

/-- What entry to Off did: when, and what had left the module and the counters before its completion entry (R439). -/
structure OffDone where
  tick : Nat
  ctr : List (Nat × Nat)
  writes : Nat
  msi : Nat
  deriving DecidableEq, Repr

/-- The power above the fixed draw of a compute die, with its array and its walker cycles, or of a stack, with its READ, WRITE
and REMOTE beats and its expand beats (R419). -/
structure Draw where
  watts : Nat
  dense : Nat
  search : Nat
  deriving DecidableEq, Repr

/-- Throttle levels (R417, R418): dense duty of the eight dies and the search metering level. -/
structure Throttle where
  duty : List Nat := [64, 64, 64, 64, 64, 64, 64, 64]
  meter : Nat := 64
  deriving DecidableEq, Repr

/-- The power manager (R413-R425, R428, R436). Powers are in W. `step` is STARTUP_STEP, `mainStep` the steps of R431 that
the present main start has done, `farUp` that the far tier holds the event ring (R401); `capOn` says
that the cap is engaged (R419). `dieClk` counts, die by die, the 640ths of an advancing CCLK cycle up to `dieClkAt`, when a duty
last changed (R417). `stopAt` is when a falling PWR_EN or a failed start-up stopped the rails, `reachedAt` when an entry reached
its state (R439). `tokenPart` counts the 2,000ths of a metering token that had come in at `tokenFrom` (R418). -/
structure Power where
  state : PwrState := .off
  step : Nat := 0
  lastOff : Nat := 0
  pwrgd : Bool := false
  trip : Option TripCause := none
  tripAt : Nat := 0
  stopAt : Option Nat := none
  reachedAt : Option Nat := none
  offDone : Option OffDone := none
  thr : Throttle := {}
  dieClk : List Nat := [0, 0, 0, 0, 0, 0, 0, 0]
  dieClkAt : Nat := 0
  tokens : Nat := 64
  tokenPart : Nat := 0
  tokenFrom : Nat := 0
  samples : List Nat := []
  overSteps : Nat := 0
  belowSince : Option Nat := none
  lastStep : Option Nat := none
  lastRaise : Option Nat := none
  a1Since : Option Nat := none
  a1Time : Nat := 0
  capUnmet : Bool := false
  capOn : Bool := false
  limit : Nat := 1500
  throttling : Bool := false
  lastTherm : Option Nat := none
  coolSince : Option Nat := none
  pumpLost : Bool := false
  entry : Option EntryRec := none
  returning : Option (Option (Nat × Nat)) := none
  idleSince : Nat := 0
  pgdSince : Option Nat := none
  temps : List Int := List.replicate 60 0
  stackOk : Nat := 0
  farOk : Nat := 0
  farUp : Bool := false
  mainStep : Nat := 0
  deriving DecidableEq, Repr

/-- TAP instructions (R449). -/
inductive TapInstr
  | bypass | idcode | samplePreload | extest | clamp | highz
  deriving DecidableEq, Repr

/-- The boundary-scan TAP (R449, R472). `pinsTaken` says that the pins have left their function. -/
structure Tap where
  inReset : Bool := true
  instr : TapInstr := .idcode
  captured : Nat := 0
  update : Nat := 0
  pinsTaken : Bool := false
  deriving DecidableEq, Repr

end Sys2Proof
end

