-- ==== Sys2Proof/Syntax.lean ====
section
/-!
DEFINITION. The commands of the module: one constructor per row of the opcode table. A command of a channel names its
channel slot and SEQ; its 64 bytes stand in the state (R201, R203). An internal event names its object and carries the
choices that the rules leave to the hardware (a resource chosen, the lag of a time comparison (R22), a tie) and the
data or outcome that the outside world supplies.
-/
namespace Sys2Proof

/-- The commands, in the order of the opcode table. -/
inductive Instr
  /-- SEARCH (R79). -/
  | search (slot seq lag : Nat)
  /-- SEARCH_EXACT (R91). -/
  | searchExact (slot seq lag : Nat)
  /-- FETCH (R477). -/
  | fetch (slot seq : Nat)
  /-- INSERT (R134). -/
  | insert (slot seq : Nat)
  /-- DELETE (R134). -/
  | delete (slot seq : Nat)
  /-- UPSERT (R134). -/
  | upsert (slot seq : Nat)
  /-- ENCODE (R208). -/
  | encode (slot seq : Nat)
  /-- ENCODE_SEARCH (R208). -/
  | encodeSearch (slot seq lag : Nat)
  /-- RUN (R268). -/
  | run (slot seq : Nat)
  /-- TUNE_STEP (R278). -/
  | tuneStep (slot seq : Nat)
  /-- BARRIER (R214). -/
  | barrier (slot seq : Nat)
  /-- SNAPSHOT_PIN (R152). -/
  | snapshotPin (slot seq pick : Nat)
  /-- SNAPSHOT_RELEASE (R152). -/
  | snapshotRelease (slot seq : Nat)
  /-- CREATE_CHANNEL (R209). -/
  | createChannel (slot seq : Nat)
  /-- DESTROY_CHANNEL (R220). -/
  | destroyChannel (slot seq : Nat)
  /-- ABORT_CHANNEL (R222). -/
  | abortChannel (slot seq : Nat)
  /-- CREATE_INDEX (R211). -/
  | createIndex (slot seq : Nat)
  /-- DROP_INDEX (R155). -/
  | dropIndex (slot seq : Nat)
  /-- LOAD_TABLATURE (R265). -/
  | loadTablature (slot seq : Nat)
  /-- SET_POWER_STATE (R225). -/
  | setPowerState (slot seq : Nat)
  /-- GET_LOG (R404). -/
  | getLog (slot seq unread : Nat)
  /-- MERGE_NOW (R146). -/
  | mergeNow (slot seq : Nat)
  /-- RETUNE_START (R181). -/
  | retuneStart (slot seq : Nat)
  /-- RETUNE_COMMIT (R182). -/
  | retuneCommit (slot seq : Nat)
  /-- SQ_DOORBELL (R201). -/
  | sqDoorbell (port : Port) (slot value : Nat)
  /-- CQ_DOORBELL (R202). -/
  | cqDoorbell (port : Port) (slot value : Nat)
  /-- ADMIN_CTRL_WRITE (R196). -/
  | adminCtrlWrite (port : Port) (value : Nat)
  /-- ADMIN_CHANNEL_ENABLE (R196). -/
  | adminChannelEnable (port : Port)
  /-- REGISTER_WRITE (R194). -/
  | registerWrite (port : Port) (bar off width value : Nat)
  /-- COMMAND_FETCH_DONE (R201). -/
  | commandFetchDone (slot : Nat) (words : List CmdWord)
  /-- WRITE_ACCEPT (R54). -/
  | writeAccept (slot seq lag : Nat)
  /-- WRITE_APPLY (R135). -/
  | writeApply (idx stack pick : Nat) (payloadOk : Bool)
  /-- FETCH_ADMIT (R215). -/
  | fetchAdmit (slot seq : Nat)
  /-- BATCH_CLOSE (R136). -/
  | batchClose (idx : Nat)
  /-- EPOCH_PUBLISH (R137). -/
  | epochPublish (idx lag : Nat)
  /-- STRUM_CLOSE (R139). -/
  | strumClose (idx : Nat)
  /-- SWEEP_START (R140). -/
  | sweepStart (stack : Nat)
  /-- SWEEP_DONE (R141). -/
  | sweepDone (stack : Nat)
  /-- SEARCH_START (R63). -/
  | searchStart (tag core lag : Nat)
  /-- QUERY_REGISTRATION_DONE (R64). -/
  | queryRegistrationDone (tag : Nat)
  /-- WALK_PLACE (R63). -/
  | walkPlace (tag part core : Nat)
  /-- WALK_DESCENT (R66). -/
  | walkDescent (tag part : Nat)
  /-- EXPAND_REQUEST (R68). -/
  | expandRequest (stack : Nat) (outcome : ReadOutcome)
  /-- RECORD_REBUILD (R395). -/
  | recordRebuild (idx part slot : Nat)
  /-- EXPAND_RESPONSE (R73). -/
  | expandResponse (tag part pick lag : Nat)
  /-- MERGE_LIST_ARRIVAL (R129). -/
  | mergeListArrival (tag pick lag : Nat) (headerOk : Bool)
  /-- DIE_LAST_ACCEPT (R128). -/
  | dieLastAccept (tag die lag : Nat)
  /-- HUB_LAST_ACCEPT (R128). -/
  | hubLastAccept (tag lag : Nat)
  /-- RERANK_DONE (R77). -/
  | rerankDone (tag : Nat) (bad : List Nat)
  /-- SEARCH_CUT (R81). -/
  | searchCut (tag lag : Nat)
  /-- SEARCH_DEADLINE (R81). -/
  | searchDeadline (tag lag : Nat)
  /-- COMPLETION_WRITE (R202). -/
  | completionWrite (slot seq lag : Nat)
  /-- INT_COALESCE_EXPIRY (R202). -/
  | intCoalesceExpiry (slot : Nat)
  /-- ABORT_COMPLETE (R224). -/
  | abortComplete (slot : Nat)
  /-- CHANNEL_FREED (R221). -/
  | channelFreed (slot : Nat)
  /-- DROP_INDEX_FINISH (R155). -/
  | dropIndexFinish (idx : Nat)
  /-- TRANSLATION_RESPONSE (R226). -/
  | translationResponse (slot seq : Nat) (acc : Access) (answer : XlatAnswer)
  /-- PAGE_RESPONSE (R226). -/
  | pageResponse (slot seq : Nat) (acc : Access) (resolved : Bool)
  /-- PAGE_REQUEST_TIMEOUT (R226). -/
  | pageRequestTimeout (slot seq : Nat) (acc : Access)
  /-- ATS_INVALIDATION (R229). -/
  | atsInvalidation (port : Port) (slot seq : Nat)
  /-- MERGE_BATCH_START (R144). -/
  | mergeBatchStart (idx part stack core : Nat)
  /-- MERGE_BATCH_DONE (R144). -/
  | mergeBatchDone (idx part stack : Nat)
  /-- REPAIR_SCAN_START (R148). -/
  | repairScanStart (idx part : Nat)
  /-- REPAIR_SCAN_DONE (R148). -/
  | repairScanDone (idx part pick : Nat)
  /-- LOW_WATER_UPDATE (R149). -/
  | lowWaterUpdate (idx : Nat)
  /-- ENTRY_RELEASE (R150). -/
  | entryRelease (idx part stack : Nat)
  /-- SLOT_RECLAIM (R151). -/
  | slotReclaim (idx part slot : Nat)
  /-- PIN_EXPIRE (R152). -/
  | pinExpire (pin : Nat)
  /-- RETUNE_SAMPLE_TIMEOUT (R184). -/
  | retuneSampleTimeout (idx : Nat)
  /-- RETUNE_FIT_DONE (R185). -/
  | retuneFitDone (idx : Nat)
  /-- RETUNE_ARM (R183). -/
  | retuneArm (idx : Nat)
  /-- RETUNE_PASS_DONE (R187). -/
  | retunePassDone (idx : Nat)
  /-- RETUNE_RETIRE (R179). -/
  | retuneRetire (idx : Nat)
  /-- DENSE_START (R269). -/
  | denseStart (slot seq : Nat) (args inDir outDir : Option (List Byte))
  /-- LINE_ISSUE (R236). -/
  | lineIssue (die : Nat)
  /-- MACRO_START (R235). -/
  | macroStart (die core : Nat) (unit : ExecUnit)
  /-- MACRO_COMPLETE (R252). -/
  | macroComplete (die core : Nat) (unit : ExecUnit)
  /-- BARRIER_RELEASE (R240). -/
  | barrierRelease (slot seq : Nat)
  /-- RUN_COMPLETE (R271). -/
  | runComplete (slot seq : Nat)
  /-- DESCRIPTOR_BURST_DONE (R310). -/
  | descriptorBurstDone (die stream : Nat) (data : Option (List Byte))
  /-- BLOCK_FETCH_DONE (R313). -/
  | blockFetchDone (die stream : Nat) (data : List Byte) (bad : List Nat) (present : Bool)
  /-- BLOCK_WRITE_DONE (R314). -/
  | blockWriteDone (die stream : Nat) (present : Bool)
  /-- STALL_DETECT (R400). -/
  | stallDetect (die : Nat)
  /-- DIE_PROGRAM_ABORT (R399). -/
  | dieProgramAbort (slot seq cause : Nat)
  /-- DIE_ABORT_DONE (R399). -/
  | dieAbortDone (slot seq : Nat)
  /-- PARITY_ERROR (R392). -/
  | parityError (place : ParityPlace) (addr : Nat) (recovered : Bool)
  /-- MEM_UNCORRECTABLE (R392). -/
  | memUncorrectable (place : MemPlace)
  /-- HUB_RELOAD_DONE (R50). -/
  | hubReloadDone (die : Nat)
  /-- FENCE_DECAY (R396). -/
  | fenceDecay
  /-- REQ_TIMEOUT (R394). -/
  | reqTimeout (kind : ReqKind)
  /-- READ (R365). -/
  | read (src : MsgSrc)
  /-- WRITE (R362). -/
  | write (src : MsgSrc)
  /-- DESCRIBE (R371). -/
  | describe (src : MsgSrc)
  /-- SEG_READ (R369). -/
  | segRead (src : MsgSrc)
  /-- SEG_WRITE (R369). -/
  | segWrite (src : MsgSrc)
  /-- DAP_PATH_RELEASE (R377). -/
  | dapPathRelease (path : Nat)
  /-- EXPERT_UNLOCK (R379). -/
  | expertUnlock (path value : Nat)
  /-- EXPERT_UNLOCK_EXPIRY (R379). -/
  | expertUnlockExpiry (path : Nat)
  /-- SAVE (R380). -/
  | save (path value : Nat)
  /-- SAVE_DONE (R381). -/
  | saveDone (good : Bool)
  /-- RESTORE_DEFAULTS (R381). -/
  | restoreDefaults (path value : Nat)
  /-- COUNTER_CLEAR (R363). -/
  | counterClear (path entry value : Nat)
  /-- STAT_CLEAR (R191). -/
  | statClear (path value : Nat)
  /-- FENCE_CORE (R396). -/
  | fenceCore (path value : Nat)
  /-- FENCE_CLEAR (R408). -/
  | fenceClear (path value : Nat)
  /-- TAB_UNLOAD (R266). -/
  | tabUnload (path value : Nat)
  /-- CORE_PART (R19). -/
  | corePart (path die value : Nat)
  /-- KERNEL_CODE (R111). -/
  | kernelCode (path : Nat) (block : List Byte)
  /-- LOG_ACK (R405). -/
  | logAck (path value : Nat)
  /-- POWER_ON (R415). -/
  | powerOn (path value : Nat)
  /-- RESET_REQUEST (R425). -/
  | resetRequest (path value : Nat)
  /-- PORT_ENABLE (R338). -/
  | portEnable (path value : Nat)
  /-- TIME_MASTER (R350). -/
  | timeMaster (path value : Nat)
  /-- TIME_PARENT_PORT (R350). -/
  | timeParentPort (path value : Nat)
  /-- FW_UPD_DATA (R442). -/
  | fwUpdData (path : Nat) (data : List Byte)
  /-- FW_UPD_COMMIT (R442). -/
  | fwUpdCommit (path value : Nat)
  /-- FW_COMMIT_CHECK_DONE (R442). -/
  | fwCommitCheckDone (image : FwImage)
  /-- ATT_NONCE (R444). -/
  | attNonce (path : Nat) (nonce : List Byte)
  /-- QUOTE_READY (R444). -/
  | quoteReady
  /-- DBG_CHALLENGE (R450). -/
  | dbgChallenge (path : Nat) (fresh : List Byte)
  /-- DBG_CHALLENGE_LAPSE (R450). -/
  | dbgChallengeLapse
  /-- DBG_TOKEN (R452). -/
  | dbgToken (path : Nat) (token : List Byte) (signed : Bool)
  /-- DEBUG_ERASURE_DONE (R453). -/
  | debugErasureDone
  /-- DBG_CLOSE (R454). -/
  | dbgClose (path value : Nat)
  /-- IDE_KEY_MANAGEMENT (R445). -/
  | ideKeyManagement (port : Port) (secure : Bool)
  /-- IDE_FAILED (R445). -/
  | ideFailed (port : Port)
  /-- BYPASS (R449). -/
  | bypass
  /-- IDCODE (R449). -/
  | idcode
  /-- SAMPLE_PRELOAD (R449). -/
  | samplePreload (captured preload : Nat)
  /-- EXTEST (R449). -/
  | extest
  /-- CLAMP (R449). -/
  | clamp
  /-- HIGHZ (R449). -/
  | highz
  /-- PORT_TRAINING_DONE (R338). -/
  | portTrainingDone (port : Nat)
  /-- PORT_TRAINING_TIMEOUT (R338). -/
  | portTrainingTimeout (port : Nat)
  /-- FEC_LOCK_LOST (R338). -/
  | fecLockLost (port cause : Nat)
  /-- QUERY (R344). -/
  | query (port : Nat) (rx : RxFrame) (lag : Nat)
  /-- LIST (R345). -/
  | list (port : Nat) (rx : RxFrame) (lag : Nat)
  /-- ROW_LIST (R348). -/
  | rowList (port : Nat) (rx : RxFrame)
  /-- CANCEL (R347). -/
  | cancel (port : Nat) (rx : RxFrame)
  /-- FABRIC_LAST_ACCEPT (R345). -/
  | fabricLastAccept (tag lag : Nat)
  /-- ACK (R337). -/
  | ack (port : Nat) (lc : LinkControl)
  /-- NAK (R337). -/
  | nak (port : Nat) (lc : LinkControl)
  /-- CREDIT (R336). -/
  | credit (port : Nat) (lc : LinkControl)
  /-- LINK_CONTROL_SEND (R336). -/
  | linkControlSend (port : Nat)
  /-- TIME_EXCHANGE_START (R349). -/
  | timeExchangeStart (lag : Nat)
  /-- TIME_REQ (R349). -/
  | timeReq (port : Nat) (lc : LinkControl) (lagIn lagOut : Nat)
  /-- TIME_RSP (R350). -/
  | timeRsp (port : Nat) (lc : LinkControl) (lag : Nat)
  /-- TIME_EXCHANGE_TIMEOUT (R349). -/
  | timeExchangeTimeout
  /-- TIME_SLEW (R350). -/
  | timeSlew
  /-- AUX_POWER_ON (R430). -/
  | auxPowerOn (modId : Nat) (split : Bool)
  /-- STRAP_SAMPLE (R429). -/
  | strapSample
  /-- AUX_POWER_LOSS (R464). -/
  | auxPowerLoss
  /-- PWR_EN_RISE (R415). -/
  | pwrEnRise (stable : Nat)
  /-- PWR_EN_FALL (R425). -/
  | pwrEnFall (stable : Nat)
  /-- MAIN_START_STEP_DONE (R431). -/
  | mainStartStepDone (failedCores : List Nat)
  /-- STARTUP_FAILED (R432). -/
  | startupFailed (unit stackOk farOk : Nat)
  /-- PERST_N_ASSERT (R427). -/
  | perstNAssert (stable : Nat)
  /-- PERST_N_RELEASE (R433). -/
  | perstNRelease (stable : Nat)
  /-- PORT_RESET (R426). -/
  | portReset (port : Port) (cause : Nat)
  /-- LINK_UP (R433). -/
  | linkUp (port : Port)
  /-- POWER_SAMPLE (R416). -/
  | powerSample (watts : Nat)
  /-- CAP_LOOP_STEP (R419). -/
  | capLoopStep (dies memories : List Draw)
  /-- CAP_RAISE (R419). -/
  | capRaise
  /-- THERMAL_THROTTLE (R421). -/
  | thermalThrottle
  /-- THERMAL_TRIP (R422). -/
  | thermalTrip (sensor : Nat)
  /-- OVERCURRENT (R424). -/
  | overcurrent (mA : Nat)
  /-- PUMP_OK_CHANGE (R423). -/
  | pumpOkChange (level : Bool) (stable : Nat)
  /-- PUMP_LOST (R423). -/
  | pumpLost
  /-- PUMP_RESTORED (R423). -/
  | pumpRestored
  /-- POWER_COMMIT_POINT (R225). -/
  | powerCommitPoint
  /-- POWER_ENTRY_ABANDON (R225). -/
  | powerEntryAbandon
  /-- POWER_ENTRY_COMPLETE (R414). -/
  | powerEntryComplete (lag : Nat)
  /-- POWER_RETURN_COMPLETE (R415). -/
  | powerReturnComplete
  /-- BUFFER_READ_DONE (R228). -/
  | bufferReadDone (slot seq : Nat) (buf : BufKind) (data : Option (List Byte))
  /-- EXACT_SWEEP_DONE (R91). -/
  | exactSweepDone (tag stack : Nat) (bad : List Nat)
  /-- SEARCH_METER_TOKEN (R418). -/
  | searchMeterToken
  /-- REG_BUCKET_REFILL (R322). -/
  | regBucketRefill (die : Nat)
  /-- TEMPERATURE_CHANGE (R421). -/
  | temperatureChange (sensor : Nat) (value : Int)
  /-- AUX_STARTUP_DONE (R430). -/
  | auxStartupDone
  /-- MAILBOX_GO (R373). -/
  | mailboxGo (port : Port) (value : Nat)
  /-- MB_STATUS_CLEAR (R372). -/
  | mbStatusClear (port : Port) (value : Nat)
  /-- MALFORMED_MESSAGE (R370). -/
  | malformedMessage (src : MsgSrc) (queueFull : Bool)
  /-- NEIGHBOUR_DISCOVERY (R375). -/
  | neighbourDiscovery (message : NdMessage)
  /-- PLCA_BEACON_CHANGE (R374). -/
  | plcaBeaconChange (seen : Bool)
  /-- BAD_FRAME (R334). -/
  | badFrame (port : Nat) (rx : RxFrame)
  /-- SPDM_REQUEST (R445). -/
  | spdmRequest (port : Port) (authentic : Bool)
  /-- TAP_RESET (R472). -/
  | tapReset (asserted : Bool)
  deriving DecidableEq, Repr

end Sys2Proof
end

