-- ==== Sys2Proof/Decode.lean ====
section
/-!
DEFINITION. The opcode table gives its rows no bits: the module has no instruction words, and its commands come from
host memory, registers, pins and links. The decoder over the table's bits therefore answers none for every word.
-/
namespace Sys2Proof

/-- The command that a word of `nbits` bits spells by the opcode table's bits: none, since no row gives bits. -/
def decodeTableWord (_nbits _w : Nat) : Option Instr := none

end Sys2Proof
end

