-- ==== Sys2Proof/Config.lean ====
section
/-!
DEFINITION. What the manual leaves to the part or leaves open: functions with no body. Nothing can be proved
about a value of one of them, so every statement holds whatever they are. Each is named in the assumption log.
-/
namespace Sys2Proof.Config

/-- The low bits of the NaN encodings that the module writes (IEEE 754 fixes no payload; R257).
Log entry 15. -/
opaque nanPayload : Nat → Nat

/-- A byte whose value the manual does not define: background `tag`, address (R399 step 4).
Log entry 3. -/
opaque freeByte : Nat → Nat → Byte

/-- An accumulator element whose value the manual does not define: background `tag`, position (R399 step 4).
Log entry 3. -/
opaque freeElem : Nat → Nat → W32

/-- The fused unique secret, the identity key pair that it gives, and the key pair of a numbered draw (R443, R447, R453).
Log entry 14. -/
opaque fusedSecret : Nat
opaque derivedPair : Nat → Nat
opaque drawnPair : Nat → Nat

/-- The ECDSA P-384 signature of a quote by an identity key pair (R444).
Log entry 14. -/
opaque quoteSignature : Nat → List Byte → List Byte

/-- The slot that the image after a free value is written into in the recovery service, where either may be written (R441).
Log entry 138. -/
opaque recoverySlot : Nat → Nat

/-- Digest of the boot ROM and of the die firmware (R443).
Log entry 13. -/
opaque romDigest : List Byte
opaque dieFirmwareDigest : Nat → List Byte

/-- The serialised form of a saved set and of a fence list, whose layouts the manual keeps closed (R381, R443).
Log entry 13. -/
opaque savedSetDigest : List (Nat × Nat × Nat) → List Byte
opaque fenceListDigest : List Nat → List Byte

/-- Whether the signature of a debug token verifies under the debug-authority key (R451, R452).
Log entry 14. -/
opaque tokenSigned : List Byte → Bool

/-- ARG0 of WARM_RESTART after a write of DBG_CLOSE: the manual lists no code for it (R435, R454).
Log entry 16. -/
opaque debugCloseArg : Nat

/-- The assigned PCIe vendor ID and the revision (R193), which the manual does not give.
Log entry 13. -/
opaque vendorId : Nat
opaque pcieRevision : Nat

/-- The part's attestation certificate and its serial number, of which 20 characters count (R2, R457).
Log entry 13. -/
opaque attCert : List Byte
opaque serial : List Byte

/-- The tag in the first 8 bytes of ACC_DATA, whose encoding no rule gives (R274): mode code, whether the tile is FP16, byte.
Log entry 23. -/
opaque accTag : Nat → Bool → Nat → Byte

/-- ARG0 of FAB_PORT_DOWN when PORT_ENABLE was written 0: the manual lists no code for it (R338, R403).
Log entry 16. -/
opaque portDisabledArg : Nat

/-- The output of ACT EXP_SHIFT where ROWSTAT is not MAXEXP, which no rule gives (R258, R259).
Log entry 24. -/
opaque expShiftAlone : W32 → W32

/-- The SCALE of a governed channel whose absolute maximum is not finite, which no rule gives (R284, R285).
Log entry 25. -/
opaque scaleOfNonfinite : Nat → W32

/-- ARG1 "layer and role" of LAYER_REPLAY, whose packing no rule gives (R403).
Log entry 16. -/
opaque layerRoleArg : Nat → Nat → Nat

/-- Whether the first of two search-list entries with the same key stands before the second: the order is not specified
(R90, R120, R124).
Log entry 18. -/
opaque tieOrder : Nat → Nat → Nat → Bool

/-- The code element of a projected element that is NaN (types 1 and 2), for which the mapping states no value (R161).
Log entry 19. -/
opaque nanCode : Nat → Nat

/-- A temporary register of a user kernel's element stage that the kernel reads before it writes it: register, element
(R110).
Log entry 20. -/
opaque kernelTemp : Nat → Nat → W32

/-- Where the binary64 evaluation of the fit of R166 rounds: to the FP32 value of the exact least-squares gain or offset, or to
the FP32 value below (0) or above (1) it: no rule states the order of its operations.
Log entry 21. -/
opaque fitStepG : List (W32 × W32) → Nat
opaque fitStepOff : List (W32 × W32) → Nat

/-- How many records of its stack a context of SEARCH_EXACT has evaluated when it is cut: it depends on timing (R91).
Background tag, stack.
Log entry 22. -/
opaque exactReach : Nat → Nat → Nat

/-- ARG1 "header STATE and NBR_COUNT" of RECORD_STATE, whose packing no rule gives (R403).
Log entry 16. -/
opaque recordStateArg : Nat → Nat → Nat

/-- ARG0 "request kind" and ARG1 "target unit" of REQ_TIMEOUT, whose codes no rule gives (R403).
Log entry 16. -/
opaque reqKindArg : Nat → Nat
opaque reqUnitArg : Nat → Nat

end Sys2Proof.Config
end

