-- ==== Sys2Proof/Machine/Bits.lean ====
section
/-!
DEFINITION. Bit fields and byte order (R6): structures are little-endian, bit 0 is the least significant
bit of a field, and a field is written [msb:lsb].
-/
namespace Sys2Proof

/-- The field [hi:lo] of a number read as bits (R6). -/
def bits (w hi lo : Nat) : Nat := (w >>> lo) % 2 ^ (hi + 1 - lo)

/-- One bit of a number. -/
def bit (w i : Nat) : Bool := w.testBit i

/-- The number that a run of bytes spells, least significant byte first (R6). -/
def leNat : List Byte → Nat
  | [] => 0
  | b :: r => b.toNat + 256 * leNat r

/-- The `n` bytes of a number, least significant byte first (R6). -/
def leBytes : Nat → Nat → List Byte
  | 0, _ => []
  | n + 1, v => BitVec.ofNat 8 v :: leBytes n (v / 256)

/-- `n` bytes from offset `off` of a run of bytes. -/
def slice (bs : List Byte) (off n : Nat) : List Byte := (bs.drop off).take n

/-- The little-endian number of `n` bytes at offset `off`. -/
def numAt (bs : List Byte) (off n : Nat) : Nat := leNat (slice bs off n)

/-- `x` is a multiple of `a`. -/
def aligned (x a : Nat) : Bool := x % a == 0

/-- The smallest multiple of `a` at or above `x`. -/
def roundUp (x a : Nat) : Nat := (x + a - 1) / a * a

/-- The quotient rounded up. -/
def ceilDiv (x a : Nat) : Nat := (x + a - 1) / a

/-- A number of `w` bits read as two's complement. -/
def signedOf (w v : Nat) : Int := if v < 2 ^ (w - 1) then (v : Int) else (v : Int) - (2 ^ w : Nat)

/-- The `w`-bit two's complement encoding of an integer. -/
def encodeSigned (w : Nat) (i : Int) : Nat := (i % (2 ^ w : Nat)).toNat

/-- Place a field at bit `lo` of a word under construction. -/
def put (lo v : Nat) : Nat := v <<< lo

/-- Element `i` of a list, `d` past its end. -/
def nth (l : List α) (i : Nat) (d : α) : α := l.getD i d

/-- Insertion into a list sorted by `le`, after every element that is `le` it. -/
def insertBy (le : α → α → Bool) (x : α) : List α → List α
  | [] => [x]
  | y :: r => if le y x then y :: insertBy le x r else x :: y :: r

/-- Stable insertion sort. -/
def sortBy (le : α → α → Bool) : List α → List α
  | [] => []
  | x :: r => insertBy (fun y z => !le z y) x (sortBy le r)

/-- The value stored under a key of an association list. -/
def look (l : List (Nat × α)) (k : Nat) : Option α := (l.find? (fun p => p.1 == k)).map Prod.snd

/-- Store a value under a key; keys stay in rising order. -/
def keep (k : Nat) (v : α) : List (Nat × α) → List (Nat × α)
  | [] => [(k, v)]
  | (j, w) :: r => if j < k then (j, w) :: keep k v r else if j = k then (k, v) :: r else (k, v) :: (j, w) :: r

/-- Forget a key. -/
def forget (l : List (Nat × α)) (k : Nat) : List (Nat × α) := l.filter (fun p => p.1 != k)

/-- Change the value under a key, if it is there. -/
def alter (l : List (Nat × α)) (k : Nat) (f : α → α) : List (Nat × α) :=
  l.map (fun p => if p.1 == k then (p.1, f p.2) else p)

/-- Change element `i` of a list. -/
def modAt (l : List α) (i : Nat) (f : α → α) : List α := l.modify i f

/-- The lowest number below `n` (searched upward from `start`) that satisfies `p`. -/
def lowestFrom (p : Nat → Bool) (start : Nat) : Nat → Option Nat
  | 0 => none
  | n + 1 => if p start then some start else lowestFrom p (start + 1) n

/-- The sum of a list. -/
def sumOf (l : List Nat) : Nat := l.foldl (· + ·) 0

/-- A list with an element in it, once. -/
def addOnce (l : List Nat) (x : Nat) : List Nat := if l.contains x then l else l ++ [x]

/-- The 64-bit mixing function of R165. -/
def mix64 (k0 : Nat) : Nat :=
  let m := 2 ^ 64
  let k := (k0 + 0x9E3779B97F4A7C15) % m
  let k := ((k ^^^ (k >>> 30)) * 0xBF58476D1CE4E5B9) % m
  let k := ((k ^^^ (k >>> 27)) * 0x94D049BB133111EB) % m
  k ^^^ (k >>> 31)

end Sys2Proof
end

