-- ==== Sys2Proof/Types/Dict.lean ====
section
/-!
DEFINITION. The object dictionary: stored values, access paths and the saved set (13).
-/
namespace Sys2Proof

/-- What a table of the manual says of an entry (R356-R361, R371): key index·256 + subindex, name, type code, length,
access code, Default, level E, persistence N, range with step and further accepted values (`ranged` where a range is
stated), selector, window family (0: none), and whether a write of 0 clears it. -/
structure DictEnt where
  key : Nat
  name : String
  typ : Nat
  len : Nat
  acc : Nat
  dflt : Nat := 0
  expert : Bool := false
  persist : Bool := false
  ranged : Bool := false
  lo : Nat := 0
  hi : Nat := 0
  step : Nat := 1
  also : List Nat := []
  sel : Bool := false
  win : Nat := 0
  clears : Bool := false
  deriving DecidableEq, Repr

/-- An access path (R366): selector values (key index·256 + subindex), expert unlock (tick of the last E write),
segment staging (entry key and the bytes so far), kept responses, last use. -/
structure Path where
  peer : Option Peer := none
  sels : List (Nat × Nat) := []
  unlock : Option Nat := none
  stage : Option (Nat × List Byte) := none
  replies : List (Nat × List Byte) := []
  lastUse : Nat := 0
  deriving DecidableEq, Repr

/-- A copy of the saved set in FL1 (R381): stored values by entry key. -/
structure SavedCopy where
  seq : Nat := 0
  valid : Bool := false
  vals : List (Nat × Nat) := []
  deriving DecidableEq, Repr

/-- The dictionary (R356-R385). `vals` lists the entries that do not hold their Default: key
(index·256 + subindex)·65536 + object, value in the entry's encoding. `restart` is the cause of a warm restart that a message
asked for and that follows its answer. `sent` and `icmp` hold datagrams and ICMPv6
messages that left the management port, newest first. -/
structure Dict where
  ready : Bool := false
  vals : List (Nat × Nat) := []
  paths : List Path := List.replicate 18 {}
  restart : Option Nat := none
  saving : Option (List (Nat × Nat)) := none
  saveState : Nat := 0
  saveCount : Nat := 0
  copyA : SavedCopy := {}
  copyB : SavedCopy := {}
  loadResult : Nat := 1
  loadDefaulted : Nat := 0
  link : Nat := 0
  dupAddr : Bool := false
  sent : List (Peer × List Byte) := []
  icmp : List (List Byte × List Byte) := []
  deriving DecidableEq, Repr

end Sys2Proof
end

