-- ==== Sys2Proof/Machine/DictTable.lean ====
section
/-!
DEFINITION. The entries of the object dictionary, in ascending order of index and subindex, as the tables of the
manual list them (R2, R24, R58, R59, R87-R89, R98, R112, R115, R133, R156-R158, R189-R191, R231-R233, R275, R276,
R299-R301, R327, R328, R352-R354, R384-R387, R408, R409, R436-R438, R457, R476).
-/
namespace Sys2Proof.Machine

def entries0 : List DictEnt := [
  { key := 0x100001, name := "VENDOR_NAME", typ := 10, len := 64, acc := 4, persist := true },
  { key := 0x100002, name := "FAMILY_NAME", typ := 10, len := 64, acc := 4, persist := true },
  { key := 0x100003, name := "ORDER_CODE", typ := 10, len := 64, acc := 4, persist := true },
  { key := 0x100004, name := "STEPPING", typ := 10, len := 64, acc := 4, persist := true },
  { key := 0x100005, name := "FW_VERSION", typ := 4, len := 4, acc := 0, persist := true },
  { key := 0x100006, name := "SERIAL", typ := 10, len := 64, acc := 4, persist := true },
  { key := 0x100101, name := "DICT_VERSION", typ := 3, len := 2, acc := 4, dflt := 256, persist := true },
  { key := 0x100102, name := "ENTRY_COUNT", typ := 3, len := 2, acc := 0 },
  { key := 0x100103, name := "DICT_READY", typ := 1, len := 1, acc := 0 },
  { key := 0x100104, name := "PATH_ID", typ := 2, len := 1, acc := 0 },
  { key := 0x101001, name := "EXPERT_UNLOCK", typ := 4, len := 4, acc := 2, ranged := true, hi := 0, also := [1953527909] },
  { key := 0x101002, name := "EXPERT_STATE", typ := 1, len := 1, acc := 0 },
  { key := 0x101003, name := "EXPERT_TIMEOUT", typ := 4, len := 4, acc := 1, dflt := 600, persist := true, ranged := true, lo := 10, hi := 86400 },
  { key := 0x102001, name := "SAVE", typ := 4, len := 4, acc := 2, ranged := true, lo := 1702257011, hi := 1702257011 },
  { key := 0x102002, name := "SAVE_STATE", typ := 2, len := 1, acc := 0 },
  { key := 0x102003, name := "SAVE_COUNT", typ := 4, len := 4, acc := 0, persist := true },
  { key := 0x102004, name := "RESTORE_DEFAULTS", typ := 4, len := 4, acc := 2, expert := true, ranged := true, lo := 1818649956, hi := 1818649956 },
  { key := 0x102005, name := "LOAD_RESULT", typ := 2, len := 1, acc := 0 },
  { key := 0x102006, name := "LOAD_DEFAULTED", typ := 3, len := 2, acc := 0, expert := true },
  { key := 0x103001, name := "DAP_ENABLE", typ := 1, len := 1, acc := 1, dflt := 1, persist := true, ranged := true, hi := 1 },
  { key := 0x103002, name := "DAP_UDP_PORT", typ := 3, len := 2, acc := 4, dflt := 47820, persist := true },
  { key := 0x103003, name := "MGMT_MAC", typ := 11, len := 6, acc := 0 },
  { key := 0x103004, name := "PLCA_NODE_ID", typ := 2, len := 1, acc := 0 },
  { key := 0x103005, name := "MGMT_LINK", typ := 2, len := 1, acc := 0 },
  { key := 0x103006, name := "DAP_PATHS", typ := 2, len := 1, acc := 0 },
  { key := 0x103007, name := "DAP_PATH_IDLE", typ := 4, len := 4, acc := 1, dflt := 300, expert := true, persist := true, ranged := true, lo := 10, hi := 86400 },
  { key := 0x110001, name := "DIES", typ := 2, len := 1, acc := 4, dflt := 8, persist := true },
  { key := 0x110002, name := "HUBS", typ := 2, len := 1, acc := 4, dflt := 2, persist := true },
  { key := 0x110003, name := "STACKS", typ := 2, len := 1, acc := 4, dflt := 16, persist := true },
  { key := 0x110004, name := "FAR_PACKAGES", typ := 2, len := 1, acc := 4, dflt := 32, persist := true },
  { key := 0x110005, name := "STACK_OK", typ := 3, len := 2, acc := 0 },
  { key := 0x110006, name := "FAR_OK", typ := 4, len := 4, acc := 0 },
  { key := 0x110007, name := "LOGICAL_CORES", typ := 3, len := 2, acc := 0 },
  { key := 0x110008, name := "SPARES_TOTAL", typ := 2, len := 1, acc := 0 },
  { key := 0x111001, name := "FENCE_DIE_SEL", typ := 2, len := 1, acc := 1, ranged := true, hi := 7, sel := true },
  { key := 0x111101, name := "PHYS_STATE", typ := 11, len := 66, acc := 0, win := 11 },
  { key := 0x111102, name := "LOGICAL_MAP", typ := 11, len := 64, acc := 0, win := 11 },
  { key := 0x111103, name := "SPARES_FREE", typ := 2, len := 1, acc := 0, win := 11 },
  { key := 0x111104, name := "FENCED", typ := 2, len := 1, acc := 0, win := 11 },
  { key := 0x111105, name := "DEGRADED", typ := 1, len := 1, acc := 0, win := 11 }]

def entries1 : List DictEnt := [
  { key := 0x200001, name := "PWR_STATE", typ := 2, len := 1, acc := 0, dflt := 4 },
  { key := 0x200002, name := "POWER_IN", typ := 3, len := 2, acc := 0 },
  { key := 0x200003, name := "CAP_LIMIT", typ := 3, len := 2, acc := 1, dflt := 1500, persist := true, ranged := true, lo := 1000, hi := 1500 },
  { key := 0x200004, name := "DENSE_DUTY", typ := 2, len := 1, acc := 0, dflt := 64, expert := true },
  { key := 0x200005, name := "SEARCH_METER", typ := 2, len := 1, acc := 0, dflt := 64, expert := true },
  { key := 0x200006, name := "SEARCH_FLOOR", typ := 2, len := 1, acc := 1, dflt := 8, expert := true, persist := true, ranged := true, lo := 1, hi := 64 },
  { key := 0x200007, name := "WAKE_ON_DOORBELL", typ := 1, len := 1, acc := 1, persist := true, ranged := true, hi := 1 },
  { key := 0x200008, name := "POWER_ON", typ := 4, len := 4, acc := 2, ranged := true, lo := 1852798832, hi := 1852798832 },
  { key := 0x200009, name := "RESET_REQUEST", typ := 4, len := 4, acc := 2, expert := true, ranged := true, lo := 1953722999, hi := 1953722999 },
  { key := 0x20000A, name := "CAP_TIME", typ := 9, len := 8, acc := 0 },
  { key := 0x20000B, name := "PUMP_OK_USE", typ := 1, len := 1, acc := 1, dflt := 1, expert := true, persist := true, ranged := true, hi := 1 },
  { key := 0x20000C, name := "LAST_OFF_CAUSE", typ := 2, len := 1, acc := 0, persist := true },
  { key := 0x20000D, name := "STARTUP_STEP", typ := 2, len := 1, acc := 0 },
  { key := 0x201001, name := "ARB_POLICY", typ := 2, len := 1, acc := 1, persist := true, ranged := true, hi := 2 },
  { key := 0x201002, name := "ARB_SEARCH_SHARE", typ := 2, len := 1, acc := 1, dflt := 50, expert := true, persist := true, ranged := true, hi := 100 },
  { key := 0x201003, name := "ARB_CAP_ACTIVE", typ := 1, len := 1, acc := 0 },
  { key := 0x210001, name := "TEMP_MAX", typ := 6, len := 4, acc := 0 },
  { key := 0x210002, name := "TEMPS", typ := 11, len := 120, acc := 0, expert := true },
  { key := 0x210003, name := "THROTTLE_DIE", typ := 2, len := 1, acc := 1, dflt := 95, expert := true, persist := true, ranged := true, lo := 70, hi := 100 },
  { key := 0x210004, name := "THROTTLE_STACK", typ := 2, len := 1, acc := 1, dflt := 90, expert := true, persist := true, ranged := true, lo := 70, hi := 95 },
  { key := 0x210005, name := "THROTTLE_FAR", typ := 2, len := 1, acc := 1, dflt := 85, expert := true, persist := true, ranged := true, lo := 65, hi := 90 },
  { key := 0x210006, name := "TRIP_DIE", typ := 2, len := 1, acc := 4, dflt := 110, persist := true },
  { key := 0x210007, name := "TRIP_STACK", typ := 2, len := 1, acc := 4, dflt := 105, persist := true },
  { key := 0x210008, name := "TRIP_FAR", typ := 2, len := 1, acc := 4, dflt := 100, persist := true },
  { key := 0x210009, name := "PUMP_OK_STATE", typ := 1, len := 1, acc := 0 },
  { key := 0x21000A, name := "THERMAL_THROTTLING", typ := 1, len := 1, acc := 0 },
  { key := 0x220001, name := "TIME_BASE", typ := 9, len := 8, acc := 0 },
  { key := 0x220002, name := "PLL_LOCKED", typ := 5, len := 8, acc := 0, expert := true },
  { key := 0x220003, name := "PCIE_REFCLK_MODE", typ := 2, len := 1, acc := 1, expert := true, persist := true, ranged := true, hi := 1 },
  { key := 0x220004, name := "CCLK_MHZ", typ := 3, len := 2, acc := 4, dflt := 900, persist := true },
  { key := 0x300001, name := "NEAR_RESERVE", typ := 3, len := 2, acc := 3, dflt := 64, expert := true, persist := true, ranged := true, lo := 32, hi := 256, step := 16 },
  { key := 0x300002, name := "NEAR_RECORD_AREA", typ := 5, len := 8, acc := 0, dflt := 0xB000000000 },
  { key := 0x300003, name := "MIRROR_BUDGET", typ := 3, len := 2, acc := 3, dflt := 32, expert := true, persist := true, ranged := true, lo := 8, hi := 44 },
  { key := 0x300004, name := "SIDE_CHUNKS_FREE", typ := 4, len := 4, acc := 0, dflt := 0x80000 },
  { key := 0x300005, name := "PCACHE_FREE_MIN", typ := 2, len := 1, acc := 0, dflt := 32, expert := true },
  { key := 0x300006, name := "SWEEP_SHARE", typ := 2, len := 1, acc := 1, dflt := 20, expert := true, persist := true, ranged := true, lo := 5, hi := 50 },
  { key := 0x310001, name := "FAR_RESERVE", typ := 3, len := 2, acc := 3, dflt := 128, expert := true, persist := true, ranged := true, lo := 128, hi := 512, step := 32 },
  { key := 0x310002, name := "FAR_RERANK_AREA", typ := 5, len := 8, acc := 0, dflt := 0x1E000000000 },
  { key := 0x310003, name := "JOURNAL_FREE", typ := 5, len := 8, acc := 0, dflt := 0xC00000000 },
  { key := 0x310004, name := "IDMAP_ENTRIES", typ := 5, len := 8, acc := 0, dflt := 0x100000000 }]

def entries2 : List DictEnt := [
  { key := 0x310005, name := "IDMAP_FREE", typ := 5, len := 8, acc := 0, dflt := 0x100000000 },
  { key := 0x320001, name := "NM_SPLIT", typ := 4, len := 4, acc := 3, dflt := 0x46140A, expert := true, persist := true },
  { key := 0x320002, name := "REG_RATE", typ := 3, len := 2, acc := 1, dflt := 1024, expert := true, persist := true, ranged := true, lo := 16, hi := 4096, step := 16, also := [0] },
  { key := 0x320003, name := "REG_BURST", typ := 2, len := 1, acc := 1, dflt := 8, expert := true, persist := true, ranged := true, lo := 1, hi := 64 },
  { key := 0x320004, name := "STREAM_POOL", typ := 2, len := 1, acc := 0, dflt := 14 },
  { key := 0x320005, name := "POOL_SHARED_FREE_MIN", typ := 4, len := 4, acc := 0, expert := true },
  { key := 0x320006, name := "REQ_OUT_MAX", typ := 3, len := 2, acc := 4, dflt := 512, expert := true, persist := true },
  { key := 0x400001, name := "LINK_MODE", typ := 2, len := 1, acc := 0 },
  { key := 0x400002, name := "CHAN_SPLIT", typ := 3, len := 2, acc := 3, dflt := 2048, expert := true, persist := true, ranged := true, lo := 16, hi := 4080, step := 16 },
  { key := 0x400003, name := "CHANNELS_OPEN", typ := 3, len := 2, acc := 0, dflt := 1 },
  { key := 0x400004, name := "RLOCK_FREE", typ := 3, len := 2, acc := 0, dflt := 1024, expert := true },
  { key := 0x400005, name := "PRI_TIMEOUT", typ := 4, len := 4, acc := 1, dflt := 100, expert := true, persist := true, ranged := true, lo := 1, hi := 10000 },
  { key := 0x400006, name := "ENTRY_IDLE_TIME", typ := 4, len := 4, acc := 1, dflt := 10000, expert := true, persist := true, ranged := true, lo := 1000, hi := 1000000 },
  { key := 0x400007, name := "ENTRY_DRAIN_LIMIT", typ := 4, len := 4, acc := 1, dflt := 100, expert := true, persist := true, ranged := true, lo := 1, hi := 10000 },
  { key := 0x400008, name := "DEFER_DEPTH", typ := 2, len := 1, acc := 4, dflt := 64, expert := true, persist := true },
  { key := 0x400009, name := "ATC_ENTRIES", typ := 4, len := 4, acc := 4, dflt := 16384, expert := true, persist := true },
  { key := 0x410001, name := "CHAN_SEL", typ := 12, len := 4, acc := 1, sel := true },
  { key := 0x411001, name := "CHAN_STATE", typ := 2, len := 1, acc := 0, win := 1 },
  { key := 0x411002, name := "CHAN_TENANT", typ := 2, len := 1, acc := 0, win := 1 },
  { key := 0x411003, name := "CHAN_PASID", typ := 4, len := 4, acc := 0, expert := true, win := 1 },
  { key := 0x411004, name := "SQ_ENTRIES", typ := 4, len := 4, acc := 0, win := 1 },
  { key := 0x411005, name := "CQ_ENTRIES", typ := 4, len := 4, acc := 0, win := 1 },
  { key := 0x411006, name := "SQ_HEAD", typ := 3, len := 2, acc := 0, expert := true, win := 1 },
  { key := 0x411007, name := "OUTSTANDING", typ := 3, len := 2, acc := 0, win := 1 },
  { key := 0x411008, name := "DEFER_PENDING", typ := 2, len := 1, acc := 0, win := 1 },
  { key := 0x411009, name := "CHAN_ERROR_CAUSE", typ := 2, len := 1, acc := 0, win := 1 },
  { key := 0x41100A, name := "INT_COALESCE_TIME", typ := 4, len := 4, acc := 1, expert := true, ranged := true, hi := 1000000, win := 1 },
  { key := 0x41100B, name := "INT_COALESCE_COUNT", typ := 3, len := 2, acc := 1, dflt := 1, expert := true, ranged := true, lo := 1, hi := 1024, win := 1 },
  { key := 0x500001, name := "QUALITY_DEFAULT", typ := 2, len := 1, acc := 1, dflt := 5, persist := true, ranged := true, lo := 1, hi := 9 },
  { key := 0x500002, name := "CAND_WIDTH_DEFAULT", typ := 3, len := 2, acc := 1, expert := true, persist := true, ranged := true, lo := 16, hi := 1024, also := [0] },
  { key := 0x500003, name := "HOP_BUDGET_DEFAULT", typ := 3, len := 2, acc := 1, expert := true, persist := true, ranged := true, lo := 16, hi := 65535, also := [0] },
  { key := 0x500004, name := "PREFETCH_DEFAULT", typ := 2, len := 1, acc := 1, dflt := 255, expert := true, persist := true, ranged := true, hi := 7, also := [255] },
  { key := 0x500005, name := "RERANK_DEPTH_DEFAULT", typ := 3, len := 2, acc := 1, dflt := 65535, expert := true, persist := true, ranged := true, hi := 1024, also := [65535] },
  { key := 0x500006, name := "BOUND_SLACK_DEFAULT", typ := 3, len := 2, acc := 1, dflt := 65535, expert := true, persist := true, ranged := true, hi := 1023, also := [65535] },
  { key := 0x500007, name := "EXACT_FAR_SHARE", typ := 2, len := 1, acc := 1, dflt := 25, expert := true, persist := true, ranged := true, lo := 1, hi := 100 },
  { key := 0x500008, name := "CUT_BIN_CAPACITY", typ := 3, len := 2, acc := 4, dflt := 4096, expert := true, persist := true },
  { key := 0x500009, name := "QTAB_FREE_MIN", typ := 3, len := 2, acc := 0, dflt := 7168, expert := true },
  { key := 0x50000A, name := "DMERGE_FREE_MIN", typ := 3, len := 2, acc := 0, dflt := 8192, expert := true },
  { key := 0x50000B, name := "HMERGE_FREE_MIN", typ := 3, len := 2, acc := 0, dflt := 16384, expert := true },
  { key := 0x50000C, name := "STRUM_WINDOW", typ := 4, len := 4, acc := 1, dflt := 0x186A0, expert := true, persist := true, ranged := true, lo := 10000, hi := 1000000 }]

def entries3 : List DictEnt := [
  { key := 0x502001, name := "KERNEL_SEL", typ := 2, len := 1, acc := 1, dflt := 1, expert := true, ranged := true, lo := 1, hi := 15, sel := true },
  { key := 0x502101, name := "KERNEL_CODE", typ := 11, len := 256, acc := 3, expert := true, persist := true, win := 4 },
  { key := 0x502102, name := "KERNEL_VALID", typ := 1, len := 1, acc := 0, expert := true, persist := true, win := 4 },
  { key := 0x502103, name := "KERNEL_COST", typ := 2, len := 1, acc := 0, expert := true, persist := true, win := 4 },
  { key := 0x502104, name := "KERNEL_REFS", typ := 3, len := 2, acc := 0, expert := true, win := 4 },
  { key := 0x600001, name := "INDEX_COUNT", typ := 3, len := 2, acc := 0 },
  { key := 0x600002, name := "INDEX_MAX", typ := 3, len := 2, acc := 4, dflt := 256, persist := true },
  { key := 0x600003, name := "INDEX_MAP", typ := 11, len := 32, acc := 0 },
  { key := 0x610001, name := "INDEX_SEL", typ := 2, len := 1, acc := 1, ranged := true, hi := 255, sel := true },
  { key := 0x610002, name := "PART_SEL", typ := 2, len := 1, acc := 1, ranged := true, hi := 63, sel := true },
  { key := 0x611001, name := "REC_FORMAT", typ := 2, len := 1, acc := 0, win := 2 },
  { key := 0x611002, name := "CODE_TYPE", typ := 2, len := 1, acc := 0, win := 2 },
  { key := 0x611003, name := "PARTITIONS", typ := 2, len := 1, acc := 0, win := 2 },
  { key := 0x611004, name := "PART_FN", typ := 2, len := 1, acc := 0, win := 2 },
  { key := 0x611005, name := "RERANK_FMT", typ := 2, len := 1, acc := 0, win := 2 },
  { key := 0x611006, name := "RERANK_DIMS", typ := 3, len := 2, acc := 0, win := 2 },
  { key := 0x611007, name := "METRIC", typ := 2, len := 1, acc := 0, win := 2 },
  { key := 0x611008, name := "RERANK_KERNEL", typ := 2, len := 1, acc := 0, expert := true, win := 2 },
  { key := 0x611009, name := "PROMOTE_BITS", typ := 2, len := 1, acc := 0, expert := true, win := 2 },
  { key := 0x61100A, name := "VEC_DIMS", typ := 3, len := 2, acc := 0, win := 2 },
  { key := 0x61100B, name := "OWNER_TENANT", typ := 2, len := 1, acc := 0, win := 2 },
  { key := 0x61100C, name := "HOME_HUB", typ := 2, len := 1, acc := 0, win := 2 },
  { key := 0x612001, name := "STACK_MASK", typ := 3, len := 2, acc := 0, win := 3 },
  { key := 0x612002, name := "SLOTS_PER_STACK", typ := 4, len := 4, acc := 0, win := 3 },
  { key := 0x612003, name := "SLOTS_OCCUPIED", typ := 4, len := 4, acc := 0, win := 3 },
  { key := 0x612004, name := "SIDE_ENTRIES", typ := 4, len := 4, acc := 0, win := 3 },
  { key := 0x612005, name := "MIRROR_QUOTA", typ := 4, len := 4, acc := 0, expert := true, win := 3 },
  { key := 0x612006, name := "MIRROR_USED", typ := 4, len := 4, acc := 0, expert := true, win := 3 },
  { key := 0x613001, name := "QUALITY", typ := 2, len := 1, acc := 1, ranged := true, hi := 9, win := 2 },
  { key := 0x613002, name := "ROUTE_THROUGH", typ := 1, len := 1, acc := 1, dflt := 1, ranged := true, hi := 1, win := 2 },
  { key := 0x614001, name := "CURRENT_EPOCH", typ := 5, len := 8, acc := 0, dflt := 1, win := 2 },
  { key := 0x614002, name := "LOW_WATER", typ := 5, len := 8, acc := 0, dflt := 1, expert := true, win := 2 },
  { key := 0x614003, name := "LUTHIER_STATE", typ := 2, len := 1, acc := 0, win := 2 },
  { key := 0x614004, name := "UNMERGED", typ := 5, len := 8, acc := 0, win := 2 },
  { key := 0x614005, name := "MERGE_LAG", typ := 9, len := 8, acc := 0, win := 2 },
  { key := 0x614006, name := "REPAIR_PENDING", typ := 5, len := 8, acc := 0, expert := true, win := 2 },
  { key := 0x614007, name := "RECLAIM_PENDING", typ := 5, len := 8, acc := 0, expert := true, win := 2 },
  { key := 0x614008, name := "PINS", typ := 3, len := 2, acc := 0, win := 2 },
  { key := 0x615001, name := "VER_NEWEST", typ := 2, len := 1, acc := 0, win := 2 },
  { key := 0x615002, name := "VER_HELD", typ := 2, len := 1, acc := 0, dflt := 1, win := 2 }]

def entries4 : List DictEnt := [
  { key := 0x615003, name := "RETUNE_STATE", typ := 2, len := 1, acc := 0, win := 2 },
  { key := 0x615004, name := "RETUNE_PROGRESS", typ := 5, len := 8, acc := 0, win := 2 },
  { key := 0x615005, name := "SHADOW_EPOCH", typ := 5, len := 8, acc := 0, expert := true, win := 2 },
  { key := 0x615006, name := "SWITCH_EPOCH", typ := 5, len := 8, acc := 0, expert := true, win := 2 },
  { key := 0x615007, name := "MSE_LIVE", typ := 8, len := 4, acc := 0, win := 2 },
  { key := 0x615008, name := "MSE_SHADOW", typ := 8, len := 4, acc := 0, win := 2 },
  { key := 0x615009, name := "CONST_GROUPS", typ := 2, len := 1, acc := 0, expert := true, win := 2 },
  { key := 0x61500A, name := "INSERT_CLAMP", typ := 4, len := 4, acc := 1, expert := true, ranged := true, win := 2, clears := true },
  { key := 0x61500B, name := "INSERT_NAN", typ := 4, len := 4, acc := 1, expert := true, ranged := true, win := 2, clears := true },
  { key := 0x61500C, name := "DRIFT_EVENTS", typ := 4, len := 4, acc := 1, ranged := true, win := 2, clears := true },
  { key := 0x680001, name := "COMMIT_INTERVAL", typ := 4, len := 4, acc := 1, dflt := 10000, expert := true, persist := true, ranged := true, lo := 1000, hi := 1000000 },
  { key := 0x680002, name := "COMMIT_BATCH_MAX", typ := 3, len := 2, acc := 1, dflt := 4096, expert := true, persist := true, ranged := true, lo := 1, hi := 4096 },
  { key := 0x680003, name := "MERGE_BATCH", typ := 3, len := 2, acc := 1, dflt := 256, expert := true, persist := true, ranged := true, lo := 1, hi := 1024 },
  { key := 0x680004, name := "MERGE_QUALITY", typ := 2, len := 1, acc := 1, dflt := 5, persist := true, ranged := true, lo := 1, hi := 9 },
  { key := 0x680005, name := "LUTHIER_SLOT_SHARE", typ := 2, len := 1, acc := 1, dflt := 10, expert := true, persist := true, ranged := true, lo := 1, hi := 50 },
  { key := 0x680006, name := "LUTHIER_CTX_MIN", typ := 3, len := 2, acc := 3, dflt := 256, expert := true, persist := true, ranged := true, hi := 4096 },
  { key := 0x680007, name := "SIDE_HIGH_MARK", typ := 2, len := 1, acc := 1, dflt := 75, persist := true, ranged := true, lo := 20, hi := 95 },
  { key := 0x680008, name := "REPAIR_TRIGGER", typ := 3, len := 2, acc := 1, dflt := 10, expert := true, persist := true, ranged := true, lo := 1, hi := 500 },
  { key := 0x680009, name := "REPAIR_MAX_DELAY", typ := 4, len := 4, acc := 1, dflt := 10000, expert := true, persist := true, ranged := true, lo := 100, hi := 3600000 },
  { key := 0x68000A, name := "PIN_MAX_AGE", typ := 4, len := 4, acc := 1, persist := true, ranged := true, lo := 1000, hi := 86400000, also := [0] },
  { key := 0x68000B, name := "PIN_LIMIT", typ := 3, len := 2, acc := 4, dflt := 4096, expert := true, persist := true },
  { key := 0x68000C, name := "MARKS_PER_CHAIN", typ := 2, len := 1, acc := 4, dflt := 16, expert := true, persist := true },
  { key := 0x68000D, name := "RETUNE_SAMPLES", typ := 4, len := 4, acc := 1, dflt := 65536, expert := true, persist := true, ranged := true, lo := 4096, hi := 262144 },
  { key := 0x68000E, name := "RETUNE_STRIDE", typ := 3, len := 2, acc := 1, dflt := 8, expert := true, persist := true, ranged := true, lo := 1, hi := 1024 },
  { key := 0x68000F, name := "RETUNE_SAMPLE_TIME", typ := 4, len := 4, acc := 1, dflt := 10000, expert := true, persist := true, ranged := true, lo := 100, hi := 3600000 },
  { key := 0x680010, name := "RETUNE_MIN_GAIN", typ := 2, len := 1, acc := 1, dflt := 10, expert := true, persist := true, ranged := true, hi := 90 },
  { key := 0x680011, name := "RETUNE_AUTO_COMMIT", typ := 1, len := 1, acc := 1, dflt := 1, persist := true, ranged := true, hi := 1 },
  { key := 0x680012, name := "RETUNE_AUTO", typ := 1, len := 1, acc := 1, persist := true, ranged := true, hi := 1 },
  { key := 0x680013, name := "RETUNE_RATE", typ := 4, len := 4, acc := 1, dflt := 0x7A1200, expert := true, persist := true, ranged := true, lo := 100000, hi := 64000000 },
  { key := 0x680014, name := "SKETCH_QUANTILE", typ := 2, len := 1, acc := 1, dflt := 10, expert := true, persist := true, ranged := true, lo := 1, hi := 50 },
  { key := 0x680015, name := "DRIFT_WINDOW", typ := 4, len := 4, acc := 1, dflt := 0x100000, expert := true, persist := true, ranged := true, lo := 65536, hi := 1073741824 },
  { key := 0x680016, name := "DRIFT_CLAMP_PPM", typ := 4, len := 4, acc := 1, dflt := 500, expert := true, persist := true, ranged := true, lo := 1, hi := 1000000 },
  { key := 0x680017, name := "DRIFT_MSE_FACTOR", typ := 2, len := 1, acc := 1, dflt := 2, expert := true, persist := true, ranged := true, lo := 1, hi := 100 },
  { key := 0x700001, name := "CLIP_PERMILLE", typ := 3, len := 2, acc := 1, dflt := 1, expert := true, persist := true, ranged := true, hi := 100 },
  { key := 0x700002, name := "SAT_EVENT_PPM", typ := 4, len := 4, acc := 1, dflt := 1000, expert := true, persist := true, ranged := true, lo := 1, hi := 1000000 },
  { key := 0x701001, name := "STAT_DIE", typ := 2, len := 1, acc := 1, expert := true, ranged := true, hi := 7, sel := true },
  { key := 0x701002, name := "STAT_SLOT", typ := 2, len := 1, acc := 1, expert := true, ranged := true, hi := 15, sel := true },
  { key := 0x701101, name := "STAT_ELEMS", typ := 5, len := 8, acc := 0, expert := true, win := 5 },
  { key := 0x701102, name := "STAT_SAT", typ := 4, len := 4, acc := 0, expert := true, win := 5 },
  { key := 0x701103, name := "STAT_UNDER", typ := 4, len := 4, acc := 0, expert := true, win := 5 }]

def entries5 : List DictEnt := [
  { key := 0x701104, name := "STAT_NAN", typ := 4, len := 4, acc := 0, expert := true, win := 5 },
  { key := 0x701105, name := "STAT_SSE", typ := 8, len := 4, acc := 0, expert := true, win := 5 },
  { key := 0x701106, name := "STAT_SSX", typ := 8, len := 4, acc := 0, expert := true, win := 5 },
  { key := 0x701107, name := "STAT_CLEAR", typ := 1, len := 1, acc := 2, expert := true, ranged := true, hi := 1, win := 5 },
  { key := 0x710001, name := "FORCE_PRESENT", typ := 1, len := 1, acc := 1, expert := true, persist := true, ranged := true, hi := 1 },
  { key := 0x710002, name := "REPLAY_ENABLE", typ := 1, len := 1, acc := 1, dflt := 1, expert := true, persist := true, ranged := true, hi := 1 },
  { key := 0x710003, name := "UNDER_PPM", typ := 4, len := 4, acc := 1, dflt := 10000, expert := true, persist := true, ranged := true, lo := 1, hi := 1000000 },
  { key := 0x710004, name := "GRAD_TARGET_EXP", typ := 2, len := 1, acc := 1, dflt := 12, expert := true, persist := true, ranged := true, hi := 15 },
  { key := 0x710005, name := "TRAIN_CHANNELS_MAX", typ := 3, len := 2, acc := 4, dflt := 4096, expert := true, persist := true },
  { key := 0x710006, name := "LAST_STEP", typ := 5, len := 8, acc := 0 },
  { key := 0x710007, name := "LAST_REPLAYS", typ := 3, len := 2, acc := 0 },
  { key := 0x711001, name := "TRAIN_TAB_SEL", typ := 2, len := 1, acc := 1, expert := true, ranged := true, hi := 63, sel := true },
  { key := 0x711002, name := "STASH_SEL", typ := 3, len := 2, acc := 1, expert := true, ranged := true, hi := 255, sel := true },
  { key := 0x711003, name := "LAYER_SEL", typ := 3, len := 2, acc := 1, expert := true, ranged := true, hi := 1023, sel := true },
  { key := 0x711101, name := "STASH_VERSION", typ := 5, len := 8, acc := 0, expert := true, win := 6 },
  { key := 0x711102, name := "STASH_TAGS", typ := 3, len := 2, acc := 0, expert := true, win := 6 },
  { key := 0x711201, name := "GRAD_EXP", typ := 6, len := 4, acc := 0, expert := true, win := 6 },
  { key := 0x711202, name := "LR_EFF", typ := 8, len := 4, acc := 0, expert := true, win := 6 },
  { key := 0x711203, name := "LAYER_RUNG", typ := 2, len := 1, acc := 0, expert := true, win := 6 },
  { key := 0x720001, name := "TAB_LOADED", typ := 2, len := 1, acc := 0 },
  { key := 0x720002, name := "TAB_MAX", typ := 2, len := 1, acc := 4, dflt := 64, expert := true, persist := true },
  { key := 0x720003, name := "TAB_UNLOAD", typ := 3, len := 2, acc := 2, ranged := true, hi := 63 },
  { key := 0x720004, name := "DENSE_WAITING", typ := 3, len := 2, acc := 0 },
  { key := 0x720101, name := "CORE_PART_CD0", typ := 5, len := 8, acc := 3, persist := true },
  { key := 0x720102, name := "CORE_PART_CD1", typ := 5, len := 8, acc := 3, persist := true },
  { key := 0x720103, name := "CORE_PART_CD2", typ := 5, len := 8, acc := 3, persist := true },
  { key := 0x720104, name := "CORE_PART_CD3", typ := 5, len := 8, acc := 3, persist := true },
  { key := 0x720105, name := "CORE_PART_CD4", typ := 5, len := 8, acc := 3, persist := true },
  { key := 0x720106, name := "CORE_PART_CD5", typ := 5, len := 8, acc := 3, persist := true },
  { key := 0x720107, name := "CORE_PART_CD6", typ := 5, len := 8, acc := 3, persist := true },
  { key := 0x720108, name := "CORE_PART_CD7", typ := 5, len := 8, acc := 3, persist := true },
  { key := 0x720201, name := "DIE_RUN_CD0", typ := 2, len := 1, acc := 0 },
  { key := 0x720202, name := "DIE_RUN_CD1", typ := 2, len := 1, acc := 0 },
  { key := 0x720203, name := "DIE_RUN_CD2", typ := 2, len := 1, acc := 0 },
  { key := 0x720204, name := "DIE_RUN_CD3", typ := 2, len := 1, acc := 0 },
  { key := 0x720205, name := "DIE_RUN_CD4", typ := 2, len := 1, acc := 0 },
  { key := 0x720206, name := "DIE_RUN_CD5", typ := 2, len := 1, acc := 0 },
  { key := 0x720207, name := "DIE_RUN_CD6", typ := 2, len := 1, acc := 0 },
  { key := 0x720208, name := "DIE_RUN_CD7", typ := 2, len := 1, acc := 0 },
  { key := 0x800001, name := "FAB_MODULE_ID", typ := 3, len := 2, acc := 3, dflt := 65535, expert := true, persist := true, ranged := true, hi := 4095, also := [65535] }]

def entries6 : List DictEnt := [
  { key := 0x800002, name := "LEVEL_ADVANCE", typ := 4, len := 4, acc := 4, dflt := 6000, expert := true, persist := true },
  { key := 0x800003, name := "TIME_MASTER", typ := 1, len := 1, acc := 1, persist := true, ranged := true, hi := 1 },
  { key := 0x800004, name := "TIME_PARENT_PORT", typ := 2, len := 1, acc := 1, dflt := 255, persist := true, ranged := true, hi := 7, also := [255] },
  { key := 0x800005, name := "TIME_INTERVAL", typ := 4, len := 4, acc := 1, dflt := 0x1E848, expert := true, persist := true, ranged := true, lo := 10000, hi := 10000000 },
  { key := 0x800006, name := "TIME_STATE", typ := 2, len := 1, acc := 0 },
  { key := 0x800007, name := "TIME_OFFSET", typ := 7, len := 8, acc := 0, expert := true },
  { key := 0x800008, name := "ROUTE_SEL", typ := 3, len := 2, acc := 1, expert := true, ranged := true, hi := 4095, sel := true },
  { key := 0x800009, name := "ROUTE_PORT", typ := 2, len := 1, acc := 1, dflt := 255, expert := true, ranged := true, hi := 7, also := [255], win := 7 },
  { key := 0x801001, name := "PORT_SEL", typ := 2, len := 1, acc := 1, ranged := true, hi := 7, sel := true },
  { key := 0x801101, name := "PORT_ENABLE", typ := 1, len := 1, acc := 1, dflt := 1, persist := true, ranged := true, hi := 1, win := 8 },
  { key := 0x801102, name := "PORT_STATE", typ := 2, len := 1, acc := 0, win := 8 },
  { key := 0x801103, name := "PORT_PEER", typ := 3, len := 2, acc := 0, dflt := 65535, win := 8 },
  { key := 0x802001, name := "COLL_SEL", typ := 2, len := 1, acc := 1, expert := true, ranged := true, hi := 63, sel := true },
  { key := 0x802101, name := "COLL_ENABLE", typ := 1, len := 1, acc := 3, expert := true, ranged := true, hi := 1, win := 9 },
  { key := 0x802102, name := "COLL_GROUP", typ := 3, len := 2, acc := 3, expert := true, win := 9 },
  { key := 0x802103, name := "COLL_PARENT", typ := 3, len := 2, acc := 3, dflt := 65535, expert := true, ranged := true, hi := 4095, also := [65535], win := 9 },
  { key := 0x802104, name := "COLL_CHILDREN", typ := 11, len := 16, acc := 3, dflt := 0xFFFFFFFFFFFFFFFFFFFFFFFFFFFFFFFF, expert := true, win := 9 },
  { key := 0x810001, name := "SHARD_SEL", typ := 2, len := 1, acc := 1, ranged := true, hi := 255, sel := true },
  { key := 0x811001, name := "SHARD_ENABLE", typ := 1, len := 1, acc := 3, ranged := true, hi := 1, win := 10 },
  { key := 0x811002, name := "SHARD_GROUP", typ := 3, len := 2, acc := 3, win := 10 },
  { key := 0x811003, name := "SHARD_COUNT", typ := 3, len := 2, acc := 3, dflt := 1, ranged := true, lo := 1, hi := 4096, win := 10 },
  { key := 0x811004, name := "SHARD_NUM", typ := 3, len := 2, acc := 3, ranged := true, hi := 4095, win := 10 },
  { key := 0x811005, name := "SHARD_PARENT", typ := 3, len := 2, acc := 3, dflt := 65535, ranged := true, hi := 4095, also := [65535], win := 10 },
  { key := 0x811006, name := "SHARD_CHILDREN", typ := 11, len := 16, acc := 3, dflt := 0xFFFFFFFFFFFFFFFFFFFFFFFFFFFFFFFF, win := 10 },
  { key := 0x811007, name := "SHARD_DEPTH", typ := 2, len := 1, acc := 3, ranged := true, hi := 8, win := 10 },
  { key := 0x900001, name := "LOG_NEXT_SEQ", typ := 5, len := 8, acc := 0 },
  { key := 0x900002, name := "LOG_OLDEST_SEQ", typ := 5, len := 8, acc := 0 },
  { key := 0x900003, name := "LOG_LOST", typ := 5, len := 8, acc := 0 },
  { key := 0x900004, name := "LOG_ACK", typ := 5, len := 8, acc := 1 },
  { key := 0x900005, name := "ALERT_SEVERITY", typ := 2, len := 1, acc := 1, dflt := 2, persist := true, ranged := true, lo := 1, hi := 4 },
  { key := 0x900006, name := "LOG_TAIL", typ := 11, len := 1024, acc := 0 },
  { key := 0x900007, name := "LOG_FATAL", typ := 11, len := 1024, acc := 0, persist := true },
  { key := 0x910001, name := "PARITY_RECOVERED", typ := 5, len := 8, acc := 0, expert := true },
  { key := 0x910002, name := "PARITY_UNRECOVERED", typ := 4, len := 4, acc := 1, ranged := true, clears := true },
  { key := 0x910003, name := "LINK_REPLAYS", typ := 5, len := 8, acc := 0, expert := true },
  { key := 0x910004, name := "MEM_UNCORRECTABLE", typ := 4, len := 4, acc := 1, ranged := true, clears := true },
  { key := 0x910005, name := "REQ_TIMEOUTS", typ := 4, len := 4, acc := 1, ranged := true, clears := true },
  { key := 0x910006, name := "CORE_FENCES", typ := 4, len := 4, acc := 1, ranged := true, clears := true },
  { key := 0x910007, name := "DIE_ABORTS", typ := 4, len := 4, acc := 1, ranged := true, clears := true },
  { key := 0x910008, name := "STALL_ABORTS", typ := 4, len := 4, acc := 1, ranged := true, clears := true }]

def entries7 : List DictEnt := [
  { key := 0x910009, name := "POISONED_RECORDS", typ := 5, len := 8, acc := 0 },
  { key := 0x910020, name := "SEARCH_DONE", typ := 5, len := 8, acc := 0 },
  { key := 0x910021, name := "SEARCH_CUT", typ := 5, len := 8, acc := 0 },
  { key := 0x910022, name := "EXPANSIONS", typ := 5, len := 8, acc := 0, expert := true },
  { key := 0x910023, name := "CUT_MOVED_EARLY", typ := 4, len := 4, acc := 1, expert := true, ranged := true, clears := true },
  { key := 0x910024, name := "VER_MISS", typ := 4, len := 4, acc := 1, expert := true, ranged := true, clears := true },
  { key := 0x910025, name := "HOP_BUDGET_ENDS", typ := 5, len := 8, acc := 0, expert := true },
  { key := 0x910026, name := "QUERY_CLAMP", typ := 4, len := 4, acc := 1, expert := true, ranged := true, clears := true },
  { key := 0x910027, name := "QUERY_NAN", typ := 4, len := 4, acc := 1, expert := true, ranged := true, clears := true },
  { key := 0x910028, name := "RERANK_NAN", typ := 4, len := 4, acc := 1, expert := true, ranged := true, clears := true },
  { key := 0x910029, name := "MERGE_DUP", typ := 5, len := 8, acc := 0, expert := true },
  { key := 0x91002A, name := "MERGE_LATE", typ := 4, len := 4, acc := 1, expert := true, ranged := true, clears := true },
  { key := 0x91002B, name := "MERGE_BAD", typ := 4, len := 4, acc := 1, expert := true, ranged := true, clears := true },
  { key := 0x910030, name := "INSERTS_COMMITTED", typ := 5, len := 8, acc := 0 },
  { key := 0x910031, name := "DELETES_COMMITTED", typ := 5, len := 8, acc := 0 },
  { key := 0x910032, name := "DELETE_MISS", typ := 4, len := 4, acc := 1, expert := true, ranged := true, clears := true },
  { key := 0x910033, name := "WRITE_FAILED", typ := 4, len := 4, acc := 1, ranged := true, clears := true },
  { key := 0x910034, name := "ENTRIES_MERGED", typ := 5, len := 8, acc := 0, expert := true },
  { key := 0x910035, name := "RECORDS_REPAIRED", typ := 5, len := 8, acc := 0, expert := true },
  { key := 0x910036, name := "SLOTS_RECLAIMED", typ := 5, len := 8, acc := 0, expert := true },
  { key := 0x910037, name := "SIDE_FULL_WAITS", typ := 4, len := 4, acc := 1, ranged := true, clears := true },
  { key := 0x910038, name := "SWEEPS", typ := 5, len := 8, acc := 0, expert := true },
  { key := 0x910039, name := "PIN_EXPIRED", typ := 4, len := 4, acc := 1, ranged := true, clears := true },
  { key := 0x910040, name := "CMDS_DONE", typ := 5, len := 8, acc := 0 },
  { key := 0x910041, name := "STALE_DOORBELL", typ := 4, len := 4, acc := 1, expert := true, ranged := true, clears := true },
  { key := 0x910042, name := "RLOCK_STALLS", typ := 4, len := 4, acc := 1, expert := true, ranged := true, clears := true },
  { key := 0x910043, name := "FETCH_LOCK_WAITS", typ := 4, len := 4, acc := 1, expert := true, ranged := true, clears := true },
  { key := 0x910044, name := "DEFER_REPORTS", typ := 4, len := 4, acc := 1, ranged := true, clears := true },
  { key := 0x910045, name := "DEFER_LOST", typ := 4, len := 4, acc := 1, ranged := true, clears := true },
  { key := 0x910046, name := "PAGE_REQUESTS", typ := 5, len := 8, acc := 0, expert := true },
  { key := 0x910047, name := "PAGE_FAULTS", typ := 4, len := 4, acc := 1, ranged := true, clears := true },
  { key := 0x910048, name := "TOO_LATE_COUNT", typ := 4, len := 4, acc := 1, ranged := true, clears := true },
  { key := 0x910049, name := "ABORTS", typ := 4, len := 4, acc := 1, ranged := true, clears := true },
  { key := 0x910050, name := "LINES_ISSUED", typ := 5, len := 8, acc := 0, expert := true },
  { key := 0x910051, name := "INTERLOCK_CYCLES", typ := 5, len := 8, acc := 0, expert := true },
  { key := 0x910052, name := "DENSE_RUNS", typ := 5, len := 8, acc := 0 },
  { key := 0x910053, name := "EPI_NONFINITE", typ := 4, len := 4, acc := 1, expert := true, ranged := true, clears := true },
  { key := 0x910054, name := "LAYER_REPLAYS", typ := 4, len := 4, acc := 1, ranged := true, clears := true },
  { key := 0x910055, name := "SCALE_FALLBACKS", typ := 4, len := 4, acc := 1, ranged := true, clears := true },
  { key := 0x910056, name := "STASH_STALL_CYCLES", typ := 5, len := 8, acc := 0, expert := true }]

def entries8 : List DictEnt := [
  { key := 0x910057, name := "UPDATE_SKIPS", typ := 4, len := 4, acc := 1, ranged := true, clears := true },
  { key := 0x910058, name := "ZERO_CHANNELS", typ := 4, len := 4, acc := 1, expert := true, ranged := true, clears := true },
  { key := 0x910060, name := "STREAM_BLOCKS", typ := 5, len := 8, acc := 0, expert := true },
  { key := 0x910061, name := "STREAM_POISON", typ := 4, len := 4, acc := 1, ranged := true, clears := true },
  { key := 0x910062, name := "PREFETCH_UNUSED", typ := 4, len := 4, acc := 1, expert := true, ranged := true, clears := true },
  { key := 0x910063, name := "POOL_WAIT_CYCLES", typ := 5, len := 8, acc := 0, expert := true },
  { key := 0x910064, name := "REG_WAIT_CYCLES", typ := 5, len := 8, acc := 0, expert := true },
  { key := 0x910065, name := "REQ_LIMIT_CYCLES", typ := 5, len := 8, acc := 0, expert := true },
  { key := 0x910070, name := "FAB_TX_FRAMES", typ := 5, len := 8, acc := 0, expert := true },
  { key := 0x910071, name := "FAB_REPLAYS", typ := 4, len := 4, acc := 1, expert := true, ranged := true, clears := true },
  { key := 0x910072, name := "FAB_UNRECOVERED", typ := 4, len := 4, acc := 1, ranged := true, clears := true },
  { key := 0x910073, name := "FAB_ROUTE_DROPS", typ := 4, len := 4, acc := 1, ranged := true, clears := true },
  { key := 0x910074, name := "FAB_PORT_DROPS", typ := 4, len := 4, acc := 1, ranged := true, clears := true },
  { key := 0x910075, name := "FAB_BAD_FRAMES", typ := 4, len := 4, acc := 1, expert := true, ranged := true, clears := true },
  { key := 0x910076, name := "SHARD_CHILD_LOST", typ := 4, len := 4, acc := 1, ranged := true, clears := true },
  { key := 0x910080, name := "DAP_DISCARDS", typ := 4, len := 4, acc := 1, expert := true, ranged := true, clears := true },
  { key := 0x910081, name := "DICT_REFUSED", typ := 4, len := 4, acc := 1, expert := true, ranged := true, clears := true },
  { key := 0xA00001, name := "SEC_VERSION", typ := 4, len := 4, acc := 0, persist := true },
  { key := 0xA00002, name := "FW_SLOT_PREF", typ := 2, len := 1, acc := 0, persist := true },
  { key := 0xA00003, name := "FW_SLOT_RUN", typ := 2, len := 1, acc := 0 },
  { key := 0xA00004, name := "FW_UPD_OFFSET", typ := 4, len := 4, acc := 1, expert := true, ranged := true, hi := 134201344, step := 16384 },
  { key := 0xA00005, name := "FW_UPD_DATA", typ := 11, len := 16384, acc := 2, expert := true },
  { key := 0xA00006, name := "FW_UPD_COMMIT", typ := 4, len := 4, acc := 2, expert := true, ranged := true, lo := 1953066339, hi := 1953066339 },
  { key := 0xA00007, name := "FW_UPD_RESULT", typ := 2, len := 1, acc := 0 },
  { key := 0xA00010, name := "ATT_NONCE", typ := 11, len := 32, acc := 2 },
  { key := 0xA00011, name := "ATT_QUOTE", typ := 11, len := 576, acc := 0 },
  { key := 0xA00012, name := "ATT_CERT", typ := 11, len := 2048, acc := 0, persist := true },
  { key := 0xA00013, name := "MEAS", typ := 11, len := 384, acc := 0 },
  { key := 0xA00020, name := "IDE_REQUIRED", typ := 1, len := 1, acc := 1, persist := true, ranged := true, hi := 1 },
  { key := 0xA00021, name := "IDE_STATE", typ := 2, len := 1, acc := 0 },
  { key := 0xA00022, name := "WRITE_FROM_HOST", typ := 1, len := 1, acc := 1, dflt := 1, persist := true, ranged := true, hi := 1 },
  { key := 0xA00030, name := "DBG_PERMIT", typ := 1, len := 1, acc := 1, dflt := 1, persist := true, ranged := true, hi := 1 },
  { key := 0xA00031, name := "DBG_CHALLENGE", typ := 11, len := 32, acc := 0 },
  { key := 0xA00032, name := "DBG_CHALLENGE_LIFE", typ := 4, len := 4, acc := 4, dflt := 600, persist := true },
  { key := 0xA00033, name := "DBG_TOKEN", typ := 11, len := 256, acc := 2 },
  { key := 0xA00034, name := "DBG_RESULT", typ := 2, len := 1, acc := 0 },
  { key := 0xA00035, name := "DBG_STATE", typ := 2, len := 1, acc := 0 },
  { key := 0xA00036, name := "DBG_CLOSE", typ := 4, len := 4, acc := 2, ranged := true, lo := 1702063980, hi := 1702063980 },
  { key := 0xA00037, name := "DBG_OPEN_COUNT", typ := 4, len := 4, acc := 0, persist := true },
  { key := 0xB00001, name := "FENCE_THRESHOLD", typ := 3, len := 2, acc := 1, dflt := 64, expert := true, persist := true, ranged := true, lo := 16, hi := 4096 }]

def entries9 : List DictEnt := [
  { key := 0xB00002, name := "FENCE_DECAY", typ := 4, len := 4, acc := 1, dflt := 1000, expert := true, persist := true, ranged := true, lo := 10, hi := 3600000 },
  { key := 0xB00003, name := "FENCE_CORE", typ := 3, len := 2, acc := 2, expert := true, ranged := true, hi := 511 },
  { key := 0xB00004, name := "FENCE_CLEAR", typ := 4, len := 4, acc := 2, expert := true, ranged := true, lo := 1852140643, hi := 1852140643 },
  { key := 0xB00005, name := "ERR_SCORES", typ := 11, len := 1056, acc := 0, expert := true },
  { key := 0xB00006, name := "REQ_TIMEOUT", typ := 4, len := 4, acc := 4, dflt := 0x186A0, expert := true, persist := true },
  { key := 0xB00007, name := "STALL_TIME", typ := 4, len := 4, acc := 4, dflt := 0xF4240, expert := true, persist := true },
  { key := 0xB00010, name := "ACC_SEL", typ := 4, len := 4, acc := 1, expert := true, sel := true },
  { key := 0xB00011, name := "ACC_DATA", typ := 11, len := 8456, acc := 0, expert := true, win := 12 }]

/-- Every entry that exists (R356). -/
def dictEntries : List DictEnt :=
  entries0 ++ entries1 ++ entries2 ++ entries3 ++ entries4 ++ entries5 ++ entries6 ++ entries7 ++ entries8 ++ entries9

/-- The entry at a key, if it exists (R356). -/
def entryAt (key : Nat) : Option DictEnt := dictEntries.find? (fun e => e.key == key)

/-- The Default of an entry as its table gives it; 0 where the table gives none (R360). -/
def defaultOf (key : Nat) : Nat := ((entryAt key).map (·.dflt)).getD 0

end Sys2Proof.Machine
end

