-- ==== Sys2Proof/Types/Channel.lean ====
section
/-!
DEFINITION. Channels, their outstanding commands, host ports, range locks, pins and page requests
(08 R193-R233, 06 R152).
-/
namespace Sys2Proof

/-- What a finished command will report (R216), with the result writes that precede its entry (R202). -/
structure Compl where
  status : Status
  cause : Cause := {}
  count : Nat := 0
  result : Nat := 0
  epoch : Nat := 0
  writes : List (Nat × List Byte) := []
  deriving DecidableEq, Repr

/-- How far an outstanding command has come (R201): fetched and not admitted; checked and waiting (journal room,
range lock, its buffer); admitted and running; done, its completion not yet written. -/
inductive Stage
  | fetched | waiting | running | done (c : Compl)
  deriving DecidableEq, Repr

/-- An outstanding command of a channel (R201). `ord` counts the channel's fetches and never restarts; `sent` counts the
entries of its fetch or log buffer whose pages are present (R228, R404); `accepted` says that it is an accepted write (R134), `issued` when
its buffer reads were issued to the host link (R394), `upTo` the H of a GET_LOG (R404). -/
structure OutCmd where
  seq : Nat
  ord : Nat := 0
  word : CmdWord
  stage : Stage := .fetched
  bufs : List (BufKind × Option (List Byte)) := []
  xlat : Xlat := .none
  sent : Nat := 0
  counted : Bool := false
  admitTick : Nat := 0
  epoch : Nat := 0
  targets : List (Nat × Nat × Nat) := []
  accepted : Bool := false
  issued : Nat := 0
  upTo : Nat := 0
  deriving DecidableEq, Repr

/-- Channel slot states (R220, codes of R232). -/
inductive ChanState
  | free | active | aborting | error | destroying
  deriving DecidableEq, Repr

/-- The abort in progress on a channel (R222, R224): the aborting commands (their channel slot and SEQ), and the
accepted writes kept. -/
structure AbortRec where
  by_ : List (Nat × Nat)
  destroy : Bool
  kept : List Nat
  deriving DecidableEq, Repr

/-- Set-up of a channel, given at CREATE_CHANNEL or by the admin registers (R196, R209). `pasidField` keeps the PASID field as
given, which CHAN_PASID shows (R232). -/
structure ChanCfg where
  tenant : Nat := 0
  pasid : Option Nat := none
  pasidField : Nat := 0
  sqAddr : Nat := 0
  cqAddr : Nat := 0
  sqN : Nat := 0
  cqN : Nat := 0
  outMax : Nat := 32768
  weight : Nat := 1
  msix : Nat := 0
  deriving DecidableEq, Repr

/-- A channel slot (R197-R202, R218, R220, R232). `dones` holds the SEQs of finished commands in the order in which they
finished (R202); `fetched` counts fetches and never restarts; `coalWait` is the INT_COALESCE_TIME that held at the last completion
(R232). -/
structure Channel where
  gen : Nat := 0
  state : ChanState := .free
  cfg : ChanCfg := {}
  head : Nat := 0
  tail : Nat := 0
  cqTail : Nat := 0
  cqHead : Nat := 0
  phase : Bool := true
  seq : Nat := 0
  fetched : Nat := 0
  cmds : List OutCmd := []
  dones : List Nat := []
  reports : List (Nat × Status) := []
  lost : Bool := false
  errCause : Nat := 0
  coalTime : Nat := 0
  coalCount : Nat := 1
  coalPend : Nat := 0
  coalSince : Option Nat := none
  coalWait : Nat := 0
  abort : Option AbortRec := none
  deriving DecidableEq, Repr

/-- The mailbox of a port (R372, R373). `taken` is the length of the request that is being processed. -/
structure Mailbox where
  irqEn : Bool := false
  vector : Nat := 0
  reqBytes : Nat := 0
  taken : Nat := 0
  busy : Bool := false
  done : Bool := false
  overrun : Bool := false
  rspBytes : Nat := 0
  req : Mem := {}
  rsp : Mem := {}
  deriving DecidableEq, Repr

/-- A host port: link, BAR 0 registers, host enables, IDE and mailbox (R193-R196, R372, R445). -/
structure HostPort where
  linkUp : Bool := false
  held : Bool := true
  ready : Bool := false
  adminSq : Nat := 0
  adminCq : Nat := 0
  adminSizes : Nat := 0
  enable : Bool := false
  enReq : Bool := false
  enabled : Bool := false
  error : Bool := false
  msix : List (Nat × Nat) := []
  msixPending : List Nat := []
  pasidOn : Bool := false
  atsOn : Bool := false
  priOn : Bool := false
  priAlloc : Nat := 0
  ideKeyed : Bool := false
  ideSecure : Bool := false
  spdm : Bool := false
  mb : Mailbox := {}
  deriving DecidableEq, Repr

/-- A range-lock entry (R215). -/
structure RLock where
  slot : Nat
  gen : Nat
  seq : Nat
  ord : Nat
  index : Nat
  id : Nat
  deriving DecidableEq, Repr

/-- A snapshot-pin slot (R152). -/
structure PinSlot where
  gen : Nat
  live : Bool
  index : Nat
  epoch : Nat
  since : Nat
  deriving DecidableEq, Repr

/-- The page requests of one access (R226): its port, the access, the issue times of those outstanding, oldest first, and
the pages beyond the allocation that are still to be requested. -/
structure PageReq where
  port : Port
  slot : Nat
  seq : Nat
  acc : Access
  sinces : List Nat
  more : Nat
  deriving DecidableEq, Repr

end Sys2Proof
end

