-- ==== Sys2Proof/Types/Search.lean ====
section
/-!
DEFINITION. Searches in flight: queries, walks, frets, bridge filters, strums and merge stages (03, 05, 06 R139-R141).
-/
namespace Sys2Proof

/-- Resolved search parameters (R86). -/
structure Params where
  k : Nat
  cw : Nat
  hop : Nat
  pf : Nat
  rerank : Nat
  slack : Nat
  deriving DecidableEq, Repr

/-- A filter predicate (R75). -/
structure Filter where
  op : Nat
  mask : Nat
  value : Nat
  deriving DecidableEq, Repr

/-- A candidate-queue entry (R61), with its external identifier once it is exact. -/
structure Fret where
  key : W32
  expanded : Bool := false
  inFlight : Bool := false
  exact : Bool := false
  tag : Nat := 0
  slot : Nat
  extId : Nat := nullId
  deriving DecidableEq, Repr

/-- An expand response (R69, R70): the node and its surviving neighbours, with the request's query-table entry and first
context, and when the request was issued (R394). -/
structure Response where
  qtab : Nat := 0
  context : Nat := 0
  since : Nat := 0
  expTag : Nat
  slot : Nat
  eligible : Bool
  followed : Bool
  filterFail : Bool := false
  routedDeleted : Bool := false
  verMiss : Bool := false
  poison : Bool := false
  nodeKey : W32
  extId : Nat := nullId
  survivors : List (Nat × W32) := []
  deriving DecidableEq, Repr

/-- Stages of a walk: placed and not descended, walking layer 0, ended (R63, R66, R74). -/
inductive WalkStage
  | placed | walking | ended
  deriving DecidableEq, Repr

/-- A graph walk of one partition (R60-R62, R72-R74): its core and first context, its g contexts, its candidate queue, the
set bits of its visited filter, requests issued, and responses that have arrived and are not yet applied. `descent` says that
a placed walk holds one of the eight descent slots of its core (R106). -/
structure Walk where
  part : Nat
  core : Nat
  ctx : Nat
  g : Nat
  stage : WalkStage := .placed
  descent : Bool := false
  frets : List Fret := []
  visited : List Nat := []
  issued : Nat := 0
  inbox : List Response := []
  deriving DecidableEq, Repr

/-- A merge entry (R116). -/
structure Entry where
  key : W32
  aux : Nat
  id : Nat
  deriving DecidableEq, Repr

/-- KIND of a list (R117). -/
inductive ListKind
  | code | final | row
  deriving DecidableEq, Repr

/-- A list that a unit sends to a merge stage (R117). -/
structure MList where
  kind : ListKind
  sorted : Bool := true
  cut : Bool := false
  poison : Bool := false
  fenced : Bool := false
  entries : List Entry := []
  deriving DecidableEq, Repr

/-- Who contributes a list to a merge stage (R127, R131, R343). -/
inductive Contributor
  | walk (part : Nat) | sweep (stack : Nat) | exact (stack : Nat) | die (d : Nat) | local_ | child (m : Nat)
  deriving DecidableEq, Repr

/-- Where a list goes: the merge stages of a query (R127, R343), and the way out of the module of a list that a cut has made
(R347). -/
inductive StageId
  | die (d : Nat) | hub | fabric | out
  deriving DecidableEq, Repr

/-- How a stage has forwarded (R127, R128). -/
inductive Forwarded
  | no | complete | lastAccept
  deriving DecidableEq, Repr

/-- A merge stage's running list for one query (R124-R129). -/
structure MergeStage where
  expected : List Contributor := []
  delivered : List Contributor := []
  acc : MList := { kind := .code }
  sealed : Bool := false
  forwarded : Forwarded := .no
  deriving DecidableEq, Repr

/-- A list under way to a merge stage. -/
structure Transit where
  dest : StageId
  src : Contributor
  list : MList
  deriving DecidableEq, Repr

/-- Where a query comes from (R343, R344). -/
inductive Origin
  | host (slot seq : Nat)
  | child (parent ptag group origin : Nat)
  deriving DecidableEq, Repr

/-- The query operand and query sketch under one code version (R65, R101). -/
structure Operand where
  ver : Nat
  code : Nat
  sketch : Nat
  deriving DecidableEq, Repr

/-- Progress of a query. `finished`: its local search is done and children are awaited; `done`: its result is known and its
completion entry is not yet written. -/
inductive QPhase
  | waiting | started | registered | reranking | finished | done
  deriving DecidableEq, Repr

/-- A SEARCH, SEARCH_EXACT, ENCODE_SEARCH or fabric query in flight. `exact` names the partition of a SEARCH_EXACT, whose
contexts stand in `walks` with the stack in the place of the partition. `deadline` is D, or D′ of a child (R344), and
`origD` the original D. `vectorFrom` is false while the vector comes from an encoder (R208). `encoded` says that the
home core has encoded it (R63); `qtab` gives its query-table entries by stack, from their grant on (R64); `swept` names the
stacks whose sweep has ended; `merged` is what the hub merge stage sent. -/
structure Query where
  tag : Nat
  origin : Origin
  index : Nat
  exact : Option Nat := none
  epoch : Nat
  admitted : Nat
  deadline : Nat
  origD : Nat
  resultAddr : Nat := 0
  cut : Option Nat := none
  cutDone : Bool := false
  params : Params
  filter : Filter
  qfmt : Nat
  qvec : Option (List Byte) := none
  vectorFrom : Bool := true
  encoded : Bool := false
  qtab : List (Nat × Nat) := []
  opers : List Operand := []
  phase : QPhase := .waiting
  home : Option Nat := none
  unplaced : List Nat := []
  walks : List Walk := []
  swept : List Nat := []
  dies : List (Nat × MergeStage) := []
  hub : MergeStage := {}
  fabric : Option MergeStage := none
  transit : List Transit := []
  merged : MList := { kind := .code }
  cause : Cause := {}
  children : List Nat := []
  deriving DecidableEq, Repr

/-- An expand request (R67). `tag` names its query; `context` is the walk's first context as global core × 256 + context; `since` is when
it was issued (R394), `bad` says that it was delivered poisoned (R392). -/
structure ExpandReq where
  tag : Nat
  qtab : Nat := 0
  context : Nat := 0
  since : Nat := 0
  bad : Bool := false
  part : Nat
  expTag : Nat
  slot : Nat
  bound : W32
  deriving DecidableEq, Repr

/-- What luthier walks add to the search counters (R89): requests issued, VER_MISS responses, walks ended by HOP_BUDGET. -/
structure Tally where
  issued : Nat := 0
  miss : Nat := 0
  ends : Nat := 0
  deriving DecidableEq, Repr

/-- A luthier walk under way (R72-R74): its candidate queue, the set bits of its visited filter, the responses to its outstanding
requests, oldest first, and its counts. -/
structure LuthierRun where
  frets : List Fret
  visited : List Nat
  out : List Response := []
  tally : Tally := {}
  deriving DecidableEq, Repr

/-- A sweep order (R139): members with their list limits. -/
structure SweepOrder where
  index : Nat
  members : List (Nat × Nat)
  deriving DecidableEq, Repr

/-- A sweep in progress: its order and the chain tails recorded at its start (R140). -/
structure Sweep where
  order : SweepOrder
  tails : List (Nat × Nat)
  deriving DecidableEq, Repr

/-- A bridge filter (R64): request queue, requests whose packet or whose response's packet was discarded (R392), sweep queue, sweep in
progress, cached parameter blocks (index, version), and query-table entries marked bad after an unrecovered parity error (R392). -/
structure Bridge where
  reqs : List ExpandReq := []
  lost : List ExpandReq := []
  orders : List SweepOrder := []
  sweep : Option Sweep := none
  cache : List (Nat × Nat) := []
  badTags : List Nat := []
  deriving DecidableEq, Repr

/-- An open strum (R139). -/
structure Strum where
  index : Nat
  opened : Nat
  members : List Nat
  deriving DecidableEq, Repr

end Sys2Proof
end

