-- ==== Sys2Proof/Types/Dense.lean ====
section
/-!
DEFINITION. Tablatures, training state, cores, streams and dense runs (09, 10, 11, 05 R131).
-/
namespace Sys2Proof

/-- A stream entry of the image's stream section (R305). -/
structure StreamEnt where
  coreMask : Nat := 0
  regionOff : Nat := 0
  regionLen : Nat := 0
  die : Nat := 0
  dir : Bool := false
  endpoint : Nat := 0
  listSel : Nat := 0
  blockLog : Nat := 0
  maxHeld : Nat := 0
  issueCore : Nat := 0
  roweng : Bool := false
  scaleValid : Bool := false
  scaleStream : Nat := 0
  linkFrom : Nat := 0
  stash : Nat := 0
  role : Nat := 0
  deriving DecidableEq, Repr

/-- What a load copies to one die (R264, R265): lines of 2,048 bits, descriptors of 256 bits, coordinates of 64. -/
structure DieImage where
  coreMask : Nat := 0
  lines : List Nat := []
  descs : List Nat := []
  coords : List Nat := []
  deriving DecidableEq, Repr

/-- A span of a training directory (R280). -/
structure Span where
  first : List Nat
  last : List Nat
  lrMult : W32
  wideDesc : Nat
  wideStream : Nat
  tFirst : Nat
  tCount : Nat
  layer : Nat
  role : Nat
  deriving DecidableEq, Repr

/-- A tensor record (R281). -/
structure TensorRec where
  scaleAddr : Nat
  histOff : Nat
  channels : Nat
  history : Nat
  mode : Nat
  margin : Nat
  deriving DecidableEq, Repr

/-- A stash entry (R282). -/
structure StashEnt where
  slot1 : Nat := 0
  slot0 : Nat := 0
  bytes : Nat := 0
  layer : Nat := 0
  tagCnt : Nat := 0
  learned : Bool := false
  deriving DecidableEq, Repr

/-- A training directory (R279). -/
structure TrainDir where
  factorBase : Nat := 0
  histBase : Nat := 0
  spans : List Span := []
  tensors : List TensorRec := []
  stashes : List StashEnt := []
  deriving DecidableEq, Repr

/-- The state of a stash entry on one die (R294, R295): version, the version whose last UPDATE has delivered all its
blocks, tag registers, skip flag. -/
structure StashState where
  v : Nat := 0
  delivered : Nat := 0
  tags : List (Option Nat) := List.replicate 16 none
  skip : Bool := false
  deriving DecidableEq, Repr

/-- Training state (R278): stash entries per die (key die·256 + entry); histories per channel, newest first
(key ((die·4096 + record)·64 + core)·4096 + channel); gradient exponents per layer; tensors that use
PRESENT mode in the next step (record numbers); LR_EFF and highest rung of each layer in the last step. -/
structure TrainState where
  stash : List (Nat × StashState) := []
  hist : List (Nat × List W32) := []
  histAt : List (Nat × Nat) := []
  gradExp : List (Nat × Int) := []
  present : List Nat := []
  lrEff : List (Nat × W32) := []
  rung : List (Nat × Nat) := []
  deriving DecidableEq, Repr

/-- Byte storage with poison marks per 64 B (R324); `hurt` are the lines that cannot be read, whose mark no stream has carried yet. -/
structure Store where
  mem : Mem := {}
  poison : List Nat := []
  hurt : List Nat := []
  deriving DecidableEq, Repr

/-- A loaded tablature (R265): its tablature area and activation space on each die of DIE_MASK. -/
structure Tablature where
  imageBytes : Nat := 0
  weightBytes : Nat := 0
  actBytes : Nat := 0
  maxTokens : Nat := 0
  outFmt : Nat := 0
  outDims : Nat := 0
  tokLog : Nat := 0
  flags : Nat := 0
  dieMask : Nat := 0
  dies : List (Nat × DieImage) := []
  streams : List StreamEnt := []
  dir : Option TrainDir := none
  area : List (Nat × Store) := []
  act : List (Nat × Store) := []
  train : TrainState := {}
  deriving DecidableEq, Repr

/-- Mode of the product that last wrote a tile (R253). -/
inductive TileMode
  | unwritten | float | correction | subtract
  deriving DecidableEq, Repr

/-- An accumulator tile (R253): elements in row-major order, FP32 or FP16 encodings; FP32 row sums; K of R258;
`fill` names the background of elements not listed, as in `Mem`. -/
structure Tile where
  fill : Nat := 0
  fp16 : Bool := false
  mode : TileMode := .unwritten
  elems : List W32 := []
  rsum : List W32 := []
  k : Nat := 0
  poison : Bool := false
  deriving DecidableEq, Repr

/-- A logical core's core store and accumulator file (R18, R253). -/
structure Core where
  store : Store := {}
  tiles : List (Nat × Tile) := []
  fillTiles : Nat := 0
  deriving DecidableEq, Repr

/-- A statistics slot of a compute die (R176). -/
structure StatSlot where
  elems : Nat := 0
  sat : Nat := 0
  under : Nat := 0
  nan : Nat := 0
  sse : W32 := 0
  ssx : W32 := 0
  deriving DecidableEq, Repr

/-- Side memory of a row engine (R262): entries of two words, the first in the upper half, with poison. -/
structure SideMem where
  fill : Nat := 0
  cells : List (Nat × (W32 × W32 × Bool)) := []
  deriving DecidableEq, Repr

/-- An issued and uncompleted macro-operation (R235), oldest first on its die. `slot` is the core slot or row-engine
slot; `desc` the descriptor; `cnt` the loop counters at issue; `off` the first stream byte of an output XFER or a row-engine
transfer; `parts` the ranges that an input XFER takes (reader, first byte, bytes); `read` the slots whose blocks it has read (their
orders); `stream` the stream after a rung-1 offset;
`started` its start time; `got` the bytes an XFER has copied; `bad` that its unit lost data to parity, `gov` that its conversion is
governed (R281), and
`lost` the entries of a selection macro's input that it lost so (R119). -/
structure Macro where
  core : Nat
  unit : ExecUnit
  op : Nat
  slot : Nat
  desc : Nat
  cnt : List Nat
  stream : Nat := 0
  off : Nat := 0
  parts : List (Nat × Nat × Nat) := []
  read : List Nat := []
  span : Option Nat := none
  rung : Nat := 0
  started : Option Nat := none
  got : Nat := 0
  bad : Bool := false
  gov : Bool := false
  lost : List Nat := []
  deriving DecidableEq, Repr

/-- A block descriptor (R309). -/
structure BlockDesc where
  addr : Nat
  planeStride : Nat
  rowStride : Nat
  rowBytes : Nat
  rows : Nat
  planes : Nat
  scaleIdx : Nat
  deriving DecidableEq, Repr

/-- A block buffer (R309, R313, R318): its number and length, bytes with poison marks per 64 B; for each reader (a core
of a multicast block's delivery set, or 64 where the cores share the block) the block's first byte in what that reader receives and the bytes
it has taken; its buffer's handle (R317); bytes filled; whether PREFETCH fetched it and no slot has counted it yet; whether its buffer is of the
shared part; the order of the slot that credited it; where its descriptor sends it. -/
structure Block where
  no : Nat
  len : Nat
  data : Store := {}
  firsts : List (Nat × Nat) := []
  took : List (Nat × Nat) := []
  handle : Nat := 0
  filled : Nat := 0
  prefetched : Bool := false
  inShared : Bool := false
  order : Nat := 0
  desc : Option BlockDesc := none
  deriving DecidableEq, Repr

/-- Credit of one stream slot (R313): issue order, blocks left, multicast mask; `ahead` for PREFETCH; for a stash stream
the version it reads or writes and whether it writes a copy (R294, R295). -/
structure Credit where
  order : Nat
  left : Nat
  mask : Option Nat := none
  ahead : Bool := false
  ver : Nat := 0
  copy : Bool := false
  deriving DecidableEq, Repr

/-- A block on its way between an endpoint and a buffer: its number, the buffer's handle and whether that is of the shared part. -/
structure Move where
  no : Nat
  handle : Nat
  inShared : Bool
  deriving DecidableEq, Repr

/-- A stream of a run on one die (R303, R310, R313-R317): credit by slot; positions at which FLUSH ends a block, with the order of
the slot and the version that it writes; the first block that is still to be fetched or written and the first byte of it; later blocks
that are written; the block that is moving; blocks held; bytes claimed by XFERs and bytes delivered, by reader; the
block list's next descriptor, descriptors left, next list, cached descriptors; the block from which on every block is
bad, and whether an access made it so; the handle queue, oldest first; for BWD slots the tag register to free (order, register, blocks left). -/
structure StreamSt where
  credit : List Credit := []
  cuts : List (Nat × Nat × Nat) := []
  fetchNo : Nat := 0
  fetchPos : Nat := 0
  early : List Nat := []
  move : Option Move := none
  blocks : List Block := []
  claims : List (Nat × Nat) := []
  delivered : List (Nat × Nat) := []
  listPos : Nat := 0
  listLeft : Nat := 0
  listNext : Nat := 0
  cache : List BlockDesc := []
  badFrom : Option Nat := none
  faulted : Bool := false
  handles : List Nat := []
  bwd : List (Nat × Nat × Nat) := []
  deriving DecidableEq, Repr

/-- The pass of a span in progress (R289): span, rung, saved counters, saved tags, and flags: overflow with the cause
item, non-finite; with what its conversions and epilogues recorded. The overflow flag holds when it was set and the item of R288. -/
structure Pass where
  span : Nat
  rung : Nat
  cnt : List Nat
  tags : List (Nat × List (Option Nat))
  overflow : Option (Nat × Nat) := none
  nonfinite : Bool := false
  nonzero : List (Nat × Nat) := []
  under : List (Nat × Nat) := []
  gradMax : W32 := 0
  deriving DecidableEq, Repr

/-- A row-engine window (R262): first entry, entries, kind, cores, staging entries (core, offset). -/
structure ReWindow where
  side : Nat
  rows : Nat
  kind : Nat
  mask : Nat
  stage : List (Nat × (W32 × W32 × Bool)) := []
  deriving DecidableEq, Repr

/-- What a die sequencer waits for after its present line (R239). -/
inductive SeqWait
  | none | barrier (n : Nat) | drain | halted
  deriving DecidableEq, Repr

/-- A die sequencer in a run (R235-R240). `line` is the line to issue next; `last` the line issued last, its HOLD and its
time; `ready` when the next line could issue but for HOLD (R236); `stashFrom` from when FWD or UPDATE waits are still to be counted
(R301), `poolSince` since when a stream waits for the shared part (R318). Times of lines, macros and stash waits are those of the die's
dense clock; `progress` is the time of the last progress on the module's clock, `advanced` on the dense clock (R400, R417); `bursts` the
streams with a descriptor burst in flight, `burstAt` when each was issued, `turn` the stream served last (R310). -/
structure DieSeq where
  line : Nat := 0
  last : Nat := 0
  hold : Nat := 0
  issued : Nat := 0
  any : Bool := false
  ready : Option Nat := none
  stashFrom : Nat := 0
  poolSince : Option Nat := none
  bursts : List Nat := []
  burstAt : List (Nat × Nat) := []
  turn : Nat := 0
  cnt : List Nat := [0, 0, 0, 0]
  wait : SeqWait := .none
  queues : List (List (Nat × Nat)) := [[], [], [], []]
  order : Nat := 0
  macros : List Macro := []
  streams : List (Nat × StreamSt) := []
  rate : Nat := 0
  burst : Nat := 0
  bucket : Int := 0
  refilled : Nat := 0
  windows : List ReWindow := []
  pass : Option Pass := none
  progress : Nat := 0
  advanced : Nat := 0
  deriving DecidableEq, Repr

/-- A row selection across the cores of a run (R131, R348): lists held per contributor (die·64 + core, or 1024 + module
for a collective child). -/
structure RowSel where
  rowNo : Nat
  dest : Nat
  die : Nat
  contrib : Nat
  limit : Nat
  dst : Nat
  lists : List (Nat × MList) := []
  done : Bool := false
  deriving DecidableEq, Repr

/-- What a training step gathers (R286, R287, R293), with the controls that hold for it (R299). Keys of maxima and
`notFinite` are those of histories; keys of counts are die·4096 + record. -/
structure StepRec where
  force : Bool := false
  replay : Bool := true
  ppm : Nat := 0
  target : Nat := 0
  maxima : List (Nat × W32) := []
  notFinite : List Nat := []
  nonzero : List (Nat × Nat) := []
  under : List (Nat × Nat) := []
  gradMax : List (Nat × W32) := []
  rung : List (Nat × Nat) := []
  replays : Nat := 0
  startV : List (Nat × Nat) := []
  deriving DecidableEq, Repr

/-- A dense command that has started (R269, R271). `vectors` counts the sequences whose output was written, `lost` says that an
output block of the present one was not; `kept` holds the tablature areas that a RUN of a TRAINS image leaves as they were. -/
structure Run where
  slot : Nat
  seq : Nat
  word : CmdWord
  tab : Nat
  args : List Nat
  inDir : List Nat
  outDir : List Nat
  tokens : Nat
  seqNo : Nat := 0
  seqs : Nat := 1
  dies : List (Nat × DieSeq)
  rows : List RowSel := []
  vectors : Nat := 0
  lost : Bool := false
  kept : List (Nat × Store) := []
  query : List Byte := []
  poison : Bool := false
  fault : Bool := false
  step : StepRec := {}
  ending : Option Status := none
  reported : Bool := true
  deriving DecidableEq, Repr

/-- What a core's memory requests belong to (R321): a stream of a die, the query vector of a query, its rerank vectors. -/
inductive ReqOwner
  | stream (die n : Nat) | vector (tag : Nat) | rerank (tag : Nat)
  deriving DecidableEq, Repr

/-- Memory requests of one transfer (R321): its global core; those still to be issued, as counts of a size in bytes; how many are
outstanding, their bytes, and when the oldest was issued (R394); bytes issued so far; byte ranges of the transfer that came back bad
(first byte, end); whether a packet of it was discarded, so that only its timer ends the wait (R392). -/
structure Reqs where
  core : Nat
  owner : ReqOwner
  todo : List (Nat × Nat)
  out : Nat := 0
  outBytes : Nat := 0
  since : Nat := 0
  sent : Nat := 0
  lost : List (Nat × Nat) := []
  dropped : Bool := false
  deriving DecidableEq, Repr

/-- Dense compute of the module: tablatures, the waiting queue, runs, and the cores, side memory and statistics slots of
the dies (09, 10, 11). `reqs` are the memory requests of the cores in issue order, `limitSince` when a core reached the request
limit. `fill` names the background of cores and side memories that are not listed, as in `Mem`. -/
structure Dense where
  tabs : List (Nat × Tablature) := []
  waiting : List (Nat × Nat) := []
  runs : List Run := []
  cores : List (Nat × Core) := []
  side : List (Nat × SideMem) := []
  stats : List (Nat × StatSlot) := []
  sharedFreeMin : Option Nat := none
  reqs : List Reqs := []
  limitSince : List (Nat × Nat) := []
  fill : Nat := 0
  deriving DecidableEq, Repr

end Sys2Proof
end

