-- ==== Sys2Proof/Types/Fabric.lean ====
section
/-!
DEFINITION. Fabric ports, frames in flight and the ingress buffers (12).
-/
namespace Sys2Proof

/-- Port states (R338, codes of R352). -/
inductive PortState
  | disabled | training | up
  deriving DecidableEq, Repr

/-- Link-control operations (R335). -/
inductive LcOp
  | ack | nak | credit | timeReq | timeRsp
  deriving DecidableEq, Repr

/-- A link-control flit that the module sent (R335). -/
structure LcOut where
  op : LcOp
  aseq : Nat
  peerId : Nat
  credits : List Nat
  tA : Nat := 0
  tB : Nat := 0
  deriving DecidableEq, Repr

/-- A frame held in the replay buffer: FSEQ, RPL, class, frame (R336, R337). -/
structure Sent where
  fseq : Nat
  rpl : Nat
  cls : Nat
  frame : Frame
  deriving DecidableEq, Repr

/-- A frame that waits for a port's output. `home` names the port and the receive class that a forwarded frame still occupies:
its flits are freed once it has left (R336). -/
structure Queued where
  frame : Frame
  home : Option (Nat × Nat) := none
  deriving DecidableEq, Repr

/-- A fabric port (R335-R338). `out` and `lc` hold what left the port, newest first. -/
structure FabPort where
  state : PortState := .disabled
  since : Nat := 0
  txSeq : Nat := 0
  rxSeq : Nat := 0
  unacked : List Sent := []
  queue : List Queued := []
  sentFlits : List Nat := List.replicate 8 0
  peerFreed : List Nat := List.replicate 8 0
  freed : List Nat := List.replicate 8 0
  peer : Nat := 0xFFFF
  unrec : List Nat := []
  lastLc : Nat := 0
  nakked : Bool := false
  out : List Sent := []
  lc : List LcOut := []
  deriving DecidableEq, Repr

/-- A ROW_LIST frame that is held: arrival port and class, poisoned, whether it stands in its receive class still, for want of room in
the ingress buffer, and its credit is owed (R337, R340). -/
structure Held where
  owed : Bool
  port : Nat
  cls : Nat
  poison : Bool
  frame : Frame
  deriving DecidableEq, Repr

/-- Credit of frames that were delivered while their hub's ingress buffer was full (R340): arrival port, class, flits. -/
structure OwedCredit where
  port : Nat
  cls : Nat
  flits : Nat
  deriving DecidableEq, Repr

/-- The fabric side of the module. `missed` names the lists that a fabric merge node no longer waits for since its last-accept time:
QUERY_TAG and child (R345). -/
structure Fabric where
  ports : List FabPort := List.replicate 8 {}
  ingress : List Held := []
  owed : List OwedCredit := []
  missed : List (Nat × Nat) := []
  deriving DecidableEq, Repr

end Sys2Proof
end

