-- ==== Sys2Proof/Types/Faults.lean ====
section
/-!
DEFINITION. The event log, core fencing state and the security block (14, 16).
-/
namespace Sys2Proof

/-- An event entry (R402). -/
structure Event where
  seq : Nat
  time : Nat
  code : Nat
  severity : Nat
  kind : Nat := 0
  source : Nat := 0
  handle : Nat := 0
  index : Nat := 0xFF
  args : List Nat := []
  deriving DecidableEq, Repr

/-- The event log (R401): far-tier ring and early ring, newest first, and the FATAL entries in FL1. -/
structure Log where
  next : Nat := 0
  ring : List Event := []
  early : List Event := []
  fatal : List Event := []
  lost : Nat := 0
  ack : Nat := 0
  isFatal : Bool := false
  deriving DecidableEq, Repr

/-- State of a physical core (R387, codes of PHYS_STATE). -/
inductive PhysState
  | active | spareFree | spareInService | fenced | failedTest
  deriving DecidableEq, Repr

/-- A compute die's cores (R396, R397): states and scores of PC0-PC65, the physical core of each logical core, and
whether the hub store's copies stand so that the die admits walks. -/
structure DieCores where
  phys : List PhysState := List.replicate 64 .active ++ [.spareFree, .spareFree]
  score : List Nat := List.replicate 66 0
  map : List (Option Nat) := (List.range 64).map some
  reload : Bool := false
  reloadAt : Nat := 0
  deriving DecidableEq, Repr

/-- Core service and the fence list (R397, R408). The list holds 66·die + physical core. -/
structure Integrity where
  dies : List DieCores := List.replicate 8 {}
  fenceList : List Nat := []
  clearNext : Bool := false
  lastDecay : Nat := 0
  deriving DecidableEq, Repr

/-- DBG_STATE (R457). -/
inductive DbgState
  | closed | erasing | open_
  deriving DecidableEq, Repr

/-- The identity key pair: the one that the fused unique secret gives, or that of a draw (R443, R447, R453). -/
inductive IdentityKey
  | derived
  | drawn (n : Nat)
  deriving DecidableEq, Repr

/-- The security block (R441-R457). Drawn keys are named by numbers that a fresh draw advances. `recSlot` is the slot that the
recovery service writes an image into. -/
structure Security where
  slotA : FwImage := { valid := false, version := 0, sec := 0 }
  slotB : FwImage := { valid := false, version := 0, sec := 0 }
  pref : Nat := 0
  run : Nat := 0
  recovery : Bool := false
  secVersion : Nat := 0
  staged : List (Nat × Nat) := []
  recSlot : Nat := 0
  committing : Bool := false
  updResult : Nat := 0
  meas : List (List Byte) := List.replicate 8 (List.replicate 48 0)
  identity : Option IdentityKey := none
  farKey : Option Nat := none
  keysDrawn : Nat := 0
  quoteSeq : Nat := 0
  nonce : Option (List Byte) := none
  quote : Option (List Byte) := none
  dbg : DbgState := .closed
  dbgSince : Nat := 0
  debugOpened : Bool := false
  challenge : Option (Nat × Nat) := none
  dbgResult : Nat := 0
  openCount : Nat := 0
  perstHeld : Bool := false
  deriving DecidableEq, Repr

end Sys2Proof
end

