-- ==== Sys2Proof/Types/Index.lean ====
section
/-!
DEFINITION. Indexes and what they hold in the two memory tiers: node records, rerank vectors, side lists,
mirrors, code versions, batches, repair and retune state, and the journal rings (02, 06, 07).
-/
namespace Sys2Proof

/-- A node record (R29-R37): header, neighbours, sketches and code. CODE and each SKETCH are bit strings. -/
structure Rec where
  extId : Nat := nullId
  filterTag : Nat := 0
  commit : Nat := noEpoch
  state : BitVec 8 := 0
  gen : Nat := 0
  delete : Nat := noEpoch
  codeVer : Nat := 0
  nbrCount : Nat := 0
  code : Nat := 0
  sketch : List Nat := []
  nbr : List Nat := []
  deriving DecidableEq, Repr

/-- A side-list entry (R44). -/
structure SideEntry where
  pos : Nat
  slot : Nat
  extId : Nat
  filterTag : Nat
  commit : Nat
  state : BitVec 8
  gen : Nat
  delete : Nat
  codeVer : Nat
  code : Nat
  deriving DecidableEq, Repr

/-- The luthier walk of a merge batch in flight (R144, R145, R149): its admission epoch, and the core and first context it
holds with their number; no core while it waits to be placed again after its core was fenced (R85). -/
structure LuthierWalk where
  epoch : Nat
  core : Option Nat
  ctx : Nat
  g : Nat
  deriving DecidableEq, Repr

/-- A chain of a partition on one stack (R45, R143): entries not yet released, the chunks it holds (index in the stack's
side-list area, entries written; head first), the next position, the merge position, the marks (position, epoch), and the
position up to which a merge batch in flight reaches, with its walk. -/
structure Chain where
  entries : List SideEntry := []
  chunks : List (Nat × Nat) := []
  next : Nat := 0
  merged : Nat := 0
  marks : List (Nat × Nat) := []
  batch : Option Nat := none
  walk : Option LuthierWalk := none
  deriving DecidableEq, Repr

/-- A mirror entry of an upper layer (R47). -/
structure Mirror where
  slot : Nat
  layer : Nat
  codeVer : Nat
  entry : Bool
  code : Nat
  nbr : List Nat
  deriving DecidableEq, Repr

/-- A repair scan in flight (R148): its repair set, every slot with its generation (R27), and its epoch once it has joined
a batch. -/
structure Scan where
  set : List (Nat × Nat)
  epoch : Option Nat := none
  deriving DecidableEq, Repr

/-- A partition (R40, R41, R52). `recs` holds every slot that is not at the defaults of R29. `spare` names the node that
holds the reserved mirror entry (R49); `rerankBad` lists slots whose rerank vector cannot be read (R206); `repair` pairs a slot with its repair epoch and the generation of its occupant (R27, R147); `deletedAt` with the time at
which its delete was committed (R148); `poisoned` says whether the header of an unreadable record was read (R395). -/
structure Part where
  mask : Nat
  perStack : Nat
  quota : Nat
  bases : List (Nat × Nat) := []
  rerankBase : Nat := 0
  recs : List (Nat × Rec) := []
  rerank : List (Nat × List Nat) := []
  rerankBad : List Nat := []
  chains : List (Nat × Chain) := []
  mirror : List Mirror := []
  spare : Option Nat := none
  reserved : Nat := 0
  scan : Option Scan := none
  repair : List (Nat × Nat × Nat) := []
  deletedAt : List (Nat × Nat) := []
  poisoned : List (Nat × Bool) := []
  deriving DecidableEq, Repr

/-- The fixed description of an index (R28, R37, R42, R52, R97, R98, R157, R210). -/
structure IndexCfg where
  format : Format
  codeType : Nat
  metric : Nat
  partFn : Nat
  rrFmt : Nat
  rrDims : Nat
  kernel : Nat
  promoteBits : Nat
  vecDims : Nat
  owner : Nat
  deriving DecidableEq, Repr

/-- An element parameter of a code version (R161, R169). -/
structure ElemParam where
  offset : W32
  zp : Nat
  const : Bool
  deriving DecidableEq, Repr

/-- A code version: encode set, distance parameters and live interval (R99, R161, R165, R166, R179). -/
structure CodeVer where
  num : Nat
  eOn : Nat
  eOff : Option Nat := none
  scales : List W32
  elems : List ElemParam
  biases : List W32
  signs : List Nat
  distG : W32
  distOff : W32
  groupW : List W32
  sketchTable : List W32
  mse : W32
  deriving DecidableEq, Repr

/-- One row of the projection (R160, R169). -/
structure ProjRow where
  scale : W32
  elems : List Byte
  deriving DecidableEq, Repr

/-- Luthier work that publishes with a batch (R136): a merge mark, a repair scan, the version change and the switch
of a retune, a rebuilt record. -/
inductive Work
  | mark (part stack pos : Nat) | scan (part : Nat) | version | switch | rebuild (part slot : Nat)
  deriving DecidableEq, Repr

/-- A batch of writes and luthier work under one epoch (R136). -/
structure Batch where
  epoch : Nat
  opened : Nat
  writes : Nat := 0
  applied : Nat := 0
  works : List Work := []
  deriving DecidableEq, Repr

/-- Luthier states (R154, codes of R157). -/
inductive LuthierState
  | run | press | full | quiet | drop
  deriving DecidableEq, Repr

/-- Retune states (R183, codes of R190). -/
inductive RetuneState
  | idle | sample | fit | armed | pass1 | pass2 | ready | switched
  deriving DecidableEq, Repr

/-- A retune sample: projected vector and rerank vector (R184). -/
structure Sample where
  p : List W32
  rr : List W32
  deriving DecidableEq, Repr

/-- A retune sketch-table entry: sketch and slot generation (R163, R187). -/
structure SketchEntry where
  part : Nat
  slot : Nat
  sketch : Nat
  gen : Nat
  deriving DecidableEq, Repr

/-- The controls that a retune took when it started: a later change of the dictionary entries does not reach it (R189). -/
structure RetunePar where
  samples : Nat := 65536
  stride : Nat := 8
  time : Nat := 10000
  gain : Nat := 10
  auto : Bool := true
  quantile : Nat := 10
  clip : Nat := 1
  deriving DecidableEq, Repr

/-- Retune of an index (R181-R188, R190). `passed` is the pass position at `since`, in billionths of a slot. -/
structure Retune where
  state : RetuneState := .idle
  supplied : Bool := false
  since : Nat := 0
  inserts : Nat := 0
  samples : List Sample := []
  table : List SketchEntry := []
  shadow : Option CodeVer := none
  published : Bool := false
  switching : Bool := false
  space : Nat := 0
  start : Option (Nat × Nat) := none
  waiters : List (Nat × Nat) := []
  shadowEpoch : Nat := 0
  switchEpoch : Nat := 0
  mseShadow : W32 := 0
  passed : Nat := 0
  par : RetunePar := {}
  deriving DecidableEq, Repr

/-- Drift measurement and insert statistics of an index (R177, R190). -/
structure Drift where
  applications : Nat := 0
  clamped : Nat := 0
  errSum : W32 := 0
  insertClamp : Nat := 0
  insertNan : Nat := 0
  events : Nat := 0
  deriving DecidableEq, Repr

/-- An index. `pubs` gives the time base at which the epochs of its unmerged entries were published. -/
structure Index where
  cfg : IndexCfg
  parts : List Part
  current : Nat := 1
  lowWater : Nat := 1
  open_ : Option Batch := none
  closed : List Batch := []
  luthier : LuthierState := .run
  quality : Nat := 0
  route : Bool := true
  vers : List CodeVer
  proj : List ProjRow
  retune : Retune := {}
  drift : Drift := {}
  dropping : Option (Nat × Nat) := none
  lastPub : Option Nat := none
  pubs : List (Nat × Nat) := []
  waiting : Bool := false
  deriving DecidableEq, Repr

/-- A journal entry (R53). `visible` and the command word stand for what the channel controller keeps of it. -/
structure JEntry where
  off : Nat
  len : Nat
  word : CmdWord
  slot : Nat
  gen : Nat
  seq : Nat
  ord : Nat := 0
  index : Nat
  epoch : Nat
  acceptTime : Nat
  state : Nat := 1
  slotId : Option Nat := none
  slotGen : Nat := 0
  payload : List Byte := []
  reported : Bool := false
  kept : Bool := false
  deriving DecidableEq, Repr

/-- A journal ring (R54): entries from head to tail, with the offset of the next byte. -/
structure Ring where
  tail : Nat := 0
  entries : List JEntry := []
  deriving DecidableEq, Repr

/-- A user-kernel slot (R109-R112). -/
structure Kernel where
  block : Nat := 0
  valid : Bool := false
  cost : Nat := 0
  deriving DecidableEq, Repr

end Sys2Proof
end

