-- ==== Sys2Proof/Machine/State.lean ====
section
/-!
DEFINITION. The state of the module, its reset value, and the reasons a step can stop. State is plain data; each
part's types stand in Sys2Proof/Types.
-/
namespace Sys2Proof.Machine

/-- Why the machine stops. -/
inductive Fault
  /-- A command that an obligation of the manual forbids in this state, for which it promises nothing (R1, "not
  defined"): raised by PERST_N_RELEASE and by MAIN_START_STEP_DONE for its last step (R433), and by EXTEST, CLAMP and HIGHZ while
work may run (R449). Safe: the model stops where the hardware may do anything. -/
  | notDefined (rule : Nat)
  deriving DecidableEq, Repr

/-- Why a command has no meaning here. -/
inductive Refusal
  /-- Raised by an arm of `exec` whose command has no meaning yet. Safe: nothing is claimed about it. -/
  | notModelled (mnemonic : String)
  deriving DecidableEq, Repr

/-- The module. `pending` is the queue of commands that wait, first in, first out. `free` is the model's own counter
that names a new undefined background (R399 step 4). `ctr` holds the counters of 0x9100 by subindex (those not listed
are 0). `strays` names the
queries that completed while a list of theirs was still under way to a merge stage (R129). `writes` and `msi` hold what
left the host ports, newest first. -/
structure State where
  pending : List Instr := []
  free : Nat := 0
  time : TimeBase := {}
  pins : Pins := {}
  power : Power := {}
  tap : Tap := {}
  portA : HostPort := {}
  portB : HostPort := {}
  chans : List (Nat × Channel) := []
  rlocks : List RLock := []
  pinSlots : List (Nat × PinSlot) := []
  pageReqs : List PageReq := []
  indexes : List (Nat × Index) := []
  ring0 : Ring := {}
  ring1 : Ring := {}
  kernels : List (Nat × Kernel) := []
  queries : List Query := []
  bridges : List (Nat × Bridge) := []
  strums : List Strum := []
  strays : List Nat := []
  childNext : Nat := 0
  dense : Dense := {}
  fabric : Fabric := {}
  dict : Dict := {}
  log : Log := {}
  integ : Integrity := {}
  sec : Security := {}
  ctr : List (Nat × Nat) := []
  writes : List HostWrite := []
  msi : List (Port × Nat) := []
  deriving DecidableEq, Repr

/-- The module at auxiliary power-on, before the management controller has started (R425, R430): PWR_STATE 4 (Off),
DICT_READY 0, time base 0, nothing stored. FL0 slot A holds an image that passes its check. DESIGN CHOICE values: log entries 3 to 12. -/
def State.reset : State :=
  { sec := { slotA := { valid := true, version := 0x01000000, sec := 0 } } }

end Sys2Proof.Machine
end

