-- ==== Sys2Proof/Machine/Ops.lean ====
section
/-!
DEFINITION. Named operations over the state that every family uses: byte memory, ports, stored dictionary values,
counters, the event log, channels and their outstanding commands.
-/
namespace Sys2Proof.Machine

/-- What every meaning answers. -/
abbrev Result := Host.Outcome State Fault Refusal

/-! ### Byte memory -/

/-- What an address that is not listed reads as. -/
def unlisted (m : Mem) (a : Nat) : Byte := if m.fill = 0 then 0 else Config.freeByte m.fill a

/-- One byte. -/
def readByte (m : Mem) (a : Nat) : Byte := (look m.cells a).getD (unlisted m a)

/-- `n` bytes from `a` up. -/
def readBytes (m : Mem) (a : Nat) : Nat → List Byte
  | 0 => []
  | n + 1 => readByte m a :: readBytes m (a + 1) n

/-- Store one byte: a byte that equals what the unlisted address reads as is not listed. -/
def writeByte (m : Mem) (a : Nat) (b : Byte) : Mem :=
  if b = unlisted m a then { m with cells := forget m.cells a } else { m with cells := keep a b m.cells }

/-- Store bytes from `a` up. -/
def writeBytes (m : Mem) (a : Nat) : List Byte → Mem
  | [] => m
  | b :: r => writeBytes (writeByte m a b) (a + 1) r

/-- A little-endian number in memory (R6). -/
def readNat (m : Mem) (a n : Nat) : Nat := leNat (readBytes m a n)

/-- Addresses strictly rise from `lo` up, and no listed byte is what its unlisted address reads as. -/
def cellsOk (m : Mem) (lo : Nat) : List (Nat × Byte) → Bool
  | [] => true
  | (a, b) :: r => decide (lo ≤ a) && (b != unlisted m a) && cellsOk m (a + 1) r

/-- The canonical form of byte memory. -/
def Mem.wf (m : Mem) : Bool := cellsOk m 0 m.cells

/-! ### Poison marks, kept per 64 bytes (R324) -/

/-- The 64-byte lines that `n` bytes from `a` touch. -/
def linesOf (a n : Nat) : List Nat := if n = 0 then [] else (List.range ((a + n - 1) / 64 - a / 64 + 1)).map (· + a / 64)

/-- Whether any of these bytes is marked. -/
def poisonedAt (p : List Nat) (a n : Nat) : Bool := (linesOf a n).any (fun l => p.contains l)

/-- Mark the lines of a range, or unmark those that it covers whole. -/
def markPoison (p : List Nat) (a n : Nat) (bad : Bool) : List Nat :=
  if bad then p ++ (linesOf a n).filter (fun l => !p.contains l)
  else p.filter (fun l => !(decide (a ≤ l * 64) && decide (l * 64 + 64 ≤ a + n)))

/-! ### Cores -/

/-- The cores of a die, and whether a physical core serves a logical one (R19). -/
def dieCores (s : State) (d : Nat) : DieCores := nth s.integ.dies d {}
def served (s : State) (d c : Nat) : Bool := (nth (dieCores s d).map c none).isSome

/-! ### Ports -/

def port (s : State) : Port → HostPort
  | .a => s.portA
  | .b => s.portB

def setPort (s : State) (p : Port) (h : HostPort) : State :=
  match p with
  | .a => { s with portA := h }
  | .b => { s with portB := h }

/-- The number of a port in events. -/
def portNo : Port → Nat
  | .a => 0
  | .b => 1

/-! ### Stored dictionary values and counters -/

/-- The stored value of an entry for an object (R361); its Default where nothing else was stored. -/
def ctlObj (s : State) (key obj : Nat) : Nat := (look s.dict.vals (key * 65536 + obj)).getD (defaultOf key)

/-- The stored value of an entry that belongs to no window. -/
def ctl (s : State) (key : Nat) : Nat := ctlObj s key 0

/-- Store a value; a value that equals the Default is not listed. -/
def setCtl (s : State) (key obj v : Nat) : State :=
  let k := key * 65536 + obj
  let vals := if v = defaultOf key then forget s.dict.vals k else keep k v s.dict.vals
  { s with dict := { s.dict with vals := vals } }

/-- Subindices of 0x9100 that are U64 counters; the others are U32 and saturate (R89). -/
def isWide (sub : Nat) : Bool :=
  [0x01, 0x03, 0x09, 0x20, 0x21, 0x22, 0x25, 0x29, 0x30, 0x31, 0x34, 0x35, 0x36, 0x38, 0x40, 0x46, 0x50, 0x51, 0x52, 0x56,
   0x60, 0x63, 0x64, 0x65, 0x70].contains sub

/-- A counter's value. -/
def counter (s : State) (sub : Nat) : Nat := (look s.ctr sub).getD 0

/-- Add to a counter (R89, R406): a U32 counter saturates, a U64 counter wraps. -/
def bump (s : State) (sub n : Nat) : State :=
  let v := counter s sub + n
  let w := if isWide sub then v % 2 ^ 64 else min v 0xFFFFFFFF
  { s with ctr := if w = 0 then forget s.ctr sub else keep sub w s.ctr }

/-- Clear a counter (R363). -/
def clearCounter (s : State) (sub : Nat) : State := { s with ctr := forget s.ctr sub }

/-! ### The search-metering bucket (R418) -/

/-- What has come in since the last token, in 2,000ths of one: at level m a nanosecond brings m, for m ÷ 64 × 32 × 10^6 a second. -/
def tokenDue (s : State) : Nat := s.power.tokenPart + s.power.thr.meter * (s.time.tick - s.power.tokenFrom)

/-- A token is drawn; a full bucket begins to fill. -/
def drawToken (s : State) : State :=
  { s with power := { s.power with
      tokens := s.power.tokens - 1,
      tokenPart := if s.power.tokens < 64 then s.power.tokenPart else 0,
      tokenFrom := if s.power.tokens < 64 then s.power.tokenFrom else s.time.tick } }

/-- A token comes in. -/
def gainToken (s : State) : State :=
  { s with power := { s.power with tokens := s.power.tokens + 1, tokenPart := tokenDue s - 2000, tokenFrom := s.time.tick } }

/-! ### The event log (R401-R405) -/

/-- The far tier holds the event ring: from its readying at main start to the next main stop (R401, R431). -/
def farReady (s : State) : Bool := s.power.farUp

/-- Entries that the far-tier ring and the early ring hold. -/
def ringSize : Nat := 65536
def earlySize : Nat := 256

/-- Put an entry into the far-tier ring; an overwritten entry counts as lost unless it was acknowledged (R401). -/
def ringPut (l : Log) (e : Event) : Log :=
  if l.ring.length < ringSize then { l with ring := e :: l.ring }
  else
    let oldest := (l.ring.getLast?.map (·.seq)).getD 0
    { l with ring := e :: l.ring.dropLast, lost := l.lost + (if oldest ≥ l.ack then 1 else 0) }

/-- Raise an event (R401-R403): severity 3 is kept in FL1; while the far tier is not ready the early ring takes it. -/
def raise (s : State) (code sev : Nat) (kind : Nat := 0) (source : Nat := 0) (handle : Nat := 0) (index : Nat := 0xFF)
    (args : List Nat := []) : State :=
  let e : Event := { seq := s.log.next, time := s.time.base, code := code, severity := sev, kind := kind,
                     source := source, handle := handle, index := index, args := args }
  let l := { s.log with next := s.log.next + 1, fatal := if sev = 3 then (e :: s.log.fatal).take 16 else s.log.fatal,
                        isFatal := s.log.isFatal || code == 0x0114 }
  let l := if farReady s then ringPut l e
           else if l.early.length < earlySize then { l with early := e :: l.early }
           else { l with lost := l.lost + 1 }
  { s with log := l }

/-- The oldest sequence number held, LOG_NEXT_SEQ when none is held (R401, R408). -/
def logOldest (l : Log) : Nat :=
  match l.early.getLast?, l.ring.getLast? with
  | some a, some b => min a.seq b.seq
  | some a, none => a.seq
  | none, some b => b.seq
  | none, none => l.next

/-! ### Channels (R197-R202) -/

/-- A slot; a slot never used is FREE. -/
def chan (s : State) (slot : Nat) : Channel := (look s.chans slot).getD {}

def setChan (s : State) (slot : Nat) (c : Channel) : State := { s with chans := keep slot c s.chans }

/-- The module serves two ports (x8 + x8, R17, R467). -/
def twoPorts (s : State) : Bool := s.pins.split

/-- The admin slot of a port (R198). -/
def adminSlot (s : State) : Port → Nat
  | .a => 0
  | .b => ctl s 0x400002

def isAdmin (s : State) (slot : Nat) : Bool := slot == 0 || (twoPorts s && slot == adminSlot s .b)

/-- The port that owns a slot (R198). -/
def portOf (s : State) (slot : Nat) : Port := if twoPorts s && decide (ctl s 0x400002 ≤ slot) then .b else .a

/-- A slot is not FREE: an enabled admin channel or a created one (R220). -/
def slotOpen (s : State) (slot : Nat) : Bool := (chan s slot).state != .free

/-- The generation of a slot: 0 for an admin channel, whatever the slot last had (R197-R199). -/
def genOf (s : State) (slot : Nat) : Nat := if isAdmin s slot then 0 else (chan s slot).gen

/-- The handle of a slot (R197). -/
def handleOf (s : State) (slot : Nat) : Nat := put 20 (genOf s slot) + slot

/-- An outstanding command. -/
def outCmd (s : State) (slot seq : Nat) : Option OutCmd := (chan s slot).cmds.find? (fun c => c.seq == seq)

/-- Change an outstanding command. -/
def withCmd (s : State) (slot seq : Nat) (f : OutCmd → OutCmd) : State :=
  let c := chan s slot
  setChan s slot { c with cmds := c.cmds.map (fun o => if o.seq == seq then f o else o) }

/-- Take an outstanding command away without a completion (R222). -/
def dropCmd (s : State) (slot seq : Nat) : State :=
  let c := chan s slot
  setChan s slot { c with cmds := c.cmds.filter (fun o => o.seq != seq), dones := c.dones.filter (· != seq) }

/-- The work of a command is done: its completion waits to be written, behind those done before it (R202). A command that
is not outstanding leaves no trace. -/
def finish (s : State) (slot seq : Nat) (c : Compl) : State :=
  if (outCmd s slot seq).isNone then s
  else
    let s := withCmd s slot seq (fun o => { o with stage := .done c })
    let h := chan s slot
    if h.dones.contains seq then s else setChan s slot { h with dones := h.dones ++ [seq] }

/-- A command ends with a bare status. -/
def finishWith (s : State) (slot seq : Nat) (st : Status) : State := finish s slot seq { status := st }

/-- A command that was not yet admitted: fetched, or checked and waiting. -/
def isFetched (o : OutCmd) : Bool :=
  match o.stage with
  | .fetched => true
  | _ => false

def isDone (o : OutCmd) : Bool :=
  match o.stage with
  | .done _ => true
  | _ => false

/-- A command's buffer as read: `none` not yet, `some none` failed, `some (some b)` its bytes (R228). -/
def bufOf (o : OutCmd) (k : BufKind) : Option (Option (List Byte)) := (o.bufs.find? (fun p => p.1 == k)).map Prod.snd

/-- Commands of the channel fetched before one (queue order, R201): the list keeps fetch order. -/
def earlier (c : Channel) (seq : Nat) : List OutCmd := c.cmds.takeWhile (fun o => o.seq != seq)

/-! ### The PCIe function (R193) -/

/-- Device ID, class code, and the sizes of the two BARs in bytes; no other BAR is implemented. -/
def deviceId : Nat := 0x1632
def classCode : Nat := 0x120000
def barBytes (n : Nat) : Option Nat := if n = 0 then some (2 ^ 20) else if n = 2 then some (2 ^ 16) else none

/-- MSI-X vectors of a function and page requests of a port at most. -/
def msixVectors : Nat := 2048
def pageRequestMax : Nat := 512

/-! ### Host writes -/

/-- Bytes that leave for host memory on a channel's port, with its PASID (R199) and relaxed ordering clear (R193). -/
def hostWrite (s : State) (slot addr : Nat) (data : List Byte) : State :=
  { s with writes := { port := portOf s slot, pasid := (chan s slot).cfg.pasid, relaxed := false, addr := addr, data := data } :: s.writes }

/-- A dword of the MSI-X table; the mask bit of Vector Control is set at reset (PCIe). -/
def msixWord (h : HostPort) (i : Nat) : Nat := (look h.msix i).getD (if i % 4 = 3 then 1 else 0)

/-- An MSI-X message of a port's vector; a masked vector becomes pending (PCIe). -/
def sendMsi (s : State) (p : Port) (vector : Nat) : State :=
  let h := port s p
  if bit (msixWord h (4 * vector + 3)) 0 then
    if h.msixPending.contains vector then s else setPort s p { h with msixPending := h.msixPending ++ [vector] }
  else { s with msi := (p, vector) :: s.msi }

/-- Write a dword of the MSI-X table; a pending vector that is unmasked sends its message (PCIe). -/
def setMsix (s : State) (p : Port) (i v : Nat) : State :=
  let h := port s p
  let w := if i % 4 = 3 then v % 2 else v
  let h := { h with msix := if w = (if i % 4 = 3 then 1 else 0) then forget h.msix i else keep i w h.msix }
  if i % 4 = 3 ∧ w = 0 ∧ h.msixPending.contains (i / 4) then
    let s := setPort s p { h with msixPending := h.msixPending.filter (· != i / 4) }
    { s with msi := (p, i / 4) :: s.msi }
  else setPort s p h

/-- A new undefined background (R399 step 4; log entry 3). -/
def freshFill (s : State) : State × Nat := ({ s with free := s.free + 1 }, s.free + 1)

/-- An event that finds nothing to act on changes nothing (log entry 2). -/
def idle (s : State) : Result := .next s

/-- The dense clock of a die in 640ths of a CCLK cycle (900 MHz): its units and its holds advance in d of every 64 cycles (R8, R25,
R417). -/
def dieClock (s : State) (die : Nat) : Nat :=
  nth s.power.dieClk die 0 + (s.time.tick - s.power.dieClkAt) * 9 * nth s.power.thr.duty die 64

/-- Change the dense duties; the cycles that have advanced under the old ones stand. -/
def setDuties (s : State) (duty : List Nat) : State :=
  { s with power := { s.power with
    dieClk := (List.range 8).map (dieClock s), dieClkAt := s.time.tick, thr := { s.power.thr with duty := duty } } }

/-- Time of a comparison that lags ACLK (R22). -/
def seenTime (s : State) (lag : Nat) : Nat := s.time.base - min lag 80

/-! ### Page requests (R226) -/

/-- Page requests of a port outstanding, and how many it may have. -/
def pagesOut (s : State) (p : Port) : Nat :=
  sumOf (s.pageReqs.filterMap (fun r => if r.port = p then some r.sinces.length else none))
def pagesAllowed (s : State) (p : Port) : Nat := min (port s p).priAlloc pageRequestMax

/-- Request the pages that the allocation has room for, access by access. -/
def issuePages (s : State) : State :=
  let step (x : State × List PageReq) (r : PageReq) : State × List PageReq :=
    let out := sumOf (x.2.filterMap (fun y => if y.port = r.port then some y.sinces.length else none))
      + sumOf (s.pageReqs.filterMap (fun y => if y.port = r.port ∧ !(x.2.any (fun z => z.slot == y.slot && z.seq == y.seq && z.acc == y.acc))
          then some y.sinces.length else none))
    let n := min r.more (pagesAllowed s r.port - out)
    (bump x.1 0x46 n, x.2 ++ [{ r with sinces := r.sinces ++ List.replicate n s.time.tick, more := r.more - n }])
  let r := s.pageReqs.foldl step (s, [])
  { r.1 with pageReqs := r.2 }

/-- An access has page requests outstanding or to come. -/
def paging (s : State) (slot seq : Nat) (acc : Access) : Option PageReq :=
  s.pageReqs.find? (fun r => r.slot == slot && r.seq == seq && r.acc == acc)

/-- Take an access's page requests away. -/
def withdraw (s : State) (p : PageReq → Bool) : State :=
  issuePages { s with pageReqs := s.pageReqs.filter (fun r => !(p r)) }

end Sys2Proof.Machine
end

