-- ==== Sys2Proof/Machine/FabricOps.lean ====
section
/-!
DEFINITION. The fabric link layer: transmission under credits, receipt, forwarding, ports going down (R330-R340).
-/
namespace Sys2Proof.Machine

/-- FAB_MODULE_ID; 0xFFFF unassigned (R339). -/
def myId (s : State) : Nat := ctl s 0x800001
def unassigned (s : State) : Bool := myId s == 0xFFFF

/-- The port that the routing table names for a destination (R340). -/
def routeOf (s : State) (dst : Nat) : Option Nat :=
  let p := ctlObj s 0x800009 dst
  if p < 8 then some p else none

/-- Flits of a frame: its head and the body flits of 60 payload bytes (R332). -/
def flitsOf (f : Frame) : Nat := 1 + ceilDiv f.len 60

/-- The receive class that a frame enters (R336). -/
def classOf (f : Frame) : Nat := 4 * f.tc + f.hops

def fabPort (s : State) (p : Nat) : FabPort := nth s.fabric.ports p {}
def setFabPort (s : State) (p : Nat) (f : FabPort) : State :=
  { s with fabric := { s.fabric with ports := s.fabric.ports.set p f } }

/-- Free flits of the receiver's class buffer of 512, as the CREDIT totals tell the sender (R336). -/
def creditOf (p : FabPort) (c : Nat) : Nat := 512 - (nth p.sentFlits c 0 + 65536 - nth p.peerFreed c 0) % 65536

/-- The frame may be sent now: credit covers it, the replay buffer has room, fewer than 2,048 frames are
unacknowledged (R336, R337). -/
def maySend (p : FabPort) (f : Frame) : Bool :=
  decide (flitsOf f ≤ creditOf p (classOf f)) && decide (p.unacked.length < 2048)
    && decide (sumOf (p.unacked.map (fun u => flitsOf u.frame)) + flitsOf f ≤ 8192)

/-- Transmit one frame: it gets the next FSEQ and stays in the replay buffer. -/
def transmit (p : FabPort) (x : Queued) : FabPort :=
  let f := x.frame
  let u : Sent := { fseq := p.txSeq, rpl := 0, cls := classOf f, frame := f }
  { p with queue := p.queue.erase x, unacked := p.unacked ++ [u], out := u :: p.out, txSeq := (p.txSeq + 1) % 4096,
           sentFlits := p.sentFlits.modify (classOf f) (fun n => (n + flitsOf f) % 65536) }

/-- A waiting frame is the first of its class and may be sent: frames of one class leave in their order, and one that credit
holds back holds up no other class, as each class waits only on classes above it (R336): DEDUCED, log entry 116. -/
def sendable (p : FabPort) (x : Queued) : Bool :=
  maySend p x.frame && (p.queue.find? (fun y => classOf y.frame == classOf x.frame)) == some x

/-- The next frame to send: of those that may be sent the first of TC 1, else the first (R336, R340). -/
def nextFrame (p : FabPort) : Option Queued :=
  match p.queue.find? (fun x => x.frame.tc == 1 && sendable p x) with
  | some x => some x
  | none => p.queue.find? (sendable p)

/-- Send what may be sent; the frames sent go with it. -/
def pumpLoop : Nat → FabPort → List Queued → FabPort × List Queued
  | 0, p, l => (p, l)
  | k + 1, p, l =>
    match nextFrame p with
    | some x => pumpLoop k (transmit p x) (l ++ [x])
    | none => (p, l)

/-- The flits of a class were freed (R335, R336). -/
def freeFlits (s : State) (i c n : Nat) : State :=
  let p := fabPort s i
  setFabPort s i { p with freed := p.freed.modify c (fun v => (v + n) % 65536) }

/-- Bytes that a hub die's ingress buffer holds (R340). -/
def ingressBytes (s : State) (hub : Nat) : Nat :=
  sumOf (s.fabric.ingress.filterMap (fun h => if h.port / 4 = hub ∧ h.owed = false then some (64 * flitsOf h.frame) else none))

/-- The ingress buffer of a port's hub die has no room for some flits more (R340). -/
def ingressFull (s : State) (i flits : Nat) : Bool := decide (4194304 < ingressBytes s (i / 4) + 64 * flits)

/-- Frames that wait in their receive classes for room move into a hub's ingress buffer in their order, and their credit returns. -/
def admitHeld (s : State) (hub : Nat) : State :=
  s.fabric.ingress.foldl (fun s h =>
    if h.owed && h.port / 4 == hub && !(ingressFull s h.port (flitsOf h.frame)) then
      freeFlits { s with fabric := { s.fabric with
        ingress := s.fabric.ingress.map (fun x => if x = h then { x with owed := false } else x) } } h.port h.cls (flitsOf h.frame)
    else s) s

/-- Room has come in the ingress buffer of a hub: owed credit returns (R340). -/
def settleIngress (s : State) (hub : Nat) : State :=
  let due (s : State) (o : OwedCredit) : Bool := o.port / 4 == hub && !(ingressFull s o.port o.flits)
  let paid := s.fabric.owed.filter (due s)
  let s := { s with fabric := { s.fabric with owed := s.fabric.owed.filter (fun o => !(due s o)) } }
  admitHeld (paid.foldl (fun s o => freeFlits s o.port o.cls o.flits) s) hub

/-- A frame is delivered: the flits of its receive class are freed, or owed while the ingress buffer is full (R340). -/
def passIngress (s : State) (i : Nat) (f : Frame) : State :=
  if ingressFull s i (flitsOf f) then
    { s with fabric := { s.fabric with owed := s.fabric.owed ++ [{ port := i, cls := classOf f, flits := flitsOf f }] } }
  else freeFlits s i (classOf f) (flitsOf f)

/-- A forwarded frame has left its receive class. -/
def freeHomeIn (ps : List FabPort) (x : Queued) : List FabPort :=
  match x.home with
  | some h => ps.modify h.1 (fun p => { p with freed := p.freed.modify h.2 (fun v => (v + flitsOf x.frame) % 65536) })
  | none => ps
def freeHome (s : State) (x : Queued) : State := { s with fabric := { s.fabric with ports := freeHomeIn s.fabric.ports x } }

/-- Send what a port may send, and count it. -/
def pump (s : State) (i : Nat) : State :=
  let p := fabPort s i
  let r := pumpLoop p.queue.length p []
  bump { s with fabric := { s.fabric with ports := r.2.foldl freeHomeIn (s.fabric.ports.set i r.1) } } 0x70 r.2.length

/-- Hand a frame to the routing table (R339, R340); `home` is the receive class of a frame that is forwarded. -/
def fabSend (s : State) (f : Frame) (home : Option (Nat × Nat) := none) : State :=
  let x : Queued := { frame := f, home := home }
  if unassigned s then freeHome s x
  else
    match routeOf s f.dst with
    | none => bump (freeHome s x) 0x73 1
    | some i =>
      if (fabPort s i).state = .up then
        pump (setFabPort s i { fabPort s i with queue := (fabPort s i).queue ++ [x] }) i
      else bump (freeHome s x) 0x74 1

/-- Send a link-control flit; every one carries PEER_ID and the credit totals (R335). -/
def sendLc (s : State) (i : Nat) (op : LcOp) (aseq : Nat) (tA tB : Nat := 0) : State :=
  let p := fabPort s i
  let l : LcOut := { op := op, aseq := aseq, peerId := myId s, credits := p.freed, tA := tA, tB := tB }
  setFabPort s i { p with lc := l :: p.lc, lastLc := s.time.tick }

/-- Receipt of a frame at the link layer (R337): what stands of it, with whether its payload is poisoned. -/
def linkReceive (s : State) (i : Nat) (r : RxFrame) : State × Option (Frame × Bool) :=
  let p := fabPort s i
  if p.state ≠ .up then (s, none)
  else
    let take (s : State) : State :=
      let p := fabPort s i
      sendLc (setFabPort s i { p with rxSeq := (p.rxSeq + 1) % 4096, nakked := false }) i .ack r.fseq
    if r.fseq ≠ p.rxSeq then
      if p.nakked then (s, none)
      else (sendLc (setFabPort s i { p with nakked := true }) i .nak p.rxSeq, none)
    else
      match r.parity with
      | .good => (take s, some (r.frame, false))
      | .payloadBad =>
        if r.rpl = 3 then
          let s := raise (bump (take s) 0x72 1) 0x0501 2 5 i (args := [r.fseq])
          (setFabPort s i { fabPort s i with unrec := s.time.tick :: (fabPort s i).unrec }, some (r.frame, true))
        else (sendLc (setFabPort s i { p with nakked := true }) i .nak p.rxSeq, none)
      | .headBad =>
        if r.rpl = 3 then
          let s := raise (bump (take s) 0x72 1) 0x0501 2 5 i (args := [r.fseq])
          let s := setFabPort s i { fabPort s i with unrec := s.time.tick :: (fabPort s i).unrec }
          (freeFlits s i (classOf r.frame) (flitsOf r.frame), none)
        else (sendLc (setFabPort s i { p with nakked := true }) i .nak p.rxSeq, none)

/-- A frame has a reserved TYPE or a LEN above 16,448 (R334). -/
def badFrameForm (f : Frame) : Bool := decide (f.typ < 1 ∨ 4 < f.typ ∨ 16448 < f.len)

/-- Receipt of a frame: bad forms are discarded, frames for other modules go on, and what is for this module is
answered for delivery (R334, R336, R339, R340). The class's flits are freed once the frame has left its buffer: for a
frame that is answered, the caller frees them, and a frame that goes on keeps them until the next port has sent it. -/
def fabReceive (s : State) (i : Nat) (r : RxFrame) : State × Option (Frame × Bool) :=
  match linkReceive s i r with
  | (s, none) => (s, none)
  | (s, some (f, bad)) =>
    let free (s : State) : State := freeFlits s i (classOf f) (flitsOf f)
    if unassigned s then (free s, none)
    else if badFrameForm f then (raise (bump (free s) 0x75 1) 0x0503 1 5 i (args := [f.typ, f.len]), none)
    else if f.dst = myId s then (s, some (f, bad))
    else if f.hops = 3 then (raise (bump (free s) 0x73 1) 0x0504 1 5 i (args := [f.dst, f.hops]), none)
    else (fabSend s { f with hops := f.hops + 1 } (some (i, classOf f)), none)

/-- The parent port of the time tree left UP (R350). -/
def timeParentLost (s : State) (i : Nat) : State :=
  if s.time.sync = .locked && ctl s 0x800004 == i then
    raise { s with time := { s.time with sync := .holdover, slewLeft := 0, exch := none } } 0x0507 2
  else s

/-- Frames that a port received and that the module still holds owe it no credit any more: its next training begins with full
credits (R338). -/
def forgetHome (s : State) (i : Nat) : State :=
  let quit (x : Queued) : Queued := { x with home := x.home.filter (fun h => h.1 != i) }
  { s with fabric := { s.fabric with
      ports := s.fabric.ports.map (fun p => { p with queue := p.queue.map quit }),
      ingress := s.fabric.ingress.map (fun h => { h with owed := h.owed && h.port != i })
      owed := s.fabric.owed.filter (fun o => o.port != i) } }

/-- A port leaves UP: queued and unacknowledged frames are discarded and counted, and an event is logged (R338). -/
def portDown (s : State) (i : Nat) (next : PortState) (arg : Nat) : State :=
  let s := forgetHome { s with fabric := { s.fabric with ports := (fabPort s i).queue.foldl freeHomeIn s.fabric.ports } } i
  let p := fabPort s i
  let n := p.queue.length + p.unacked.length
  let s := setFabPort s i { p with state := next, since := s.time.tick, queue := [], unacked := [], unrec := [], nakked := false }
  timeParentLost (raise (bump s 0x74 n) 0x0502 2 5 i (args := [arg])) i

/-- What every link-control flit tells (R335): a flit with a parity error is discarded. -/
def takeLc (s : State) (i : Nat) (l : LinkControl) : Option State :=
  let p := fabPort s i
  if p.state = .up && l.parityOk then
    some (setFabPort s i { p with peer := l.peerId, peerFreed := l.credits.map (· % 65536) })
  else none

end Sys2Proof.Machine
end

