-- ==== Sys2Proof/Machine/Float.lean ====
section
/-!
DEFINITION. Floating arithmetic bit for bit: every operation is formed exactly on dyadic values and rounded once
(rne32 of R103, the conversions of R107, R172 and R478, the accumulators of R250 and R256). Division, square
root and the exponential are carried with a sticky bit, so that one rounding gives the correctly rounded result
(R110, R258).
-/
namespace Sys2Proof

/-- A floating value: a NaN of a sign, an infinity, or the exact dyadic number ±m·2^e. -/
inductive FV
  | nan (neg : Bool)
  | inf (neg : Bool)
  | fin (neg : Bool) (m : Nat) (e : Int)
  deriving DecidableEq, Repr

/-- A floating format: exponent bits, mantissa bits, and whether all-ones exponents hold finite values (E4M3). -/
structure Fmt where
  eb : Nat
  mb : Nat
  e4m3 : Bool := false
  deriving DecidableEq, Repr

def fp32 : Fmt := ⟨8, 23, false⟩
def fp16 : Fmt := ⟨5, 10, false⟩
def bf16 : Fmt := ⟨8, 7, false⟩
def e5m2 : Fmt := ⟨5, 2, false⟩
def e4m3 : Fmt := ⟨4, 3, true⟩
def fp64 : Fmt := ⟨11, 52, false⟩

/-- Bits of an encoding. -/
def Fmt.width (f : Fmt) : Nat := 1 + f.eb + f.mb
def Fmt.bias (f : Fmt) : Int := (2 ^ (f.eb - 1) : Nat) - 1
/-- Exponent of the last place of subnormals. -/
def Fmt.emin (f : Fmt) : Int := 1 - f.bias - f.mb
/-- Encoding of the largest finite magnitude: 448 for E4M3, else one below infinity. -/
def Fmt.maxMag (f : Fmt) : Nat := if f.e4m3 then 0x7E else ((2 ^ f.eb - 1) <<< f.mb) - 1

/-- The exact value of an encoding (R107 step 2). -/
def fdec (f : Fmt) (u : Nat) : FV :=
  let neg := bit u (f.eb + f.mb)
  let ex := bits u (f.eb + f.mb - 1) f.mb
  let ma := u % 2 ^ f.mb
  if f.e4m3 then
    if u % 2 ^ (f.eb + f.mb) == 0x7F then .nan neg
    else if ex == 0 then .fin neg ma f.emin else .fin neg (2 ^ f.mb + ma) (f.emin + ex - 1)
  else if ex == 2 ^ f.eb - 1 then (if ma == 0 then .inf neg else .nan neg)
  else if ex == 0 then .fin neg ma f.emin else .fin neg (2 ^ f.mb + ma) (f.emin + ex - 1)

/-- m·2^e in whole places of 2^t, to nearest, ties to even. -/
def nearestEven (m : Nat) (e t : Int) : Nat :=
  let d := e - t
  if d ≥ 0 then m <<< d.toNat
  else
    let k := (-d).toNat
    let q := m >>> k
    let r := m - (q <<< k)
    let half := 1 <<< (k - 1)
    if r < half then q else if r > half then q + 1 else if q % 2 == 0 then q else q + 1

/-- Exponent of the last place that a value m·2^e takes in a format. -/
def lastPlace (f : Fmt) (m : Nat) (e : Int) : Int :=
  max f.emin (e + (Nat.log2 m : Int) - f.mb)

/-- A NaN encoding whose payload the manual leaves open. -/
def nanBits (f : Fmt) (neg : Bool) : Nat :=
  let base := if f.e4m3 then 0x7F else ((2 ^ f.eb - 1) <<< f.mb) + 2 ^ (f.mb - 1) + Config.nanPayload f.mb % 2 ^ (f.mb - 1)
  (if neg then 2 ^ (f.eb + f.mb) else 0) + base

/-- Encode a magnitude of `q` places at last place `t` (q ≤ 2^(mb+1)). -/
def packMag (f : Fmt) (q : Nat) (t : Int) : Nat :=
  if q < 2 ^ f.mb then q
  else (q - 2 ^ f.mb) + (((t - f.emin).toNat + 1) <<< f.mb)

/-- Round to nearest-even in a format; `sat` saturates finite overflow at the largest finite value (R160, R478),
otherwise it gives infinity. -/
def frnd (f : Fmt) (sat : Bool) (v : FV) : Nat :=
  let sg (neg : Bool) (u : Nat) := if neg then 2 ^ (f.eb + f.mb) + u else u
  match v with
  | .nan neg => nanBits f neg
  | .inf neg => if f.e4m3 then sg neg f.maxMag else sg neg ((2 ^ f.eb - 1) <<< f.mb)
  | .fin neg m e =>
    if m == 0 then sg neg 0
    else
      let t := lastPlace f m e
      let u := packMag f (nearestEven m e t) t
      if u ≤ f.maxMag then sg neg u
      else if sat || f.e4m3 then sg neg f.maxMag else sg neg ((2 ^ f.eb - 1) <<< f.mb)

/-- The value after one rounding to a format. -/
def fround (f : Fmt) (v : FV) : FV :=
  match v with
  | .fin neg m e =>
    if m == 0 then .fin neg 0 0 else fdec f (frnd f false (.fin neg m e))
  | w => w

/-- rne32: round to nearest-even in FP32 (R103). -/
def rne32 (v : FV) : FV := fround fp32 v

def FV.neg : FV → FV
  | .nan s => .nan (!s)
  | .inf s => .inf (!s)
  | .fin s m e => .fin (!s) m e

def FV.abs : FV → FV
  | .nan _ => .nan false
  | .inf _ => .inf false
  | .fin _ m e => .fin false m e

def FV.isNan : FV → Bool
  | .nan _ => true
  | _ => false

def FV.isFinite : FV → Bool
  | .fin _ _ _ => true
  | _ => false

def FV.isZero : FV → Bool
  | .fin _ m _ => m == 0
  | _ => false

def FV.signBit : FV → Bool
  | .nan s => s
  | .inf s => s
  | .fin s _ _ => s

/-- An exact integer. -/
def ofInt (i : Int) : FV := .fin (decide (i < 0)) i.natAbs 0

/-- The exact integer numerator of a dyadic at exponent `t ≤ e`. -/
def atExp (neg : Bool) (m : Nat) (e t : Int) : Int :=
  let v : Int := (m <<< (e - t).toNat : Nat)
  if neg then -v else v

/-- Exact sum. Opposite zeros and exact cancellation give +0, as round-to-nearest prescribes. -/
def fadd : FV → FV → FV
  | .nan s, _ => .nan s
  | _, .nan s => .nan s
  | .inf a, .inf b => if a == b then .inf a else .nan false
  | .inf a, _ => .inf a
  | _, .inf b => .inf b
  | .fin a m e, .fin b n f =>
    if m == 0 && n == 0 then .fin (a && b) 0 0
    else
      let t := min e f
      let s := atExp a m e t + atExp b n f t
      .fin (decide (s < 0)) s.natAbs t

def fsub (x y : FV) : FV := fadd x y.neg

/-- Exact product. -/
def fmul : FV → FV → FV
  | .nan s, _ => .nan s
  | _, .nan s => .nan s
  | .inf a, .inf b => .inf (a != b)
  | .inf a, .fin b m _ => if m == 0 then .nan false else .inf (a != b)
  | .fin a m _, .inf b => if m == 0 then .nan false else .inf (a != b)
  | .fin a m e, .fin b n f => .fin (a != b) (m * n) (e + f)

/-- Enough places that a quotient or root with its sticky bit rounds correctly in every format here. -/
def guardPlaces : Nat := 140

/-- Quotient carried to `guardPlaces` places with a sticky bit. -/
def fdiv : FV → FV → FV
  | .nan s, _ => .nan s
  | _, .nan s => .nan s
  | .inf _, .inf _ => .nan false
  | .inf a, .fin b _ _ => .inf (a != b)
  | .fin a _ _, .inf b => .fin (a != b) 0 0
  | .fin a m e, .fin b n f =>
    if n == 0 then (if m == 0 then .nan false else .inf (a != b))
    else if m == 0 then .fin (a != b) 0 0
    else
      let k := guardPlaces + Nat.log2 n
      let q := (m <<< k) / n
      let st := if q * n == m <<< k then 0 else 1
      .fin (a != b) (2 * q + st) (e - f - k - 1)

/-- Integer square root of a number below 4^n, bit by bit. -/
def isqrt : Nat → Nat → Nat
  | 0, _ => 0
  | n + 1, v =>
    let r := 2 * isqrt n (v / 4)
    if (r + 1) * (r + 1) ≤ v then r + 1 else r

/-- Square root carried with a sticky bit. -/
def fsqrt : FV → FV
  | .nan s => .nan s
  | .inf neg => if neg then .nan false else .inf false
  | .fin neg m e =>
    if m == 0 then .fin neg 0 0
    else if neg then .nan false
    else
      let k := 2 * guardPlaces + (e % 2).toNat
      let v := m <<< k
      let r := isqrt (Nat.log2 v / 2 + 1) v
      let st := if r * r == v then 0 else 1
      .fin false (2 * r + st) ((e - k) / 2 - 1)

/-- Strict order of two values that are not NaN; zeros are equal. -/
def flt : FV → FV → Bool
  | .nan _, _ => false
  | _, .nan _ => false
  | .inf a, .inf b => a && !b
  | .inf a, .fin _ _ _ => a
  | .fin _ _ _, .inf b => !b
  | .fin a m e, .fin b n f =>
    let t := min e f
    decide (atExp a m e t < atExp b n f t)

def fle (x y : FV) : Bool := !x.isNan && !y.isNan && !flt y x
def feq (x y : FV) : Bool := fle x y && fle y x

/-- The order of IEEE 754 minimum and maximum: −0 stands before +0. -/
def fbefore (x y : FV) : Bool := flt x y || (x.isZero && y.isZero && x.signBit && !y.signBit)

/-- Minimum and maximum; NaN if either is NaN (R110). -/
def fmin (x y : FV) : FV := if x.isNan then x else if y.isNan then y else if fbefore y x then y else x
def fmax (x y : FV) : FV := if x.isNan then x else if y.isNan then y else if fbefore x y then y else x

/-- 2^k exactly. -/
def pow2 (k : Int) : FV := .fin false 1 k

/-- The exponent of a finite non-zero magnitude: 2^e ≤ |v| < 2^(e+1). -/
def fexp2 : FV → Int
  | .fin _ m e => e + Nat.log2 m
  | _ => 0

/-- Nearest integer, ties to even (rni of R161); 0 for values that are no number. -/
def rni : FV → Int
  | .fin neg m e =>
    let q : Int := nearestEven m e 0
    if neg then -q else q
  | _ => 0

/-- ⌊ln 2 · 2^320⌋. -/
def ln2Fixed : Nat := 0xb17217f7d1cf79abc9e3b39803f2f6af40f343267298b62d8a0d175b8baafa2be7b876206debac98

/-- Taylor sum of exp(r) in 320-bit fixed point, `n` terms from term `i` on. -/
def expTaylor (r : Nat) (term i : Nat) : Nat → Nat
  | 0 => 0
  | n + 1 => term + expTaylor r ((term * r) >>> 320 |> (· / (i + 1))) (i + 1) n

/-- exp carried far past FP32's places with a sticky bit; exp of a non-zero dyadic is never a tie (R258). -/
def fexp : FV → FV
  | .nan s => .nan s
  | .inf neg => if neg then .fin false 0 0 else .inf false
  | .fin neg m e =>
    if m == 0 then .fin false 1 0
    else
      let big := decide ((Nat.log2 m : Int) + e > 9)
      if big then (if neg then .fin false 1 (-400) else .fin false 1 400)
      else
        let x : Nat := if e + 320 ≥ 0 then m <<< (e + 320).toNat else m >>> (-(e + 320)).toNat
        let k := x / ln2Fixed
        let r := x % ln2Fixed
        if neg then
          -- exp(-x) = 2^(-k-1) · exp(ln2 - r)
          .fin false (2 * expTaylor (ln2Fixed - r) (1 <<< 320) 0 100 + 1) (-(k : Int) - 1 - 321)
        else .fin false (2 * expTaylor r (1 <<< 320) 0 100 + 1) ((k : Int) - 321)

/-- FP32 encodings of arithmetic rounded once. -/
def d32 (w : W32) : FV := fdec fp32 w.toNat
def e32 (v : FV) : W32 := BitVec.ofNat 32 (frnd fp32 false v)

def add32 (x y : FV) : FV := rne32 (fadd x y)
def sub32 (x y : FV) : FV := rne32 (fsub x y)
def mul32 (x y : FV) : FV := rne32 (fmul x y)
def div32 (x y : FV) : FV := rne32 (fdiv x y)
def sqrt32 (x : FV) : FV := rne32 (fsqrt x)
def recip32 (x : FV) : FV := div32 (pow2 0) x
def rsqrt32 (x : FV) : FV := rne32 (fdiv (pow2 0) (fsqrt x))
def exp32 (x : FV) : FV := rne32 (fexp x)

/-- One level of the fixed pairwise tree: adjacent pairs first (R107 step 4). -/
def pairUp (op : FV → FV → FV) : List FV → List FV
  | a :: b :: r => op a b :: pairUp op r
  | l => l

/-- The fixed pairwise tree over a block, `n` levels. -/
def treeLevels (op : FV → FV → FV) : Nat → List FV → List FV
  | 0, l => l
  | n + 1, l => treeLevels op n (pairUp op l)

/-- A block of `2^n` terms reduced by the pairwise tree, missing terms contributing `unit`. -/
def treeBlock (op : FV → FV → FV) (unit : FV) (n : Nat) (l : List FV) : FV :=
  (treeLevels op n (l ++ List.replicate (2 ^ n - l.length) unit)).headD unit

/-- Split a list into blocks of `k` elements, at most `fuel` of them. -/
def blocksOf (k : Nat) : Nat → List α → List (List α)
  | 0, _ => []
  | _, [] => []
  | n + 1, l => l.take k :: blocksOf k n (l.drop k)

/-- The summation rule of R107: blocks of 2^n terms by the pairwise tree, block sums added in order, each node
rounded by rne32, from +0. -/
def sumRule (n : Nat) (terms : List FV) : FV :=
  (blocksOf (2 ^ n) (terms.length + 1) terms).foldl (fun acc b => add32 acc (treeBlock add32 (.fin false 0 0) n b))
    (.fin false 0 0)

/-- The same block tree with MAX (R110). -/
def maxRule (n : Nat) (terms : List FV) : FV :=
  (blocksOf (2 ^ n) (terms.length + 1) terms).foldl (fun acc b => fmax acc (treeBlock fmax (.inf true) n b)) (.inf true)

/-- The format of a RERANK_FMT code (R52). -/
def rrFmt : Nat → Fmt
  | 1 => e4m3
  | 2 => e5m2
  | 3 => bf16
  | 4 => fp16
  | _ => fp32

/-- Bytes of an element of a RERANK_FMT code (R52). -/
def rrSize : Nat → Nat
  | 1 => 1
  | 2 => 1
  | 3 => 2
  | 4 => 2
  | 5 => 4
  | _ => 0

/-- log2 of the block size E of R106 and R107 for a stored format: 64, 32 or 16 elements. -/
def blockLog : Nat → Nat
  | 1 => 6
  | 2 => 6
  | 3 => 5
  | 4 => 5
  | _ => 4

/-- The elements that a run of bytes holds in a format code. -/
def elemsOf (fmt n : Nat) (bs : List Byte) : List FV :=
  (List.range n).map (fun i => fdec (rrFmt fmt) (numAt bs (i * rrSize fmt) (rrSize fmt)))

/-- The stored encoding of a payload element in a rerank format (R478). -/
def rerankElem (fmt : Nat) (v : FV) : Nat :=
  let f := rrFmt fmt
  match v with
  | .nan neg => (if neg then 2 ^ (f.eb + f.mb) else 0) + (2 ^ (f.eb + f.mb) - 1)
  | w => frnd f true w

end Sys2Proof
end

