-- ==== Sys2Proof/Machine/Image.lean ====
section
/-!
DEFINITION. Tablature images: fields of lines, descriptors, stream entries and training directories (R237-R247,
R263-R264, R279-R282, R304-R306).
-/
namespace Sys2Proof.Machine

/-! ### Lines (R237-R243) -/

def lnControl (l : Nat) : Nat := bits l 2047 1984
def lnStream (l s : Nat) : Nat := bits l (1600 + 96 * s + 95) (1600 + 96 * s)
def lnRow (l : Nat) : Nat := bits l 1599 1536
def lnCore (l c : Nat) : Nat := bits l (24 * c + 23) (24 * c)

def ctOp (k : Nat) : Nat := bits k 63 60
def ctCnt (k : Nat) : Nat := bits k 59 58
def ctArg (k : Nat) : Bool := bit k 57
def ctTarget (k : Nat) : Nat := bits k 51 32
def ctImm (k : Nat) : Nat := bits k 31 16
def ctHold (k : Nat) : Nat := bits k 15 0

def stOp (x : Nat) : Nat := bits x 95 88
def stStream (x : Nat) : Nat := bits x 87 80
def stMask (x : Nat) : Nat := bits x 79 16
def stCount (x : Nat) : Nat := bits x 15 0

def reOp (x : Nat) : Nat := bits x 63 58
def reKind (x : Nat) : Nat := bits x 57 56
def reDesc (x : Nat) : Nat := bits x 55 44
def reSide (x : Nat) : Nat := bits x 43 24
def reRows (x : Nat) : Nat := bits x 23 4

def csOp (x : Nat) : Nat := bits x 23 18
def csAcc (x : Nat) : Bool := bit x 17
def csTile (x : Nat) : Nat := bits x 16 12
def csDesc (x : Nat) : Nat := bits x 11 0

/-- The unit of a core operation (R243). -/
def unitOf (op : Nat) : Option ExecUnit :=
  match op with
  | 1 => some .f
  | 2 => some .g
  | 3 => some .g
  | 4 => some .e
  | 5 => some .e
  | 6 => some .e
  | 7 => some .t
  | 8 => some .s
  | 9 => some .s
  | 10 => some .s
  | 11 => some .s
  | _ => none

/-- The descriptor kind of a core operation (R243). -/
def kindOf (op : Nat) : Nat :=
  match op with
  | 1 => 1
  | 2 => 1
  | 3 => 1
  | 4 => 2
  | 5 => 3
  | 6 => 4
  | 7 => 5
  | 8 => 6
  | 9 => 6
  | 10 => 6
  | 11 => 6
  | _ => 0

/-! ### Descriptors (R244-R246) -/

def dKind (d : Nat) : Nat := bits d 255 252

/-- Product. -/
def pA (d : Nat) : Nat := bits d 251 232
def pB (d : Nat) : Nat := bits d 231 212
def pZA (d : Nat) : Nat := bits d 211 192
def pZB (d : Nat) : Nat := bits d 191 172
def pStride (d : Nat) : Nat := bits d 171 155
def pM (d : Nat) : Nat := bits d 154 148
def pGroups (d : Nat) : Nat := bits d 147 135
def pAFmt (d : Nat) : Nat := bits d 134 131
def pBFmt (d : Nat) : Nat := bits d 130 127
def pAcc16 (d : Nat) : Bool := bit d 126
def pSub (d : Nat) : Bool := bit d 125
def pSR (d : Nat) : Bool := bit d 124
def pRow0 (d : Nat) : Nat := bits d 123 100
def pCol0 (d : Nat) : Nat := bits d 99 80
def pGrp0 (d : Nat) : Nat := bits d 79 60
def pRowStep (d : Nat) : Nat := bits d 59 44
def pColStep (d : Nat) : Nat := bits d 43 28
def pGrpStep (d : Nat) : Nat := bits d 27 16
def pRowCnt (d : Nat) : Nat := bits d 15 14
def pColCnt (d : Nat) : Nat := bits d 13 12
def pGrpCnt (d : Nat) : Nat := bits d 11 10
def pPStride (d : Nat) : Nat := bits d 9 0

/-- Epilogue. -/
def eOut (d : Nat) : Nat := bits d 251 232
def eAsc (d : Nat) : Nat := bits d 231 212
def eWsc (d : Nat) : Nat := bits d 211 192
def eBias (d : Nat) : Nat := bits d 191 172
def eRes (d : Nat) : Nat := bits d 171 152
def eOsc (d : Nat) : Nat := bits d 151 132
def eRs (d : Nat) : Nat := bits d 131 112
def eStride (d : Nat) : Nat := bits d 111 95
def eFmt (d : Nat) : Nat := bits d 94 91
def eAct (d : Nat) : Nat := bits d 90 87
def eStat (d : Nat) : Nat := bits d 86 85
def eEngine (d : Nat) : Bool := bit d 84
def eReCore (d : Nat) : Bool := bit d 83
def eAscRow (d : Nat) : Bool := bit d 82
def eM (d : Nat) : Nat := bits d 81 75
def eTiles (d : Nat) : Nat := bits d 74 71
def eReRow (d : Nat) : Nat := bits d 70 51
def eSM (d : Nat) : Nat := bits d 50 19

/-- Scale. -/
def aVec (d : Nat) : Nat := bits d 251 232
def aM (d : Nat) : Nat := bits d 231 225
def aTiles (d : Nat) : Nat := bits d 224 221

/-- Vector. ROWS and COLS hold one less than the counts. -/
def vFn (d : Nat) : Nat := bits d 251 246
def vSrc1 (d : Nat) : Nat := bits d 245 226
def vSrc2 (d : Nat) : Nat := bits d 225 206
def vDst (d : Nat) : Nat := bits d 205 186
def vRows (d : Nat) : Nat := bits d 185 174 + 1
def vCols (d : Nat) : Nat := bits d 173 162 + 1
def vSrcFmt (d : Nat) : Nat := bits d 161 158
def vDstFmt (d : Nat) : Nat := bits d 157 154

/-- Transfer. -/
def tStream (d : Nat) : Nat := bits d 251 244
def tAddr (d : Nat) : Nat := bits d 243 224
def tBytes (d : Nat) : Nat := bits d 223 203
def tDirOut (d : Nat) : Bool := bit d 202

/-- Row. -/
def rSrc (d : Nat) : Nat := bits d 251 232
def rLen (d : Nat) : Nat := bits d 231 200
def rParam (d : Nat) : Nat := bits d 199 168
def rSeg0 (d : Nat) : Nat := bits d 167 128
def rPerCore (d : Nat) : Bool := bit d 127
def rLargest (d : Nat) : Bool := bit d 126
def rDest (d : Nat) : Nat := bits d 125 124
def rFmt (d : Nat) : Nat := bits d 123 120
def rDst (d : Nat) : Nat := bits d 119 100
def rContrib (d : Nat) : Nat := bits d 99 36
def rRowNo (d : Nat) : Nat := bits d 35 4

/-- Row engine. -/
def gStream (d : Nat) : Nat := bits d 251 244
def gMask (d : Nat) : Nat := bits d 243 180
def gEmit (d : Nat) : Nat := bits d 179 160

/-- Bits per element of the dense formats 1-7: INT8, INT4, E4M3, E5M2, BF16, FP16, FP32 (R244, R245). -/
def fmtBits (f : Nat) : Nat :=
  match f with
  | 1 => 8
  | 2 => 4
  | 3 => 8
  | 4 => 8
  | 5 => 16
  | 6 => 16
  | 7 => 32
  | _ => 0

/-- Bytes of `n` elements of a dense format. -/
def fmtBytes (f n : Nat) : Nat := ceilDiv (n * fmtBits f) 8

/-! ### Windows in core store (R255): the smallest byte range that covers the accesses -/

/-- The hull of byte ranges (start, length), as (start, end). -/
def hull (l : List (Nat × Nat)) : Option (Nat × Nat) :=
  match l.filter (fun r => r.2 != 0) with
  | [] => none
  | r :: rs => some (rs.foldl (fun h x => (min h.1 x.1, max h.2 (x.1 + x.2))) (r.1, r.1 + r.2))

/-- A range that exists unless its address is 0. -/
def optRange (addr len : Nat) : Nat × Nat := if addr = 0 then (0, 0) else (addr, len)

/-- Panels, their height and their stride in bytes (R248). -/
def panelRows (op : Nat) : Nat := if op = 1 then 16 else 32
def panelCount (op d : Nat) : Nat := if op = 1 then pGroups d else ceilDiv (pGroups d) 2
def panelBytes (op d : Nat) : Nat := fmtBytes (pBFmt d) (panelRows op * 32)
def panelStride (op d : Nat) : Nat := if pPStride d = 0 then panelBytes op d else pPStride d * 512

/-- Bytes of the second operand of a VEC (R260). -/
def vecSrc2 (d : Nat) : Nat × Nat :=
  match vFn d with
  | 1 => (vSrc2 d, fmtBytes (vSrcFmt d) (vRows d * vCols d))
  | 2 => (vSrc2 d, fmtBytes (vSrcFmt d) (vRows d * vCols d))
  | 3 => (vSrc2 d, fmtBytes (vSrcFmt d) (vRows d * vCols d))
  | 7 => optRange (vSrc2 d) (32 + 16 * vCols d)
  | 8 => (vSrc2 d, fmtBytes (vSrcFmt d) (vRows d))
  | 9 => (vSrc2 d, fmtBytes (vSrcFmt d) (vRows d))
  | 10 => (vSrc2 d, fmtBytes (vSrcFmt d) (vCols d))
  | 11 => (vSrc2 d, fmtBytes (vSrcFmt d) (vCols d))
  | _ => (0, 0)

/-- Entries of a list in core store with its header (R116, R117). -/
def listBytes (n : Nat) : Nat := 16 + 16 * n

/-- What a macro reads of core store. -/
def readRanges (op d : Nat) : List (Nat × Nat) :=
  match kindOf op with
  | 1 => [(pA d, (pM d - 1) * pStride d + fmtBytes (pAFmt d) (16 * pGroups d)),
          (pB d, (panelCount op d - 1) * panelStride op d + panelBytes op d),
          optRange (pZA d) 16, optRange (pZB d) 512]
  | 2 => [optRange (eAsc d) (16 * (if eAscRow d then eM d else 1)), optRange (eWsc d) (32 + 16 * (32 * eTiles d)),
          optRange (eBias d) (4 * (32 * eTiles d)), optRange (eRes d) (eM d * (128 * eTiles d)),
          optRange (eOsc d) (32 + 16 * (32 * eTiles d)), optRange (eRs d) (8 * eM d)]
  | 3 => [(aVec d, 4 * aM d)]
  | 4 => [(vSrc1 d, fmtBytes (vSrcFmt d) (vRows d * vCols d)), vecSrc2 d]
  | 5 => if tDirOut d then [(tAddr d, tBytes d)] else []
  | 6 => if op = 8 then [(rSrc d, listBytes (rLen d))]
         else if op = 9 then [(rSrc d, listBytes (rLen d)), (rParam d % 2 ^ 20, listBytes 1024)]
         else [(rSrc d, rLen d * rrSize (rFmt d))]
  | _ => []

/-- The entries that the list of a row selection can hold: those of the merged row where other cores contribute (R131). -/
def rowListMax (op d : Nat) : Nat :=
  if op = 10 then rParam d % 2 ^ 11
  else if rDest d ≠ 0 then 1024
  else if op = 9 then rLen d + 1024
  else rLen d

/-- What a macro writes of core store. A conversion writes the SCALEs of its output tensor only where it is governed (R281, R285,
R286); the list of a row selection is written at DST_ADDR whatever its DEST (R131). -/
def writeRanges (gov : Bool) (op d : Nat) : List (Nat × Nat) :=
  match kindOf op with
  | 2 => [(eOut d, (eM d - 1) * eStride d + fmtBytes (eFmt d) (32 * eTiles d)),
          if eStat d = 0 then (0, 0) else optRange (eRs d) (8 * eM d),
          if eStat d = 1 then optRange (eRs d) (512 + 8 * eM d) else (0, 0),
          if gov then optRange (eOsc d) (32 + 16 * (32 * eTiles d)) else (0, 0)]
  | 4 => [(vDst d, fmtBytes (vDstFmt d) (vRows d * vCols d)), if gov ∧ vFn d = 7 then vecSrc2 d else (0, 0)]
  | 5 => if tDirOut d then [] else [(tAddr d, tBytes d)]
  | 6 => [(rDst d, listBytes (rowListMax op d))]
  | _ => []

def readWindow (op d : Nat) : Option (Nat × Nat) := hull (readRanges op d)
def writeWindow (gov : Bool) (op d : Nat) : Option (Nat × Nat) := hull (writeRanges gov op d)

/-- Tiles that a macro names (R254): first tile and count. -/
def tilesOf (op slot d : Nat) : Nat × Nat :=
  match kindOf op with
  | 1 => (csTile slot, 1)
  | 2 => (csTile slot, eTiles d)
  | 3 => (csTile slot, aTiles d)
  | _ => (0, 0)

/-! ### Layout of the image (R263, R264, R304, R305, R279-R282) -/

def header (img : List Byte) : Nat := numAt img 0 256
def hDieMask (h : Nat) : Nat := bits h 31 24
def hFlags (h : Nat) : Nat := bits h 39 32
def hTokLog (h : Nat) : Nat := bits h 44 40
def hOutDims (h : Nat) : Nat := bits h 63 48
def hOutFmt (h : Nat) : Nat := bits h 71 64
def hMaxTokens (h : Nat) : Nat := bits h 127 96
def hActBytes (h : Nat) : Nat := bits h 191 128
def hDieTable (h : Nat) : Nat := bits h 223 192
def hImageBytes (h : Nat) : Nat := bits h 255 224
def hWeightOff (h : Nat) : Nat := bits h 287 256
def hWeightBytes (h : Nat) : Nat := bits h 319 288
def hStreamOff (h : Nat) : Nat := bits h 351 320
def hStreamBytes (h : Nat) : Nat := bits h 383 352

/-- A die-table entry. -/
def dieEntry (img : List Byte) (d : Nat) : Nat := numAt img (hDieTable (header img) + 64 * d) 64
def deLineOff (e : Nat) : Nat := bits e 63 32
def deLines (e : Nat) : Nat := bits e 95 64
def deDescs (e : Nat) : Nat := bits e 127 112
def deDescOff (e : Nat) : Nat := bits e 159 128
def deCoordOff (e : Nat) : Nat := bits e 191 160
def deCoreMask (e : Nat) : Nat := bits e 255 192

/-- The numbers of the bits set below `n`. -/
def members (mask n : Nat) : List Nat := (List.range n).filter (fun i => bit mask i)

/-- What an image holds for one die. -/
def dieImage (img : List Byte) (d : Nat) : DieImage :=
  let e := dieEntry img d
  { coreMask := deCoreMask e,
    lines := (List.range (deLines e)).map (fun n => numAt img (deLineOff e + 256 * n) 256),
    descs := (List.range (deDescs e)).map (fun q => numAt img (deDescOff e + 32 * q) 32),
    coords := (List.range 64).map (fun c => numAt img (deCoordOff e + 8 * c) 8) }

/-- A stream entry. -/
def streamEnt (x : Nat) : StreamEnt :=
  { coreMask := bits x 255 192, regionOff := bits x 191 160, regionLen := bits x 159 128, die := bits x 127 125,
    dir := bit x 124, endpoint := bits x 123 121, listSel := bits x 120 117, blockLog := bits x 116 113,
    maxHeld := bits x 112 106, issueCore := bits x 105 100, roweng := bit x 99, scaleValid := bit x 98,
    scaleStream := bits x 97 90, linkFrom := bits x 89 82, stash := bits x 81 74, role := bits x 73 72 }

def streamHeader (img : List Byte) : Nat := numAt img (hStreamOff (header img)) 64
def streamCount (img : List Byte) : Nat := bits (streamHeader img) 47 32
def streamWord (img : List Byte) (n : Nat) : Nat := numAt img (hStreamOff (header img) + 64 + 32 * n) 32

/-- The training directory at the start of the weight section. -/
def weights (img : List Byte) : List Byte := slice img (hWeightOff (header img)) (hWeightBytes (header img))
def dirHeader (w : List Byte) : Nat := numAt w 0 64
def spanEnt (x : Nat) : Span :=
  { first := (List.range 8).map (fun d => bits x (192 + 20 * d + 19) (192 + 20 * d)),
    last := (List.range 8).map (fun d => bits x (352 + 20 * d + 19) (352 + 20 * d)),
    lrMult := BitVec.ofNat 32 (bits x 191 160), wideDesc := bits x 159 148, wideStream := bits x 147 140,
    tFirst := bits x 139 128, tCount := bits x 127 116, layer := bits x 115 106, role := bits x 105 104 }
def tensorRec (x : Nat) : TensorRec :=
  { scaleAddr := bits x 255 236, histOff := bits x 235 204, channels := bits x 203 192, history := bits x 191 188,
    mode := bits x 187 186, margin := bits x 185 182 }
def stashEnt (x : Nat) : StashEnt :=
  { slot1 := bits x 255 224, slot0 := bits x 223 192, bytes := bits x 191 160, layer := bits x 159 150,
    tagCnt := bits x 149 148, learned := bit x 147 }
def trainDir (w : List Byte) : TrainDir :=
  let h := dirHeader w
  { factorBase := bits h 99 80, histBase := bits h 79 48,
    spans := (List.range (bits h 127 112)).map (fun n => spanEnt (numAt w (bits h 191 160 + 64 * n) 64)),
    tensors := (List.range (bits h 159 144)).map (fun n => tensorRec (numAt w (bits h 255 224 + 32 * n) 32)),
    stashes := (List.range (bits h 143 128)).map (fun n => stashEnt (numAt w (bits h 223 192 + 32 * n) 32)) }

/-- What a passing load leaves (R265, R278, R293, R294): the weight section stands at the base of the tablature area,
the training state is fresh. -/
def loadedTab (img : List Byte) : Tablature :=
  let h := header img
  let ds := members (hDieMask h) 8
  let w := weights img
  { imageBytes := hImageBytes h, weightBytes := w.length, actBytes := hActBytes h, maxTokens := hMaxTokens h, outFmt := hOutFmt h,
    outDims := hOutDims h, tokLog := hTokLog h, flags := hFlags h, dieMask := hDieMask h,
    dies := ds.map (fun d => (d, dieImage img d)),
    streams := (List.range (streamCount img)).map (fun n => streamEnt (streamWord img n)),
    dir := if bit (hFlags h) 1 then some (trainDir w) else none,
    area := ds.map (fun d => (d, { mem := writeBytes {} 0 w })),
    act := ds.map (fun d => (d, {})) }

def takesTokens (t : Tablature) : Bool := bit t.flags 0
def trainsTab (t : Tablature) : Bool := bit t.flags 1
def encodesTab (t : Tablature) : Bool := bit t.flags 2

end Sys2Proof.Machine
end

