-- ==== Sys2Proof/Machine/MacroOps.lean ====
section
/-!
DEFINITION. What products, epilogues, scaling and vector macro-operations compute (R171-R176, R244-R261, R284-R288).
-/
namespace Sys2Proof.Machine

/-! ### Elements -/

/-- The floating format of a dense format code 3-7. -/
def denseFmt : Nat → Fmt
  | 3 => e4m3
  | 4 => e5m2
  | 5 => bf16
  | 6 => fp16
  | _ => fp32

/-- Code `i` of a run of INT8 or INT4 codes (even elements in the low half of their byte). -/
def intCode (m : Mem) (f addr i : Nat) : Nat :=
  if f = 2 then (let b := (readByte m (addr + i / 2)).toNat; if i % 2 = 0 then b % 16 else b / 16)
  else (readByte m (addr + i)).toNat

/-- Element `i` of a run in a dense format; an integer code stands for its value. -/
def denseElem (m : Mem) (f addr i : Nat) : FV :=
  if f = 1 ∨ f = 2 then ofInt (intCode m f addr i)
  else fdec (denseFmt f) (readNat m (addr + i * (fmtBits f / 8)) (fmtBits f / 8))

/-- Store element `i` of a run. -/
def putElem (m : Mem) (f addr i enc : Nat) : Mem :=
  if f = 2 then
    let a := addr + i / 2
    let b := (readByte m a).toNat
    writeByte m a (BitVec.ofNat 8 (if i % 2 = 0 then b / 16 * 16 + enc % 16 else b % 16 + 16 * (enc % 16)))
  else writeBytes m (addr + i * (fmtBits f / 8)) (leBytes (fmtBits f / 8) enc)

/-- Store a run of encodings from element `i` up. -/
def putElems (m : Mem) (f addr i : Nat) : List Nat → Mem
  | [] => m
  | e :: r => putElems (putElem m f addr i e) f addr (i + 1) r

def f32At (m : Mem) (a : Nat) : FV := d32 (BitVec.ofNat 32 (readNat m a 4))
def putF32 (m : Mem) (a : Nat) (v : FV) : Mem := writeBytes m a (leBytes 4 (e32 v).toNat)

/-! ### Stochastic rounding (R256) -/

/-- Stochastic rounding of an exact sum with a 24-bit random word (R256). Above the largest finite value hi is the next multiple of
the last place, which rounds to infinity (DESIGN CHOICE, log entry 126). -/
def stochastic (f : Fmt) (s : FV) (u : Nat) : FV :=
  match s with
  | .fin neg m e =>
    if m = 0 then fround f s
    else
      let near := fround f s
      if !near.isFinite then near
      else
        let t := lastPlace f m e
        let k := (t - e).toNat
        if e ≥ t then near
        else
          let q := m >>> k
          let r := m - (q <<< k)
          if r = 0 then near
          else
            let fr := if neg then ((2 ^ k - r) * 2 ^ 24) >>> k else (r * 2 ^ 24) >>> k
            let up := decide (fr + u ≥ 2 ^ 24)
            -- up: toward +infinity
            let mag := if up != neg then q + 1 else q
            fround f (.fin neg mag t)
  | w => w

/-- Coordinates of R247 and the random word of R256. -/
def randomWord (seed i j g : Nat) : Nat :=
  mix64 ((seed ^^^ (g <<< 44) ^^^ (i <<< 20) ^^^ j) % 2 ^ 64) >>> 40

def tileRow (d core cntRow r : Nat) : Nat := (pRow0 d + core + cntRow * pRowStep d + r) % 2 ^ 24
def tileCol (d core cntCol c : Nat) : Nat := (pCol0 d + core + cntCol * pColStep d + c) % 2 ^ 20
def tileGrp (d cntGrp h : Nat) : Nat := (pGrp0 d + cntGrp * pGrpStep d + h) % 2 ^ 20

/-! ### Products (R248-R256) -/

/-- Code or value of B[k][col] as the operation reads its panels (R248). -/
def panelIndex (op k col : Nat) : Nat × Nat :=
  let h := panelRows op
  if op = 3 then (k / h, col * 32 + k % h) else (k / h, k % h * 32 + col)

/-- The accumulator format. -/
def accFmt (d : Nat) : Fmt := if pAcc16 d then fp16 else fp32

/-- The 16 products of group `h` at (row, col), as exact integers. -/
def groupInts (m : Mem) (op d za : Nat) (zw row col h : Nat) : List Int :=
  (List.range 16).map (fun n =>
    let k := 16 * h + n
    let p := panelIndex op k col
    let a : Int := intCode m (pAFmt d) (pA d + row * pStride d) k
    let b : Int := intCode m (pBFmt d) (pB d + p.1 * panelStride op d) p.2
    if pSub d then (a - za) * (b - zw) else a * b)

/-- The 16 products of a group in floating formats, each formed as R250 step 1 states. -/
def groupFloats (m : Mem) (op d row col h : Nat) : List FV :=
  (List.range 16).map (fun n =>
    let k := 16 * h + n
    let p := panelIndex op k col
    let x := fmul (denseElem m (pAFmt d) (pA d + row * pStride d) k)
                  (denseElem m (pBFmt d) (pB d + p.1 * panelStride op d) p.2)
    if pAFmt d = 5 ∨ pAFmt d = 6 then rne32 x else fround (accFmt d) x)

/-- A group's sum (R250 step 2). -/
def groupSum (m : Mem) (op d za zw row col h : Nat) : FV :=
  if pAFmt d = 1 ∨ pAFmt d = 2 then ofInt ((groupInts m op d za zw row col h).foldl (· + ·) 0)
  else treeBlock (fun x y => fround (accFmt d) (fadd x y)) (.fin false 0 0) 4 (groupFloats m op d row col h)

/-- What a product needs beside its descriptor: core coordinates, counters at issue, seed. -/
structure ProdIn where
  coreRow : Nat
  coreCol : Nat
  cnt : List Nat
  seed : Nat
  deriving DecidableEq, Repr

/-- One element's running sum over the groups in ascending order (R250 step 3, R256). -/
def elemSum (m : Mem) (op d : Nat) (x : ProdIn) (za zw row col : Nat) (start : Option FV) : FV :=
  let i := tileRow d x.coreRow (nth x.cnt (pRowCnt d) 0) row
  let j := tileCol d x.coreCol (nth x.cnt (pColCnt d) 0) col
  ((List.range (pGroups d)).foldl (fun (acc : Option FV) h =>
    let g := groupSum m op d za zw row col h
    match acc with
    | none => some (fround (accFmt d) g)
    | some v =>
      let s := fadd v g
      if pSR d then some (stochastic (accFmt d) s (randomWord x.seed i j (tileGrp d (nth x.cnt (pGrpCnt d) 0) h)))
      else some (fround (accFmt d) s)) start).getD (.fin false 0 0)

/-- The mode that a product leaves in its tile's tag (R253). -/
def prodMode (d : Nat) : TileMode :=
  if pAFmt d = 1 ∨ pAFmt d = 2 then (if pSub d then .subtract else .correction) else .float

def tileOf (c : Core) (t : Nat) : Tile := (look c.tiles t).getD { fill := c.fillTiles }

/-- An element of a tile as it is held: one that nothing has written is zero, or unknown after an abort (R399, R453). -/
def tileWord (t : Tile) (i : Nat) : W32 :=
  match t.elems[i]? with
  | some w => w
  | none => if t.fill = 0 then 0 else Config.freeElem t.fill i

/-- An element of a tile, widened to an exact value. -/
def tileElem (t : Tile) (i : Nat) : FV :=
  let w := tileWord t i
  if t.fp16 then fdec fp16 (w.toNat % 65536) else d32 w

def tileEnc (fp16? : Bool) (v : FV) : W32 := if fp16? then BitVec.ofNat 32 (frnd fp16 false v) else e32 v

/-- The sum of a row of A: its codes in integer formats, exactly (R250 step 4); its values in floating formats, where the row-sum
path runs for a constant channel and no rule states an order: formed exactly and rounded once (R174; DESIGN CHOICE, log entry
110). -/
def rowSum (m : Mem) (d row : Nat) : FV :=
  rne32 (((List.range (16 * pGroups d)).map (denseElem m (pAFmt d) (pA d + row * pStride d))).foldl fadd (.fin false 0 0))

/-- A row sum of a tile; one that nothing has written is unknown. -/
def tileSum (t : Tile) (r : Nat) : W32 :=
  match t.rsum[r]? with
  | some w => w
  | none => if t.fill = 0 then 0 else Config.freeElem t.fill (2048 + r)

/-- A product with ACC = 1 whose tile's tag differs in format or mode ends the run (R254). The tag of a tile that no product has
written is none of theirs (DESIGN CHOICE, log entry 125). -/
def tagDiffers (acc : Bool) (d : Nat) (t : Tile) : Bool := acc && (t.fp16 != pAcc16 d || t.mode != prodMode d)

/-- The tile that a product leaves. Rows from M on keep what they held. -/
def productTile (c : Core) (op d : Nat) (acc bad : Bool) (x : ProdIn) (t : Tile) : Tile :=
  let m := c.store.mem
  let za := if pZA d = 0 then 0 else readNat m (pZA d) 1
  let elems := (List.range 2048).map (fun n =>
    let row := n / 32
    let col := n % 32
    if row < pM d then
      let zw := if pZB d = 0 then 0 else readNat m (pZB d + 16 * col) 1
      tileEnc (pAcc16 d) (elemSum m op d x za zw row col (if acc then some (tileElem t n) else none))
    else tileEnc (pAcc16 d) (tileElem t n))
  let rsum := (List.range 64).map (fun r =>
    if r < pM d then e32 (if acc then add32 (d32 (tileSum t r)) (rowSum m d r) else rowSum m d r) else tileSum t r)
  { fill := 0, fp16 := pAcc16 d, mode := prodMode d, elems := elems, rsum := rsum,
    k := (if acc then t.k else 0) + 16 * pGroups d, poison := bad || (acc && t.poison) }

/-- Cycles of a product (R252). -/
def productCycles (op d : Nat) : Nat :=
  let m := pM d
  let rows := if pAFmt d = 5 ∨ pAFmt d = 6 then 4 * m else if pAcc16 d then ceilDiv m 2 else m
  if op = 1 then pGroups d * max rows 16 + 48 else ceilDiv (pGroups d) 2 * max rows 32 + 64

/-! ### Scale tensors (R171, R172) -/

structure ScaleEntry where
  value : FV
  codeSum : Int
  scale : FV
  const : Bool
  zp : Nat
  deriving DecidableEq, Repr

def scaleEntryAt (m : Mem) (a : Nat) : ScaleEntry :=
  let x := readNat m a 16
  { value := d32 (BitVec.ofNat 32 (bits x 127 96)), codeSum := signedOf 32 (bits x 95 64),
    scale := d32 (BitVec.ofNat 32 (bits x 63 32)), const := bit x 9, zp := bits x 7 0 }

/-- The unit entry, scale 1 and zero point 0, that stands where no scale is given; so it does for an INT output with OSC_ADDR 0
(DESIGN CHOICE, log entry 127). -/
def unitEntry : ScaleEntry := { value := .fin false 0 0, codeSum := 0, scale := .fin false 1 0, const := false, zp := 0 }

def scaleMode (m : Mem) (a : Nat) : Bool := bit (readNat m a 32) 32
def scaleSpan (m : Mem) (a : Nat) : Nat := bits (readNat m a 32) 95 64
def scaleStat (m : Mem) (a : Nat) : Nat := bits (readNat m a 32) 39 36
def scaleChannels (m : Mem) (a : Nat) : Nat := bits (readNat m a 32) 127 96

/-- A SCALE that is positive, normal and finite (R172). -/
def scaleOk (e : ScaleEntry) : Bool :=
  match e.scale with
  | .fin false m x => m != 0 && decide (x + Nat.log2 m ≥ -126)
  | _ => false

/-- SPAN values that R171 allows. -/
def spanOk (n : Nat) : Bool := n == 0 || n == 32 || n == 64 || n == 128

/-- A governed scale tensor has DATA_FMT 3 or 4 and LEARNED 0 (R283): checked at a conversion, where its header stands (DEDUCED, log
entry 113). -/
def governedBad (m : Mem) (a : Nat) : Bool :=
  let h := readNat m a 32
  bit h 33 || !(bits h 47 40 == 3 || bits h 47 40 == 4)

/-- Largest finite value of a floating format. -/
def fmtMax (f : Nat) : FV := fdec (denseFmt f) (denseFmt f).maxMag

/-- A conversion: the encoding, the value it stands for, and what it counts (R172, R176). -/
structure Conv where
  enc : Nat
  back : FV
  sat : Bool
  under : Bool
  nan : Bool
  deriving DecidableEq, Repr

/-- An infinity saturates at the largest finite value of a quantised format (R172). -/
def saturated (f : Nat) (t : FV) : FV :=
  match t with
  | .inf neg => if neg then (fmtMax f).neg else fmtMax f
  | v => v

/-- Conversion of `x` into a floating format 5 to 7 (R258 step 7, R260): to nearest-even, a finite value saturated at the largest
finite value; ±∞ and NaN flow on (R291; DEDUCED, log entry 109). -/
def convertFloat (f : Nat) (x : FV) : Conv :=
  { enc := frnd (denseFmt f) (f != 7) x, back := x, sat := false, under := false, nan := x.isNan }

/-- Conversion of `x` into format `f` under an entry (R172). -/
def convert (f : Nat) (e : ScaleEntry) (x : FV) : Conv :=
  let zero := FV.isZero
  if e.const then
    { enc := e.zp, back := e.value, sat := !(feq x e.value), under := !(zero x) && !x.isNan && zero e.value, nan := x.isNan }
  else
    let r := div32 (.fin false 1 0) e.scale
    let t := mul32 x r
    if f = 1 ∨ f = 2 then
      let q : Int := if f = 2 then 15 else 255
      let raw : Int := match t with
        | .inf true => -1
        | .inf false => q + 1
        | .nan _ => e.zp
        | v => rni v + e.zp
      let c := max 0 (min q raw)
      let back := mul32 e.scale (ofInt (c - e.zp))
      { enc := c.toNat, back := back, sat := c != raw, under := !(zero x) && !x.isNan && zero back, nan := x.isNan }
    else
      let g := denseFmt f
      let u := frnd g true (saturated f t)
      let back := mul32 e.scale (fdec g u)
      { enc := u, back := back, sat := !x.isNan && flt (fmtMax f) t.abs, under := !(zero x) && !x.isNan && zero back,
        nan := x.isNan }

/-- Add the conversions of one macro to a statistics slot (R176): each block of 1,024 elements, in row-major order from the macro's
first (DESIGN CHOICE, log entry 124), is summed by one pairwise tree (R107). -/
def addStats (st : StatSlot) (cs : List (FV × Conv)) : StatSlot :=
  let blocks := blocksOf 1024 (cs.length + 1) cs
  let sse := blocks.foldl (fun a b => add32 a (sumRule 10 (b.map (fun p =>
    let dlt := sub32 p.1 p.2.back; mul32 dlt dlt)))) (d32 st.sse)
  let ssx := blocks.foldl (fun a b => add32 a (sumRule 10 (b.map (fun p => mul32 p.1 p.1)))) (d32 st.ssx)
  { elems := (st.elems + cs.length) % 2 ^ 64, sat := min 0xFFFFFFFF (st.sat + (cs.filter (·.2.sat)).length),
    under := min 0xFFFFFFFF (st.under + (cs.filter (·.2.under)).length),
    nan := min 0xFFFFFFFF (st.nan + (cs.filter (·.2.nan)).length), sse := e32 sse, ssx := e32 ssx }

/-! ### Governed scales (R284-R288) -/

/-- The smallest k with 2^k · FMT_MAX ≥ a, for a finite a that is not 0 (R284). -/
def govExp (f : Nat) (a : FV) : Int :=
  let k := fexp2 a - fexp2 (fmtMax f)
  let ok (k : Int) : Bool := fle a (fmul (pow2 k) (fmtMax f))
  if ok (k - 1) then k - 1 else if ok k then k else k + 1

/-- The governed SCALE of a channel with absolute maximum a (R284). -/
def govScale (f margin : Nat) (a : FV) : FV :=
  match a with
  | .fin _ m _ =>
    if m = 0 then pow2 (-126) else pow2 (max (-126) (govExp f a + margin))
  | _ => d32 (Config.scaleOfNonfinite f)

/-- A governed entry: ZERO_PT, CONST and VALUE are 0 (R284). -/
def govEntryBits (scale : FV) : Nat := put 32 (e32 scale).toNat

/-- The largest of a list of magnitudes; NaN where one is NaN. -/
def absMax (l : List FV) : FV := l.foldl (fun a x => fmax a x.abs) (.fin false 0 0)

/-- The largest finite magnitude of a list (R286). -/
def finiteMax (l : List FV) : FV := l.foldl (fun a x => if x.isFinite then fmax a x.abs else a) (.fin false 0 0)

/-- How a conversion is governed: its tensor record's number, margin, and for each channel the SCALE of DELAYED mode
(none: PRESENT). -/
structure Gov where
  recNo : Nat
  margin : Nat
  delayed : List (Option W32)
  deriving DecidableEq, Repr

/-- What a governed conversion reports: per channel the finite maximum and whether a value was not finite; inputs that
are non-zero and finite, those of them that encode to zero; the overflow item of R288. -/
structure GovOut where
  recNo : Nat
  maxima : List (W32 × Bool)
  nonzero : Nat
  under : Nat
  zeroChannels : Nat
  overflow : Option Nat
  deriving DecidableEq, Repr

/-- Write the governed SCALEs of a block into its scale tensor before it is converted (R285, R286). `cols` lists the
inputs of each channel. -/
def governScales (m : Mem) (f osc : Nat) (g : Gov) (cols : List (List FV)) : Mem :=
  (List.range cols.length).foldl (fun m n =>
    let sc := match nth g.delayed n none with
      | some w => d32 w
      | none => govScale f g.margin (absMax (nth cols n []))
    writeBytes m (osc + 32 + 16 * n) (leBytes 16 (govEntryBits sc))) m

/-- What the conversion of a governed block reports (R286-R288). -/
def governReport (f : Nat) (g : Gov) (cols : List (List FV)) (convs : List (FV × Conv)) : GovOut :=
  let nz := convs.filter (fun p => p.1.isFinite && !p.1.isZero)
  let item2 := convs.any (fun p => !p.1.isFinite)
  let item1 := g.delayed.any Option.isSome && convs.any (fun p => p.1.isFinite && p.2.sat)
  { recNo := g.recNo, maxima := cols.map (fun c => (e32 (finiteMax c), c.any (fun x => !x.isFinite))),
    nonzero := nz.length, under := (nz.filter (fun p => fdec (denseFmt f) p.2.enc |>.isZero)).length,
    zeroChannels := ((List.range cols.length).filter (fun n =>
      (nth g.delayed n none).isNone && (absMax (nth cols n [])).isZero)).length,
    overflow := if item1 then some 1 else if item2 then some 2 else none }

/-! ### Epilogue (R258, R259) -/

/-- The activation of step 5 but EXP_SHIFT. -/
def activate (act : Nat) (y : FV) : FV :=
  match act with
  | 1 => fmax y (.fin false 0 0)
  | 2 => div32 y (add32 (.fin false 1 0) (exp32 (mul32 (d32 0x3FD9DB23) y).neg))
  | 3 => div32 y (add32 (.fin false 1 0) (exp32 y.neg))
  | _ => y

/-- A tree over a row of any width: adjacent pairs first, a last odd term kept. -/
def rowTree (l : List FV) : FV := (treeLevels add32 9 l).headD (.fin false 0 0)

/-- Row statistics: the block's own pair, and the merged pair with α (R259). -/
structure RowStat where
  own : FV × FV
  merged : FV × FV
  alpha : FV
  outs : List FV
  deriving DecidableEq, Repr

/-- MAXEXP on a row; `shift` for EXP_SHIFT (R259). -/
def maxExp (m l : FV) (shift : Bool) (ys : List FV) : RowStat :=
  let mb := ys.foldl fmax (.inf true)
  let m' := fmax m mb
  let dead := m' == .inf true
  let ps := ys.map (fun y => if dead then .fin false 0 0 else exp32 (sub32 y m'))
  let lb := rowTree ps
  let al := if dead then .fin false 1 0 else exp32 (sub32 m m')
  { own := (mb, lb), merged := (m', add32 (mul32 l al) lb), alpha := al, outs := if shift then ps else ys }

/-- MOMENTS on a row (R259). -/
def moments (s q : FV) (ys : List FV) : RowStat :=
  let a := rowTree ys
  let b := rowTree (ys.map (fun y => mul32 y y))
  { own := (b, a), merged := (add32 s a, add32 q b), alpha := .fin false 0 0, outs := ys }

/-- Steps 1 to 4 of R258 for one element. Where both the row and the column are constant channels, the other operand's real sum
is K times its constant (R174; DEDUCED, log entry 110). -/
def epiValue (m : Mem) (d : Nat) (t : Tile) (a w : ScaleEntry) (r n : Nat) : FV :=
  let v := tileElem t (r * 32 + n % 32)
  let rs := d32 (tileSum t r)
  let k : Int := t.k
  let za : Int := a.zp
  let zw : Int := w.zp
  let v := if t.mode = .correction then sub32 v (rne32 (ofInt (za * w.codeSum + zw * rni rs - k * za * zw))) else v
  let y := mul32 (mul32 a.scale w.scale) v
  let y := if w.const && a.const then mul32 w.value (mul32 (ofInt k) a.value)
           else if w.const then mul32 w.value (mul32 a.scale (rne32 (fsub rs (ofInt (k * za)))))
           else if a.const then mul32 a.value (mul32 w.scale (rne32 (ofInt (w.codeSum - k * zw))))
           else y
  let y := if eBias d = 0 then y else add32 y (f32At m (eBias d + 4 * n))
  let y := mul32 y (d32 (BitVec.ofNat 32 (eSM d)))
  if eRes d = 0 then y else add32 y (f32At m (eRes d + r * (128 * eTiles d) + 4 * n))

/-- What a macro leaves: the core, statistics slots, side-memory deliveries (row, pair), counts, and the flags of its
span; `invalid` where the run must end with INVALID. -/
structure MacroOut where
  core : Core
  stat : Option (Nat × List (FV × Conv)) := none
  deliver : List (Nat × (W32 × W32)) := []
  nonfinite : Nat := 0
  gov : Option GovOut := none
  gradMax : FV := .fin false 0 0
  poison : Bool := false
  invalid : Bool := false
  deriving DecidableEq, Repr

/-- The A scale entry of a row, the weight entry of a column. ASC_ADDR is the address of an entry; WSC_ADDR is taken as the address
of the scale tensor's header, with the entries 32 bytes after it (R171, R245; DEDUCED, log entry 108). -/
def ascOf (m : Mem) (d r : Nat) : ScaleEntry :=
  if eAsc d = 0 then unitEntry else scaleEntryAt m (eAsc d + (if eAscRow d then 16 * r else 0))
def wscOf (m : Mem) (d n : Nat) : ScaleEntry := if eWsc d = 0 then unitEntry else scaleEntryAt m (eWsc d + 32 + 16 * n)

/-- A mismatch of tag mode and ZP_MODE, a scale that is not positive, normal and finite, a SPAN that R171 does not allow,
or a governed tensor that R283 does not allow (R172, R258). -/
def epiInvalid (c : Core) (d slot : Nat) (governed : Bool) : Bool :=
  let m := c.store.mem
  let cols := 32 * eTiles d
  let tags := (List.range (eTiles d)).map (fun t => (tileOf c (csTile slot + t)).mode)
  (eWsc d != 0 && tags.any (fun g => (g == .subtract) != scaleMode m (eWsc d)))
    || (eWsc d != 0 && (!(spanOk (scaleSpan m (eWsc d))) || (List.range cols).any (fun n => !(scaleOk (wscOf m d n)))))
    || (eAsc d != 0 && (List.range (eM d)).any (fun r => !(scaleOk (ascOf m d r))))
    || (eOsc d != 0 && (!(spanOk (scaleSpan m (eOsc d))) || (governed && governedBad m (eOsc d))))

/-- The pair of a row-statistics entry: first word in the upper half (R259). -/
def pairAt (m : Mem) (a : Nat) : FV × FV := (f32At m (a + 4), f32At m a)
def putPair (m : Mem) (a : Nat) (p : FV × FV) : Mem := putF32 (putF32 m a p.2) (a + 4) p.1

/-- An epilogue (R258, R259). `coreRow` is the core's CORE_ROW. -/
def epilogue (c : Core) (d slot coreRow : Nat) (gov : Option Gov) : MacroOut :=
  let m := c.store.mem
  let cols := 32 * eTiles d
  let rows := List.range (eM d)
  let tiles := (List.range (eTiles d)).map (fun t => tileOf c (csTile slot + t))
  let ys4 := rows.map (fun r => (List.range cols).map (fun n =>
    epiValue m d (nth tiles (n / 32) {}) (ascOf m d r) (wscOf m d n) r n))
  let stats := rows.map (fun r =>
    let ys := (nth ys4 r []).map (activate (eAct d))
    let old := if eRs d = 0 then (FV.inf true, FV.fin false 0 0) else pairAt m (eRs d + 8 * r)
    match eStat d with
    | 1 =>
      let raw := nth ys4 r []
      let st := maxExp old.1 old.2 (eAct d == 4) raw
      if eAct d = 4 then st else { maxExp old.1 old.2 false raw with outs := ys }
    | 2 =>
      let z := if eRs d = 0 then (FV.fin false 0 0, FV.fin false 0 0) else old
      let ys := if eAct d = 4 then ys.map (fun y => d32 (Config.expShiftAlone (e32 y))) else ys
      moments z.1 z.2 ys
    | _ =>
      let ys := if eAct d = 4 then ys.map (fun y => d32 (Config.expShiftAlone (e32 y))) else ys
      { own := (.fin false 0 0, .fin false 0 0), merged := old, alpha := .fin false 0 0, outs := ys })
  let outs := stats.map (·.outs)
  let bySlot := (List.range cols).map (fun n => outs.map (fun row => nth row n (.fin false 0 0)))
  -- governed scales stand in the scale tensor before the block is converted
  let m1 := match gov with
    | some g => if eOsc d = 0 then m else governScales m (eFmt d) (eOsc d) g bySlot
    | none => m
  let entry (n : Nat) : ScaleEntry := if eOsc d = 0 then unitEntry else scaleEntryAt m1 (eOsc d + 32 + 16 * n)
  let convs := outs.map (fun row => (List.range cols).map (fun n =>
    let x := nth row n (.fin false 0 0)
    (x, if eFmt d ≤ 4 then convert (eFmt d) (entry n) x else convertFloat (eFmt d) x)))
  let m2 := rows.foldl (fun m r => putElems m (eFmt d) (eOut d + r * eStride d) 0 ((nth convs r []).map (·.2.enc))) m1
  let m3 := if eStat d = 0 ∨ eRs d = 0 then m2
            else rows.foldl (fun m r => putPair m (eRs d + 8 * r) (nth (stats.map (·.merged)) r (.fin false 0 0, .fin false 0 0))) m2
  let m4 := if eStat d = 1 ∧ eRs d ≠ 0 then
              rows.foldl (fun m r => putF32 m (eRs d + 512 + 8 * r + 4) (nth (stats.map (·.alpha)) r (.fin false 0 0))) m3
            else m3
  let flat := convs.flatten
  let nonf := (flat.filter (fun p => !p.1.isFinite)).length
  let badScale := eOsc d != 0 && decide (eFmt d ≤ 4) && gov.isNone && (List.range cols).any (fun n => !(scaleOk (entry n)))
  { core := { c with store := { c.store with mem := m4 } },
    stat := if eOsc d = 0 ∨ scaleStat m (eOsc d) = 15 then none else some (scaleStat m (eOsc d), flat),
    deliver := if eEngine d && eStat d != 0 then
        (List.range (eM d)).map (fun r =>
          let p := nth (stats.map (·.own)) r (.fin false 0 0, .fin false 0 0)
          (eReRow d + r + (if eReCore d then coreRow else 0), (e32 p.1, e32 p.2)))
      else [],
    nonfinite := nonf, gov := gov.map (fun g => governReport (eFmt d) g bySlot flat),
    gradMax := ys4.flatten.foldl (fun a y => fmax a y.abs) (.fin false 0 0),
    invalid := epiInvalid c d slot gov.isSome || badScale }

/-! ### ASCALE and VEC (R260) -/

/-- ASCALE: row r of each tile times VEC_ADDR[r]. -/
def scaleTiles (c : Core) (d slot : Nat) : MacroOut :=
  let m := c.store.mem
  let tiles := (List.range (aTiles d)).foldl (fun ts k =>
    let n := csTile slot + k
    let t := (look ts n).getD { fill := c.fillTiles }
    let es := (List.range 2048).map (fun i =>
      if i / 32 < aM d then
        let v := mul32 (tileElem t i) (f32At m (aVec d + 4 * (i / 32)))
        tileEnc t.fp16 v
      else tileEnc t.fp16 (tileElem t i))
    keep n { t with elems := es, fill := 0 } ts) c.tiles
  { core := { c with tiles := tiles } }

/-- One element of a VEC function (R260). Elements of an integer SRC_FMT count as their codes, and both sources are read in SRC_FMT
(DESIGN CHOICE, log entry 128). -/
def vecElem (m : Mem) (d r cidx : Nat) : FV :=
  let i := r * vCols d + cidx
  let x := denseElem m (vSrcFmt d) (vSrc1 d) i
  let y (k : Nat) := denseElem m (vSrcFmt d) (vSrc2 d) k
  match vFn d with
  | 1 => add32 x (y i)
  | 2 => sub32 x (y i)
  | 3 => mul32 x (y i)
  | 4 => recip32 x
  | 5 => rsqrt32 x
  | 6 => exp32 x
  | 8 => sub32 x (y r)
  | 9 => mul32 x (y r)
  | 10 => mul32 x (y cidx)
  | 11 => add32 x (y cidx)
  | _ => x

/-- VEC: FN elementwise, converted to DST_FMT (R172, R260). -/
def vector (c : Core) (d : Nat) (gov : Option Gov) : MacroOut :=
  let m := c.store.mem
  let cols := vCols d
  let osc := if vFn d = 7 then vSrc2 d else 0
  let outs := (List.range (vRows d)).map (fun r => (List.range cols).map (vecElem m d r))
  let bySlot := (List.range cols).map (fun n => outs.map (fun row => nth row n (.fin false 0 0)))
  let m1 := match gov with
    | some g => if osc = 0 then m else governScales m (vDstFmt d) osc g bySlot
    | none => m
  let entry (n : Nat) : ScaleEntry := if osc = 0 then unitEntry else scaleEntryAt m1 (osc + 32 + 16 * n)
  let convs := outs.map (fun row => (List.range cols).map (fun n =>
    let x := nth row n (.fin false 0 0)
    (x, if vDstFmt d ≤ 4 then convert (vDstFmt d) (entry n) x else convertFloat (vDstFmt d) x)))
  let flat := convs.flatten
  let m2 := putElems m1 (vDstFmt d) (vDst d) 0 (flat.map (·.2.enc))
  { core := { c with store := { c.store with mem := m2 } },
    stat := if osc = 0 ∨ scaleStat m osc = 15 then none else some (scaleStat m osc, flat),
    gov := gov.map (fun g => governReport (vDstFmt d) g bySlot flat),
    invalid := osc != 0 && (!(spanOk (scaleSpan m osc)) || (gov.isSome && governedBad m osc) ||
      (decide (vDstFmt d ≤ 4) && gov.isNone && (List.range cols).any (fun n => !(scaleOk (entry n))))) }

/-- Cycles of the epilogue unit (R261), with the scale sweep of PRESENT mode (R285). -/
def epiCycles (d : Nat) (steps13 present : Bool) : Nat :=
  eTiles d * (2 * eM d + (if steps13 then eM d else 0) + (if 2 ≤ eAct d then 2 * eM d else 0)
    + (if eStat d = 0 then 0 else eM d) + (if present then eM d else 0)) + 8
def ascaleCycles (d : Nat) : Nat := aTiles d * (2 * aM d) + 4
def vecCycles (d : Nat) (present : Bool) : Nat :=
  let n := vRows d * vCols d
  (if 4 ≤ vFn d ∧ vFn d ≤ 6 then 3 * ceilDiv n 16 else ceilDiv n 16) + (if present then ceilDiv n 16 else 0) + 8

end Sys2Proof.Machine
end

