-- ==== Sys2Proof/Machine/Operands.lean ====
section
/-!
DEFINITION. The fields of a 64-byte command (R203-R210) and its reserved fields (R9).
-/
namespace Sys2Proof.Machine

/-- A field [hi:lo] of a command. -/
def fld (w : CmdWord) (hi lo : Nat) : Nat := bits w.toNat hi lo

def cOpcode (w : CmdWord) : Nat := fld w 7 0
def cDiscard (w : CmdWord) : Bool := bit w.toNat 12
def cOrdered (w : CmdWord) : Bool := bit w.toNat 13
def cPinValid (w : CmdWord) : Bool := bit w.toNat 14
def cVisible (w : CmdWord) : Bool := bit w.toNat 15
def cTag (w : CmdWord) : Nat := fld w 31 16
def cPartition (w : CmdWord) : Nat := fld w 39 32
def cIndex (w : CmdWord) : Nat := fld w 47 40

/-- Fields of SEARCH and SEARCH_EXACT (R205), shared with FETCH where the bits agree (R206). -/
def sK (w : CmdWord) : Nat := fld w 63 48
def sFilterOp (w : CmdWord) : Nat := fld w 71 64
def sQFmt (w : CmdWord) : Nat := fld w 75 72
def sLevel (w : CmdWord) : Nat := fld w 79 76
def sPrefetch (w : CmdWord) : Nat := fld w 87 80
def sCand (w : CmdWord) : Nat := fld w 111 96
def sHop (w : CmdWord) : Nat := fld w 127 112
def sRerank (w : CmdWord) : Nat := fld w 143 128
def sSlack (w : CmdWord) : Nat := fld w 159 144
def sPin (w : CmdWord) : Nat := fld w 191 160
def sDeadline (w : CmdWord) : Nat := fld w 255 192
def sQueryAddr (w : CmdWord) : Nat := fld w 319 256
def sResultAddr (w : CmdWord) : Nat := fld w 383 320
def sFilterMask (w : CmdWord) : Nat := fld w 447 384
def sFilterValue (w : CmdWord) : Nat := fld w 511 448

/-- Fields of FETCH (R206). -/
def fIdLo (w : CmdWord) : Nat := fld w 255 192
def fIdHi (w : CmdWord) : Nat := fld w 319 256

/-- Fields of INSERT, DELETE and UPSERT (R207). -/
def wDims (w : CmdWord) : Nat := fld w 63 48
def wElemFmt (w : CmdWord) : Nat := fld w 71 64
def wExtId (w : CmdWord) : Nat := fld w 255 192
def wFilterTag (w : CmdWord) : Nat := fld w 319 256
def wPayload (w : CmdWord) : Nat := fld w 383 320

/-- Fields of the dense commands (R208). -/
def dTab (w : CmdWord) : Nat := fld w 63 48
def dInList (w : CmdWord) : Nat := fld w 127 64
def dOutList (w : CmdWord) : Nat := fld w 191 128
def dArg (w : CmdWord) : Nat := fld w 255 192
def dTokens (w : CmdWord) : Nat := fld w 287 256
def dSeqs (w : CmdWord) : Nat := fld w 319 288
def dTmpl (w : CmdWord) : Nat := fld w 383 320
def dStep (w : CmdWord) : Nat := fld w 447 384

/-- Fields of the admin commands (R204, R209, R210). -/
def aTarget (w : CmdWord) : Nat := fld w 191 160
def aState (w : CmdWord) : Nat := fld w 55 48
def aImageAddr (w : CmdWord) : Nat := fld w 255 192
def aImageBytes (w : CmdWord) : Nat := fld w 287 256
def gFrom (w : CmdWord) : Nat := fld w 319 256
def gMax (w : CmdWord) : Nat := fld w 335 320

/-- Bits that a command of an opcode may use, R203's header apart: the runs (hi, lo) of its own table. -/
def ownFields (w : CmdWord) : List (Nat × Nat) :=
  match cOpcode w with
  | 0x01 => [(87, 48), (159, 96), (511, 192)] ++ (if cPinValid w then [(191, 160)] else [])
  | 0x02 => [(87, 48), (159, 96), (511, 192)] ++ (if cPinValid w then [(191, 160)] else [])
  | 0x03 => [(383, 192)] ++ (if cPinValid w then [(191, 160)] else [])
  | 0x10 => [(71, 48), (383, 192)]
  | 0x11 => [(255, 192)]
  | 0x12 => [(71, 48), (383, 192)]
  | 0x20 => [(319, 48)]
  | 0x21 => [(383, 48)]
  | 0x30 => [(287, 48)]
  | 0x31 => [(255, 48), (447, 384)]
  | 0x42 => [(191, 160)]
  | 0x80 => [(91, 48), (116, 96), (135, 128), (151, 144), (175, 160), (319, 192)]
  | 0x81 => [(191, 160)]
  | 0x82 => [(191, 160)]
  | 0x83 => [(160, 48), (319, 192)]
  | 0x85 => [(287, 192)]
  | 0x86 => [(55, 48)]
  | 0x87 => [(335, 192)]
  | 0x89 => [(55, 48), (255, 192)]
  | _ => []

/-- Whether the opcode uses INDEX, PARTITION and each flag (R203, R204). -/
def usesIndex (op : Nat) : Bool := [0x01, 0x02, 0x03, 0x10, 0x11, 0x12, 0x21, 0x41, 0x84, 0x88, 0x89, 0x8A].contains op
def usesPartition (op : Nat) : Bool := [0x02, 0x10, 0x12].contains op
def usesVisible (op : Nat) : Bool := [0x10, 0x11, 0x12, 0x40].contains op
def usesPin (op : Nat) : Bool := [0x01, 0x02, 0x03, 0x21].contains op
def usesOrdered (op : Nat) : Bool := !([0x81, 0x82].contains op)
def usesDiscard (op : Nat) : Bool := op == 0x8A

/-- A mask of the bits [hi:lo]. -/
def maskOf (r : Nat × Nat) : Nat := (2 ^ (r.1 + 1 - r.2) - 1) <<< r.2

/-- Every bit that a command's tables name, under its own opcode and flags (R203). -/
def namedBits (w : CmdWord) : Nat :=
  let op := cOpcode w
  let own := (ownFields w).foldl (fun m r => m ||| maskOf r) (maskOf (7, 0) ||| maskOf (31, 16))
  let own := if usesIndex op then own ||| maskOf (47, 40) else own
  let own := if usesPartition op then own ||| maskOf (39, 32) else own
  let own := if usesVisible op then own ||| maskOf (15, 15) else own
  let own := if usesPin op then own ||| maskOf (14, 14) else own
  let own := if usesOrdered op then own ||| maskOf (13, 13) else own
  if usesDiscard op then own ||| maskOf (12, 12) else own

/-- Reserved fields are zero (R9, R203). -/
def reservedOk (w : CmdWord) : Bool := w.toNat &&& namedBits w == w.toNat

/-- Lanes (R204). -/
inductive Lane
  | query | write | dense | control | admin | none
  deriving DecidableEq, Repr

def laneOf (op : Nat) : Lane :=
  if [0x01, 0x02, 0x03].contains op then .query
  else if [0x10, 0x11, 0x12].contains op then .write
  else if [0x20, 0x21, 0x30, 0x31].contains op then .dense
  else if [0x40, 0x41, 0x42].contains op then .control
  else if decide (0x80 ≤ op ∧ op ≤ 0x8A) then .admin
  else .none

end Sys2Proof.Machine
end

