-- ==== Sys2Proof/Machine/ImageCheck.lean ====
section
/-!
DEFINITION. The checks of LOAD_TABLATURE on an image (R265, R283, R311).
-/
namespace Sys2Proof.Machine

/-- A run of bits is zero. -/
def zeroAt (w hi lo : Nat) : Bool := bits w hi lo == 0

/-- Core store and the side memory of a row engine (R18, R262). -/
def coreBytes : Nat := 1048576
def sideEntries : Nat := 524288

/-- The masked dies of an image. -/
def imageDies (img : List Byte) : List Nat := members (hDieMask (header img)) 8

/-- First row: lengths and kind. -/
def lengthOk (img : List Byte) (cmdBytes : Nat) : Bool :=
  let h := header img
  let n := hImageBytes h
  decide (256 ≤ n ∧ n ≤ 4 * 2 ^ 30 - 64) && n == cmdBytes && img.length == n && bits h 15 0 == 0x7AB1 && bits h 23 16 == 1

/-- Second row, header and die table: reserved bits, the entry of a die outside DIE_MASK. -/
def headerReservedOk (img : List Byte) : Bool :=
  let h := header img
  zeroAt h 2047 384 && zeroAt h 95 72 && zeroAt h 47 45 && zeroAt h 39 36
    && (List.range 8).all (fun d =>
      let e := dieEntry img d
      if bit (hDieMask h) d then zeroAt e 511 256 && zeroAt e 111 96 && zeroAt e 31 0 else e == 0)

/-- The sections of an image, (offset, length, alignment). -/
def sections (img : List Byte) : List (Nat × Nat × Nat) :=
  let h := header img
  let dies := imageDies img
  [(0, 256, 64), (hDieTable h, 512, 64), (hWeightOff h, hWeightBytes h, 64), (hStreamOff h, hStreamBytes h, 64)]
    ++ dies.map (fun d => let e := dieEntry img d; (deLineOff e, 256 * deLines e, 256))
    ++ dies.map (fun d => let e := dieEntry img d; (deDescOff e, 32 * deDescs e, 64))
    ++ dies.map (fun d => let e := dieEntry img d; (deCoordOff e, 512, 64))

/-- No two ranges of a list share a byte. -/
def disjoint : List (Nat × Nat × Nat) → Bool
  | [] => true
  | x :: r =>
    r.all (fun y => x.2.1 == 0 || y.2.1 == 0 || decide (x.1 + x.2.1 ≤ y.1 ∨ y.1 + y.2.1 ≤ x.1)) && disjoint r

/-- Third row: sections aligned, inside the image, not overlapping; DIE_MASK not zero; every masked die has lines. -/
def sectionsOk (img : List Byte) : Bool :=
  let ss := sections img
  ss.all (fun x => aligned x.1 x.2.2 && decide (x.1 + x.2.1 ≤ img.length)) && disjoint ss
    && hDieMask (header img) != 0
    && (imageDies img).all (fun d => let n := deLines (dieEntry img d); decide (1 ≤ n ∧ n ≤ 1048576))
    && (imageDies img).all (fun d => decide (deDescs (dieEntry img d) ≤ 4096))

/-- A core slot's reserved bits (R243): ACC outside products, TILE of T and S operations and VEC. -/
def coreSlotReservedOk (x : Nat) : Bool :=
  let op := csOp x
  (kindOf op == 1 || !csAcc x) && (decide (kindOf op < 4) || csTile x == 0)

/-- The slots of a line whose operations are not reserved, and their ranges (R238-R243). -/
def lineOk (count : Nat) (l : Nat) : Bool :=
  let k := lnControl l
  let r := lnRow l
  decide (ctOp k ≤ 6) && decide (1 ≤ ctHold k) && decide (ctTarget k < count)
    && (List.range 4).all (fun s => decide (stOp (lnStream l s) ≤ 4))
    && decide (reOp r ≤ 6) && decide (reKind r ≤ 1)
    && (reOp r == 0 || decide (1 ≤ reRows r ∧ reSide r + reRows r ≤ sideEntries))
    && (List.range 64).all (fun c => decide (csOp (lnCore l c) ≤ 0xB))

/-- A line's reserved bits. -/
def lineReservedOk (l : Nat) : Bool :=
  zeroAt (lnControl l) 56 52 && zeroAt (lnRow l) 3 0 && (List.range 64).all (fun c => coreSlotReservedOk (lnCore l c))

/-- A descriptor's reserved bits (R245, R246). -/
def descReservedOk (d : Nat) : Bool :=
  match dKind d with
  | 2 => zeroAt d 18 0
  | 3 => zeroAt d 220 0
  | 4 => zeroAt d 153 0
  | 5 => zeroAt d 201 0
  | 6 => zeroAt d 3 0
  | 7 => zeroAt d 159 0
  | _ => true

def isInt (f : Nat) : Bool := f == 1 || f == 2
def isFp8 (f : Nat) : Bool := f == 3 || f == 4

/-- The operand pairs of R249. -/
def pairOk (a b : Nat) (acc16 : Bool) : Bool :=
  ((isInt a && isInt b) || (isFp8 a && isFp8 b) || (a == 5 && b == 5) || (a == 6 && b == 6))
    && (!acc16 || (isFp8 a && isFp8 b))

def between (lo x hi : Nat) : Bool := decide (lo ≤ x ∧ x ≤ hi)

/-- A window lies within core store. -/
def windowOk (w : Option (Nat × Nat)) : Bool :=
  match w with
  | none => true
  | some r => decide (r.2 ≤ coreBytes)

/-- The core operations that use a descriptor kind; the windows of each are checked. -/
def opsOfKind (k : Nat) : List Nat :=
  match k with
  | 1 => [1, 2, 3]
  | 2 => [4]
  | 3 => [5]
  | 4 => [6]
  | 5 => [7]
  | 6 => [8, 9, 10, 11]
  | _ => []

/-- Fields of a descriptor within their ranges, its operand pair (R244-R246, R249, R260). -/
def descFieldsOk (d : Nat) : Bool :=
  match dKind d with
  | 1 => between 1 (pStride d) 65536 && between 1 (pM d) 64 && between 1 (pGroups d) 4096
      && between 1 (pAFmt d) 6 && between 1 (pBFmt d) 6 && pairOk (pAFmt d) (pBFmt d) (pAcc16 d)
  | 2 => between 1 (eStride d) 65536 && between 1 (eFmt d) 7 && decide (eAct d ≤ 4) && decide (eStat d ≤ 2)
      && between 1 (eM d) 64 && between 1 (eTiles d) 8
  | 3 => between 1 (aM d) 64 && between 1 (aTiles d) 8
  | 4 => between 1 (vFn d) 0xB && between 1 (vSrcFmt d) 7 && between 1 (vDstFmt d) 7
  | 5 => aligned (tAddr d) 64 && aligned (tBytes d) 64 && between 64 (tBytes d) 1048576
  | 6 => between 1 (rLen d) (2 ^ 32 - 1) && decide (rDest d ≤ 2) && between 1 (rFmt d) 5
  | 7 => true
  | _ => false

/-- The operations that the lines of a die use a descriptor for. -/
def descUses (i : DieImage) (q : Nat) : List Nat :=
  (opsOfKind (dKind (nth i.descs q 0))).filter (fun op =>
    i.lines.any (fun l => (List.range 64).any (fun c => csOp (lnCore l c) == op && csDesc (lnCore l c) == q)))

/-- Sixth row: every descriptor; windows are those of the operations that use it, or of its kind's first operation. -/
def descOk (i : DieImage) (q : Nat) : Bool :=
  let d := nth i.descs q 0
  let ops := match descUses i q with
    | [] => (opsOfKind (dKind d)).take 1
    | l => l
  descFieldsOk d && ops.all (fun op => windowOk (readWindow op d) && windowOk (writeWindow true op d))
    && (dKind d != 6 || !(ops.contains 10) || between 1 (rParam d % 2 ^ 11) 1024)

/-- Row-engine slots: a row-engine descriptor, its staging and its emission fit (R262). The DESC of every row-engine slot must name
one (DEDUCED, log entry 131). -/
def rowSlotOk (i : DieImage) (r : Nat) : Bool :=
  let d := nth i.descs (reDesc r) 0
  reOp r == 0 ||
    (decide (reDesc r < i.descs.length) && dKind d == 7
      && (reOp r != 2 || decide (reRows r * ((members (gMask d) 64).length + 1) * 8 ≤ 4194304))
      && (reOp r != 6 || decide (gEmit d + 8 * reRows r ≤ coreBytes)))

/-- Fifth row: every core slot that is no NOP. -/
def coreSlotOk (i : DieImage) (c x : Nat) : Bool :=
  csOp x == 0 ||
    (bit i.coreMask c && decide (csDesc x < i.descs.length)
      && (let d := nth i.descs (csDesc x) 0
          dKind d == kindOf (csOp x) && decide ((tilesOf (csOp x) x d).1 + (tilesOf (csOp x) x d).2 ≤ 32)))

/-- Rows 4 to 6 of R265 and the reserved bits of row 2, for one die. -/
def dieOk265 (i : DieImage) : Bool :=
  i.lines.all (fun l => lineReservedOk l) && i.descs.all descReservedOk
    && i.lines.all (fun l => lineOk i.lines.length l)
    && i.lines.all (fun l => (List.range 64).all (fun c => coreSlotOk i c (lnCore l c)))
    && (List.range i.descs.length).all (descOk i)
    && i.lines.all (fun l => rowSlotOk i (lnRow l))

/-- The tablature set of a die (R270). -/
def tabSet (s : State) (d : Nat) : Nat := ctl s (0x720101 + d)

/-- Seventh row: CORE_MASK within the tablature set, no core of it fenced without a spare (R265, R269). -/
def maskInSet (s : State) (d mask : Nat) : Bool := mask &&& tabSet s d == mask
def maskServed (s : State) (d mask : Nat) : Bool := (members mask 64).all (served s d)

/-! ### Stream section (R304-R306, R311) -/

/-- MiB of each die's stream pool (R312). -/
def streamPool (s : State) : Nat := 46 - ctl s 0x300003

/-- Bytes of the tablature area of a die: both stacks' share of the near-memory reserve (R56). -/
def tabArea (s : State) : Nat := ctl s 0x300001 * 2 ^ 25

/-- Bytes of a stream's block (R305). -/
def blockBytes (e : StreamEnt) : Nat := 2 ^ (12 + e.blockLog)

/-- A TAB, ACT or STASH endpoint's bytes: region start and length (R305, R306). -/
def regionStart (e : StreamEnt) : Nat := e.regionOff * 64
def regionBytes (e : StreamEnt) : Nat := e.regionLen * 64

/-- DIR and ROLE agree with ENDPOINT (R306). -/
def endpointOk (e : StreamEnt) : Bool :=
  match e.endpoint with
  | 0 => true
  | 1 => decide (1 ≤ e.listSel)
  | 2 => !e.dir
  | 3 => true
  | 4 => if e.role = 3 then e.dir else !e.dir
  | 5 => true
  | 6 => e.dir
  | _ => false

/-- A stream entry against its image. -/
def streamEntOk (s : State) (img : List Byte) (t : Tablature) (n : Nat) (e : StreamEnt) : Bool :=
  let cm := ((look t.dies e.die).map (·.coreMask)).getD 0
  zeroAt (streamWord img n) 71 0 && between 0 e.blockLog 8 && between 2 e.maxHeld 64
    && bit t.dieMask e.die && bit cm e.issueCore && e.coreMask &&& cm == e.coreMask
    && endpointOk e
    && (e.endpoint != 2 || (decide (1 ≤ e.regionLen) && decide (regionStart e + regionBytes e ≤ tabArea s)))
    && (e.endpoint != 3 || (decide (1 ≤ e.regionLen) && decide (regionStart e + regionBytes e ≤ t.actBytes)))
    && (e.endpoint != 4 || (match t.dir with
        | some d => decide (e.stash < d.stashes.length)
        | none => false))
    && (e.endpoint != 5 || e.dir ||
        (match t.streams[e.linkFrom]? with
        | some p => p.endpoint == 5 && p.dir && p.die == e.die
        | none => false))
    && (!e.scaleValid ||
        (match t.streams[e.scaleStream]? with
        | some p => !p.dir && p.die == e.die && e.coreMask &&& p.coreMask == e.coreMask
        | none => false))

/-- Slots and XFERs name streams of their own die, of the right direction and cores (R311). -/
def slotStreamsOk (t : Tablature) (d : Nat) (i : DieImage) (l : Nat) : Bool :=
  (List.range 4).all (fun k =>
    let x := lnStream l k
    stOp x == 0 ||
      (match t.streams[stStream x]? with
      | some e => e.die == d && (stOp x == 4 || decide (1 ≤ stCount x))
          && (stOp x != 2 || (!e.dir && stMask x &&& e.coreMask == stMask x)) && (stOp x != 4 || e.dir)
      | none => false))
  && (List.range 64).all (fun c =>
    let x := lnCore l c
    csOp x != 7 ||
      (let q := nth i.descs (csDesc x) 0
       match t.streams[tStream q]? with
       | some e => e.die == d && bit e.coreMask c && e.dir == tDirOut q
       | none => false))
  && (let r := lnRow l
      let q := nth i.descs (reDesc r) 0
      (reOp r != 4 && reOp r != 5) ||
        (match t.streams[gStream q]? with
        | some e => e.die == d && e.roweng && e.dir == (reOp r == 4)
        | none => false))

/-- The reserve sum of a die (R311). -/
def reserveSum (t : Tablature) (d : Nat) : Nat :=
  sumOf ((t.streams.filter (fun e => e.die == d && (e.endpoint != 5 || e.dir))).map (fun e => 2 * blockBytes e))

/-- The stream section passes R311. -/
def streamsOk (s : State) (img : List Byte) (t : Tablature) : Bool :=
  let h := streamHeader img
  bits h 15 0 == 1 && bits h 31 16 == 0x5A1B && zeroAt h 511 48 && between 1 (streamCount img) 256
    && decide (64 + 32 * streamCount img ≤ hStreamBytes (header img))
    && (List.range t.streams.length).all (fun n =>
        match t.streams[n]? with
        | some e => streamEntOk s img t n e
        | none => true)
    && (let froms := (t.streams.filter (fun e => e.endpoint == 5 && !e.dir)).map (·.linkFrom)
        froms.eraseDups.length == froms.length)
    && t.dies.all (fun p => p.2.lines.all (slotStreamsOk t p.1 p.2))
    && t.dies.all (fun p => decide (reserveSum t p.1 ≤ streamPool s * 1048576))

/-! ### Training directory (R283) -/

/-- The nesting of LOOP and ENDLOOP in a run of lines, by counter: every LOOP has its ENDLOOP inside, none is left over
(R283). Depths per counter; `none` once an ENDLOOP has no LOOP. -/
def loopStep (d : Option (List Nat)) (l : Nat) : Option (List Nat) :=
  match d with
  | none => none
  | some ds =>
    let k := lnControl l
    let c := ctCnt k
    if ctOp k = 2 then some (ds.modify c (· + 1))
    else if ctOp k = 3 then (if nth ds c 0 = 0 then none else some (ds.modify c (· - 1)))
    else some ds

def loopsClosed (ls : List Nat) : Bool := ls.foldl loopStep (some [0, 0, 0, 0]) == some [0, 0, 0, 0]

/-- The lines of a span on a die. -/
def spanLines (i : DieImage) (sp : Span) (d : Nat) : List Nat :=
  (i.lines.drop (nth sp.first d 0)).take (nth sp.last d 0 + 1 - nth sp.first d 0)

/-- A stream number names a stream of the section, which a START or MCAST slot of a span does not start with the UPDATE role (R283). -/
def spanStreamOk (t : Tablature) (op n : Nat) : Bool :=
  match t.streams[n]? with
  | some e => !((op == 1 || op == 2) && e.endpoint == 4 && e.role == 3)
  | none => false

/-- A conversion of a span through the scale tensor of one of its records writes an FP8 format (R281, R283). The header of a scale
tensor is no part of the image: at load its DATA_FMT is taken from the conversions that write through it, and the header is checked at
each of them (DEDUCED, log entry 113). -/
def governedOk (dir : TrainDir) (sp : Span) (i : DieImage) (x : Nat) : Bool :=
  let d := nth i.descs (csDesc x) 0
  let through (a : Nat) : Bool := a != 0 && ((dir.tensors.drop sp.tFirst).take sp.tCount).any (fun r => r.scaleAddr == a)
  (csOp x != 4 || !(through (eOsc d)) || isFp8 (eFmt d))
    && (csOp x != 6 || vFn d != 7 || !(through (vSrc2 d)) || isFp8 (vDstFmt d))

/-- A span on one die (R283). -/
def spanDieOk (t : Tablature) (sp : Span) (d : Nat) (i : DieImage) : Bool :=
  let ls := spanLines i sp d
  decide (nth sp.first d 0 ≤ nth sp.last d 0 ∧ nth sp.last d 0 < i.lines.length)
    && ctOp (lnControl (nth i.lines (nth sp.last d 0) 0)) == 4
    && loopsClosed ls
    && ls.all (fun l => (List.range 64).all (fun c =>
        let x := lnCore l c
        csOp x == 0 ||
          (decide (csDesc x + sp.wideDesc < i.descs.length)
            && dKind (nth i.descs (csDesc x + sp.wideDesc) 0) == kindOf (csOp x)
            && governedOk (t.dir.getD {}) sp i x)))
    && ls.all (fun l =>
        let x := lnRow l
        reOp x == 0 ||
          (decide (reDesc x + sp.wideDesc < i.descs.length) && dKind (nth i.descs (reDesc x + sp.wideDesc) 0) == 7))
    && ls.all (fun l => (List.range 4).all (fun k =>
        let x := lnStream l k
        stOp x == 0 ||
          (spanStreamOk t (stOp x) (stStream x) && spanStreamOk t (stOp x) (stStream x + sp.wideStream))))

def rangesDisjoint (l : List (Nat × Nat)) : Bool := disjoint (l.map (fun r => (r.1, r.2, 1)))

/-- The training directory passes R283. -/
def dirOk (s : State) (img : List Byte) (t : Tablature) : Bool :=
  match t.dir with
  | none => true
  | some dir =>
    let w := weights img
    let h := dirHeader w
    let n := w.length
    decide (64 ≤ n) && bits h 15 0 == 1 && bits h 31 16 == 0x7D0C && zeroAt h 511 256 && zeroAt h 111 100 && zeroAt h 47 32
      && decide (dir.tensors.length ≤ 4095 ∧ dir.stashes.length ≤ 256) && between 1 dir.spans.length 4096
      && decide (bits h 255 224 + 32 * dir.tensors.length ≤ n ∧ bits h 223 192 + 32 * dir.stashes.length ≤ n
          ∧ bits h 191 160 + 64 * dir.spans.length ≤ n)
      && aligned (bits h 255 224) 32 && aligned (bits h 223 192) 32 && aligned (bits h 191 160) 64
      && (List.range dir.spans.length).all (fun k =>
          let x := numAt w (bits h 191 160 + 64 * k) 64
          zeroAt x 103 0 && decide (bits x 105 104 ≤ 2)
            && (bits x 105 104 == 2 || zeroAt x 191 160)
            && (List.range 8).all (fun d => bit t.dieMask d
                || (zeroAt x (192 + 20 * d + 19) (192 + 20 * d) && zeroAt x (352 + 20 * d + 19) (352 + 20 * d))))
      && (List.range dir.tensors.length).all (fun k => zeroAt (numAt w (bits h 255 224 + 32 * k) 32) 181 0)
      && (List.range dir.stashes.length).all (fun k => zeroAt (numAt w (bits h 223 192 + 32 * k) 32) 146 0)
      && dir.tensors.all (fun r => between 1 r.channels 4095 && between 1 r.history 15 && decide (r.mode ≤ 1 ∧ r.margin ≤ 7))
      && dir.spans.all (fun sp => decide (sp.tFirst + sp.tCount ≤ dir.tensors.length))
      && dir.spans.all (fun sp => t.dies.all (fun p => spanDieOk t sp p.1 p.2))
      && t.dies.all (fun p => rangesDisjoint (dir.spans.map (fun sp =>
          (nth sp.first p.1 0, nth sp.last p.1 0 + 1 - nth sp.first p.1 0))))
      && decide (sumOf (dir.tensors.map (·.channels)) ≤ 4096)
      && dir.tensors.all (fun r =>
          decide (dir.histBase + r.histOff + 4 * (64 * r.history * r.channels) ≤ t.actBytes))
      && dir.stashes.all (fun e => aligned e.bytes 64 && decide (e.slot0 + e.bytes ≤ tabArea s ∧ e.slot1 + e.bytes ≤ tabArea s))
      && rangesDisjoint (dir.stashes.map (fun e => (e.slot0, e.bytes)) ++ dir.stashes.map (fun e => (e.slot1, e.bytes)))
      && decide (dir.factorBase + 8 * 1024 ≤ coreBytes)
      && t.dies.all (fun p => p.2.descs.all (fun d => dKind d != 2 || eRes d == 0 || eFmt d == 7))

/-- Every check of R265 that gives INVALID, in its order. -/
def imageOk (s : State) (img : List Byte) (cmdBytes : Nat) : Bool :=
  lengthOk img cmdBytes && headerReservedOk img && sectionsOk img &&
    (let t := loadedTab img
     t.dies.all (fun p => dieOk265 p.2)
       && t.dies.all (fun p => maskInSet s p.1 p.2.coreMask && maskServed s p.1 p.2.coreMask)
       && streamsOk s img t && dirOk s img t)

/-- Bytes that a tablature takes in a die's tablature area (R265). -/
def tabBytes (t : Tablature) (d : Nat) : Nat :=
  match look t.dies d with
  | some i => 256 * i.lines.length + 32 * i.descs.length + 512 + t.weightBytes + t.actBytes
  | none => 0

end Sys2Proof.Machine
end

