-- ==== Sys2Proof/Machine/Requests.lean ====
section
/-!
DEFINITION. Runs, the memory requests of a core's stream engine, and the regulator of a die (R321, R322, R326, R394).
-/
namespace Sys2Proof.Machine

/-! ### Runs and their parts -/

def runOfDie (s : State) (die : Nat) : Option Run := s.dense.runs.find? (fun r => r.dies.any (fun p => p.1 == die))
def runOf (s : State) (slot seq : Nat) : Option Run := s.dense.runs.find? (fun r => r.slot == slot && r.seq == seq)
def withRun (s : State) (slot seq : Nat) (f : Run → Run) : State :=
  { s with dense := { s.dense with runs := s.dense.runs.map (fun r => if r.slot == slot && r.seq == seq then f r else r) } }
def withRunOf (s : State) (die : Nat) (f : Run → Run) : State :=
  { s with dense := { s.dense with runs := s.dense.runs.map (fun r => if r.dies.any (fun p => p.1 == die) then f r else r) } }
def dieSeq (s : State) (die : Nat) : DieSeq := ((runOfDie s die).bind (fun r => look r.dies die)).getD {}
def withDie (s : State) (die : Nat) (f : DieSeq → DieSeq) : State :=
  withRunOf s die (fun r => { r with dies := alter r.dies die f })

/-! ### The regulator (R322) -/

/-- The bucket gains its rate in bytes per ns up to its depth. -/
def refill (now : Nat) (q : DieSeq) : DieSeq :=
  let depth : Int := q.burst * 1048576
  let gain : Int := (q.rate * (now - q.refilled) : Nat)
  { q with bucket := min depth (q.bucket + gain), refilled := now }

/-! ### Memory requests (R321) -/

/-- The request limit of a core. -/
def reqLimit : Nat := 512

/-- The requests of at most 512 bytes, none across a 512-byte boundary, that `n` bytes at `a` take, as counts of a size. -/
def reqRuns (a n : Nat) : List (Nat × Nat) :=
  let first := min n (512 - a % 512)
  [(1, first), ((n - first) / 512, 512), (1, (n - first) % 512)].filter (fun r => r.1 != 0 && r.2 != 0)

/-- Requests of a core outstanding. -/
def reqsOut (l : List Reqs) (core : Nat) : Nat := sumOf ((l.filter (fun r => r.core == core)).map (·.out))

/-- The requests that may issue: as many as `room` admits, each while the bucket, where one applies, holds more than 0 (R322). Answers
their number, their bytes, and what is left. -/
def takeReqs : Nat → Option Int → List (Nat × Nat) → Nat × Nat × List (Nat × Nat)
  | _, _, [] => (0, 0, [])
  | room, bucket, (c, z) :: rest =>
    let k := min (min c room) (match bucket with
      | none => c
      | some b => ceilDiv b.toNat z)
    if k = c then
      let r := takeReqs (room - k) (bucket.map (fun b => b - (k * z : Nat))) rest
      (k + r.1, k * z + r.2.1, r.2.2)
    else (k, k * z, (c - k, z) :: rest)

/-- Requests of streams pass the regulator of their die unless REG_RATE is 0; those of walks do not. -/
def isRegulated (q : DieSeq) : ReqOwner → Bool
  | .stream _ _ => q.rate != 0
  | _ => false

/-- Issue what the room and the bucket admit of one transfer. Answers it, the requests issued, and the bucket. -/
def issueSome (now : Nat) (q : DieSeq) (room : Nat) (bucket : Int) (r : Reqs) : Reqs × Nat × Int :=
  let paid := isRegulated q r.owner
  let x := takeReqs room (if paid then some bucket else none) r.todo
  ({ r with todo := x.2.2, out := r.out + x.1, outBytes := r.outBytes + x.2.1, sent := r.sent + x.2.1,
            since := if r.out = 0 then now else r.since }, x.1, if paid then bucket - x.2.1 else bucket)

/-- The transfers of a core in the order in which they stand; `room` is what is left below the limit. -/
def issueInOrder (now core : Nat) (q : DieSeq) : Nat → Int → List Reqs → List Reqs × Int
  | _, bucket, [] => ([], bucket)
  | room, bucket, r :: rest =>
    if r.core = core then
      let x := issueSome now q room bucket r
      let y := issueInOrder now core q (room - x.2.1) x.2.2 rest
      (x.1 :: y.1, y.2)
    else
      let y := issueInOrder now core q room bucket rest
      (r :: y.1, y.2)

/-- A core stands at the limit with a request left to issue. -/
def atLimit (l : List Reqs) (core : Nat) : Bool :=
  decide (reqLimit ≤ reqsOut l core) && l.any (fun r => r.core == core && !r.todo.isEmpty)

/-- CCLK cycles (900 MHz) of `ns`. -/
def cclkOf (ns : Nat) : Nat := ns * 9 / 10
/-- NCLK cycles (1.2 GHz) of `ns`. -/
def nclkOf (ns : Nat) : Nat := ns * 6 / 5

/-- Count the CCLK cycles that a core has stood at the limit, once it leaves it (REQ_LIMIT_CYCLES). -/
def noteLimit (s : State) (core : Nat) : State :=
  match look s.dense.limitSince core, atLimit s.dense.reqs core with
  | none, true => { s with dense := { s.dense with limitSince := keep core s.time.tick s.dense.limitSince } }
  | some t, false => bump { s with dense := { s.dense with limitSince := forget s.dense.limitSince core } } 0x65 (cclkOf (s.time.tick - t))
  | _, _ => s

def putBucket (s : State) (die : Nat) (b : Int) : State :=
  if b = (dieSeq s die).bucket then s else withDie s die (fun q => { q with bucket := b })

/-- Issue the requests of a core. -/
def issueReqs (s : State) (core : Nat) : State :=
  let q := dieSeq s (core / 64)
  let x := issueInOrder s.time.tick core q (reqLimit - reqsOut s.dense.reqs core) q.bucket s.dense.reqs
  noteLimit (putBucket { s with dense := { s.dense with reqs := x.1 } } (core / 64) x.2) core

/-- A physical core serves a global logical core. -/
def coreUp (s : State) (core : Nat) : Bool := served s (core / 64) (core % 64)

/-- A transfer begins: its requests are issued as far as the limit and the regulator admit. A core that is not served takes none
(R397). -/
def beginReqs (s : State) (core : Nat) (o : ReqOwner) (todo : List (Nat × Nat)) : State :=
  if todo = [] ∨ s.dense.reqs.any (fun r => r.owner == o) ∨ coreUp s core = false then s
  else
    let q := dieSeq s (core / 64)
    let x := issueSome s.time.tick q (reqLimit - reqsOut s.dense.reqs core) q.bucket { core := core, owner := o, todo := todo }
    noteLimit (putBucket { s with dense := { s.dense with reqs := s.dense.reqs ++ [x.1] } } (core / 64) x.2.2) core

/-- A transfer ends, or is given up: its requests retire first, and the core issues others (R326). -/
def endReqs (s : State) (o : ReqOwner) : State :=
  match s.dense.reqs.find? (fun r => r.owner == o) with
  | none => s
  | some r => issueReqs { s with dense := { s.dense with reqs := s.dense.reqs.filter (fun x => x.owner != o) } } r.core

/-- The outstanding requests of a transfer retire, with their data bad where `bad` holds, and the core issues others. Which transfer
of a core issues first is not stated: this one goes behind the others (DESIGN CHOICE, log entry 134). -/
def retireReqs (s : State) (o : ReqOwner) (bad : Bool) : State :=
  match s.dense.reqs.find? (fun r => r.owner == o) with
  | none => s
  | some r =>
    let r' := { r with out := 0, outBytes := 0, dropped := false, lost := if bad then r.lost ++ [(r.sent - r.outBytes, r.sent)] else r.lost }
    issueReqs { s with dense := { s.dense with reqs := s.dense.reqs.filter (fun x => x.owner != o) ++ [r'] } } r.core

/-- No response of a transfer can have come: none of its requests is outstanding, or a packet of it was discarded. -/
def heldReqs (s : State) (o : ReqOwner) : Bool :=
  s.dense.reqs.any (fun r => r.owner == o && (r.dropped || (r.out == 0 && !r.todo.isEmpty)))

/-- The response that has come is not the transfer's last: requests of it are still to be issued. -/
def partReqs (s : State) (o : ReqOwner) : Bool :=
  s.dense.reqs.any (fun r => r.owner == o && !r.dropped && r.out != 0 && !r.todo.isEmpty)

/-- A request of a transfer has been outstanding for REQ_TIMEOUT (R394). -/
def expired (s : State) (o : ReqOwner) : Bool :=
  s.dense.reqs.any (fun r => r.owner == o && r.out != 0 && decide (r.since + ctl s 0xB00006 ≤ s.time.tick))

/-- The byte ranges of a transfer that came back bad. -/
def lostRanges (s : State) (o : ReqOwner) : List (Nat × Nat) :=
  ((s.dense.reqs.find? (fun r => r.owner == o)).map (·.lost)).getD []

/-- A packet of a transfer is delivered poisoned, or discarded (R392): `at_` is its first byte in the transfer. -/
def packetReqs (s : State) (o : ReqOwner) (at_ : Nat) (header : Bool) : State :=
  { s with dense := { s.dense with reqs := s.dense.reqs.map (fun r =>
      if r.owner = o then (if header then { r with lost := r.lost ++ [(at_, at_ + 64)] } else { r with dropped := true }) else r) } }

/-- The requests of the streams of a die are given up (R325). -/
def dropReqs (s : State) (die : Nat) : State :=
  s.dense.reqs.foldl (fun s r => match r.owner with
    | .stream d _ => if d = die then endReqs s r.owner else s
    | _ => s) s

/-- The requests of a core that is no longer served are abandoned (R397). -/
def dropCoreReqs (s : State) (core : Nat) : State :=
  s.dense.reqs.foldl (fun s r => if r.core = core then endReqs s r.owner else s) s

/-! ### Waits for the bucket (R322, R328) -/

/-- A request of a die waits for the bucket and for nothing else. -/
def regWaits (s : State) (die : Nat) : Bool :=
  s.dense.reqs.any (fun r => (match r.owner with
    | .stream d _ => d == die
    | _ => false) && !r.todo.isEmpty && decide (reqsOut s.dense.reqs r.core < reqLimit))

/-- NCLK cycles of such a wait since the last refill, as far as the bucket held no more than 0. -/
def regWaited (s : State) (die : Nat) : Nat :=
  let q := dieSeq s die
  if regWaits s die ∧ q.rate ≠ 0 ∧ q.bucket ≤ 0 then nclkOf (min (s.time.tick - q.refilled) (ceilDiv (1 - q.bucket).toNat q.rate)) else 0

/-- Count the cycles that a request has waited only for the bucket, and refill it (REG_WAIT_CYCLES). -/
def refillDie (s : State) (die : Nat) : State := bump (withDie s die (refill s.time.tick)) 0x64 (regWaited s die)

/-- Refill the bucket first, then let the requests of the die's cores issue (R326). -/
def issueDie (s : State) (die : Nat) : State :=
  let s := refillDie s die
  ((s.dense.reqs.filter (fun r => r.core / 64 == die && !r.todo.isEmpty)).map (·.core)).eraseDups.foldl issueReqs s

end Sys2Proof.Machine
end

