-- ==== Sys2Proof/Machine/Lists.lean ====
section
/-!
DEFINITION. Keys, entries, lists and the selection unit's operations (R94-R96, R116-R125).
-/
namespace Sys2Proof.Machine

/-- The NaN key (R94). -/
def nanKey : W32 := 0xFFFFFFFF

/-- The key of a distance (R94); negative zero has the key of positive zero. -/
def keyOf (v : FV) : W32 :=
  if v.isNan then nanKey
  else
    let u := if e32 v = 0x80000000 then 0 else e32 v
    if u.msb then ~~~u else u ||| 0x80000000

/-- The distance of a key (R95). -/
def valOf (k : W32) : FV := d32 (if k.msb then k ^^^ 0x80000000 else ~~~k)

/-- The key of a row element (R122). -/
def rowKey (largest : Bool) (v : FV) : W32 := keyOf (if largest then v.neg else v)

/-- Order of entries: by KEY in search lists, where the order of equal keys is not specified; by KEY:ID in row lists
(R120). -/
def entryLe (row : Bool) (a b : Entry) : Bool :=
  if a.key ≠ b.key then decide (a.key.toNat < b.key.toNat)
  else if row then decide (a.id ≤ b.id)
  else Config.tieOrder a.key.toNat (a.id + a.aux <<< 64) (b.id + b.aux <<< 64)

/-- Reduce entries with the same ID to the first one; the list is sorted, so the lowest key stays (R124). Answers the
entries kept and the number removed. -/
def dedup (l : List Entry) : List Entry × Nat :=
  l.foldl (fun p e => if p.1.any (fun x => x.id == e.id) then (p.1, p.2 + 1) else (p.1 ++ [e], p.2)) ([], 0)

/-- Entries that an output list may hold (R118): no NaN key, no null identifier in a search list. -/
def entryGood (row : Bool) (e : Entry) : Bool := e.key != nanKey && (row || e.id != nullId)

/-- Combine two lists at a stage (R118, R124, R125): drop bad entries, sort,
deduplicate, truncate; flags are the OR. A bad entry is dropped on its own and sets POISON, in row lists too (R129). Answers the
list and the number of duplicates removed. -/
def mergeLists (row : Bool) (limit : Nat) (a b : MList) : MList × Nat :=
  let all := a.entries ++ b.entries
  let good := all.filter (entryGood row)
  let d := dedup (sortBy (entryLe row) good)
  ({ kind := a.kind, sorted := true, cut := a.cut || b.cut,
     poison := a.poison || b.poison || good.length != all.length,
     fenced := a.fenced || b.fenced, entries := d.1.take limit }, d.2)

/-- The `k` first entries of a row in KEY:ID order (R121, R123). -/
def topEntries (k : Nat) (l : List Entry) : List Entry :=
  l.foldl (fun run e => (insertBy (entryLe true) e run).take k) []

/-- The smallest `m` with `2^m ≥ n` (R121). -/
def padLog (n : Nat) : Nat := if n ≤ 1 then 0 else Nat.log2 (n - 1) + 1

/-- Cycles of SORT and MERGE (R121). -/
def sortCycles (n : Nat) : Nat :=
  let m := padLog n
  m * (m + 1) / 2 * max 1 (2 ^ m / 128) + ceilDiv n 32
def mergeCycles (n : Nat) : Nat :=
  let m := padLog n
  m * max 1 (2 ^ m / 128) + ceilDiv n 32

/-- Cycles of TOPK: each block of 1,024 is compacted, which a NaN key never passes (R123), its survivors sorted and merged with the running list (R121,
R123). -/
def topCycles (k : Nat) : List (List Entry) → List Entry → Nat
  | [], _ => 0
  | b :: r, run =>
    let pass := b.filter (fun e => e.key != nanKey && (run[k - 1]?).all (fun t => decide (e.key.toNat ≤ t.key.toNat)))
    let next := topEntries k (run ++ pass)
    16 + sortCycles pass.length + mergeCycles (pass.length + run.length) + topCycles k r next

/-- The COUNT that a list header can hold (R117). -/
def listMax : Nat := 1024

/-- The header of a list (R117). A SORT or MERGE of the selection unit may leave up to 2,048 entries (R121), for which R117 gives
no COUNT: its field then holds the number modulo 2^11, and every entry follows. DESIGN CHOICE, log entry 69. -/
def listHeader (tag : Nat) (row : Bool) (l : MList) : Nat :=
  put 96 (tag % 2 ^ 32) + (if row then 2 ^ 19 else 0) + (if l.fenced then 2 ^ 18 else 0) + (if l.poison then 2 ^ 17 else 0)
    + (if l.cut then 2 ^ 16 else 0)
    + put 14 (match l.kind with
        | .code => 0
        | .final => 1
        | .row => 2)
    + (if l.sorted then 2 ^ 11 else 0) + l.entries.length % 2 ^ 11

/-- An entry as a number of 128 bits (R116). -/
def entryNum (e : Entry) : Nat := put 96 e.key.toNat + put 64 (e.aux % 2 ^ 32) + e.id % 2 ^ 64

/-- The bytes of a list (R116, R117). -/
def listEncode (tag : Nat) (row : Bool) (l : MList) : List Byte :=
  leBytes 16 (listHeader tag row l) ++ (l.entries.map (fun e => leBytes 16 (entryNum e))).flatten

/-- An entry from its number. -/
def entryFrom (x : Nat) : Entry := { key := BitVec.ofNat 32 (bits x 127 96), aux := bits x 95 64, id := bits x 63 0 }

/-- The kind of a list's header code. -/
def kindOfCode (c : Nat) : Option ListKind :=
  match c with
  | 0 => some .code
  | 1 => some .final
  | 2 => some .row
  | _ => none

/-- A list from its header number and its entries' bytes. -/
def listDecode (bs : List Byte) (atMost : Nat) : MList :=
  let h := numAt bs 0 16
  let n := min (bits h 10 0) atMost
  { kind := (kindOfCode (bits h 15 14)).getD .row, sorted := bit h 11, cut := bit h 16, poison := bit h 17, fenced := bit h 18,
    entries := (List.range n).map (fun i => entryFrom (numAt bs (16 + 16 * i) 16)) }

end Sys2Proof.Machine
end

