-- ==== Sys2Proof/Machine/RowOps.lean ====
section
/-!
DEFINITION. The selection unit's macro-operations on row lists and the row engine (R121-R123, R246, R262).
-/
namespace Sys2Proof.Machine

/-- What a selection macro leaves: its list, the duplicates removed, its cycles, and whether more entries passed than a
list holds. -/
structure RowOut where
  list : MList
  dup : Nat := 0
  cycles : Nat
  tooMany : Bool := false
  deriving DecidableEq, Repr

/-- The segment of a row as entries: key and position in the whole row (R122, R131). -/
def rowEntries (m : Mem) (d core : Nat) : List Entry :=
  let base := rSeg0 d + (if rPerCore d then core * rLen d else 0)
  let w := rrSize (rFmt d)
  (List.range (rLen d)).map (fun i =>
    { key := rowKey (rLargest d) (fdec (rrFmt (rFmt d)) (readNat m (rSrc d + i * w) w)), aux := 0, id := (base + i) % 2 ^ 64 })

/-- A list in core store, at most `LENGTH` and 2,048 entries of it. -/
def storeList (m : Mem) (a n : Nat) : MList := listDecode (readBytes m a (listBytes (min n 2048))) (min n 2048)

/-- The entries less those at the positions that the register file lost (R119). -/
def dropAt (lost : List Nat) (l : List Entry) : List Entry := (l.zipIdx.filter (fun p => !(lost.contains p.2))).map Prod.fst

/-- A list that SORT or MERGE takes: an entry with the NaN key is never output (R118, R122). -/
def unitList (lost : List Nat) (l : MList) : MList := { l with entries := (dropAt lost l.entries).filter (entryGood true) }

/-- SORT, MERGE, TOPK and COMPACT (R121, R123); `lost` are positions among the input's entries that parity errors have taken
(R119). A COMPACT list keeps its input order, with SORTED 0 (DEDUCED, log entry 123). -/
def selectRows (m : Mem) (op d core : Nat) (bad : Bool) (lost : List Nat) : RowOut :=
  if op = 8 then
    let l := storeList m (rSrc d) (rLen d)
    let r := mergeLists true 2048 (unitList lost l) { kind := .row, poison := bad }
    { list := { r.1 with kind := .row }, dup := r.2, cycles := sortCycles l.entries.length }
  else if op = 9 then
    let a := storeList m (rSrc d) (rLen d)
    let b := storeList m (rParam d % 2 ^ 20) 2048
    let r := mergeLists true 2048 (unitList lost a)
      (unitList (lost.filterMap (fun n => if n < a.entries.length then none else some (n - a.entries.length)))
        { b with poison := b.poison || bad })
    { list := { r.1 with kind := .row }, dup := r.2, cycles := mergeCycles (a.entries.length + b.entries.length) }
  else
    let es := (rowEntries m d core)
    let good := (dropAt lost es).filter (entryGood true)
    if op = 10 then
      let k := rParam d % 2 ^ 11
      { list := { kind := .row, poison := bad, entries := topEntries k good },
        cycles := topCycles k (blocksOf 1024 (es.length + 1) es) [] }
    else
      let pass := good.filter (fun e => decide (e.key.toNat < rParam d))
      { list := { kind := .row, sorted := false, poison := bad, entries := pass },
        cycles := max (ceilDiv es.length 64) (ceilDiv pass.length 32), tooMany := decide (listMax < pass.length) }

/-! ### Row engine (R262) -/

/-- An entry of side memory. -/
def sideEntry (m : SideMem) (i : Nat) : W32 × W32 × Bool :=
  (look m.cells i).getD (if m.fill = 0 then (0, 0, false) else (Config.freeElem m.fill (2 * i), Config.freeElem m.fill (2 * i + 1), false))

def putSide (m : SideMem) (i : Nat) (e : W32 × W32 × Bool) : SideMem := { m with cells := keep i e m.cells }

/-- Combination of (m, l) with (m_b, l_b), or of sums; where m' is minus infinity both factors are 1, as R259 has it. -/
def combineRow (kind : Nat) (a b : W32 × W32 × Bool) : W32 × W32 × Bool :=
  let bad := a.2.2 || b.2.2
  if kind = 0 then
    let m := d32 a.1
    let mb := d32 b.1
    let m' := fmax m mb
    let one : FV := .fin false 1 0
    let dead := m' == .inf true
    let fa := if dead then one else exp32 (sub32 m m')
    let fb := if dead then one else exp32 (sub32 mb m')
    (e32 m', e32 (add32 (mul32 (d32 a.2.1) fa) (mul32 (d32 b.2.1) fb)), bad)
  else (e32 (add32 (d32 a.1) (d32 b.1)), e32 (add32 (d32 a.2.1) (d32 b.2.1)), bad)

/-- What RS_CLEAR sets. -/
def clearedEntry (kind : Nat) : W32 × W32 × Bool := if kind = 0 then (0xFF800000, 0, false) else (0, 0, false)

def clearSide (m : SideMem) (kind first rows : Nat) : SideMem :=
  (List.range rows).foldl (fun m i => putSide m (first + i) (clearedEntry kind)) m

/-- The staging key of a core and an entry. -/
def stageKey (core entry : Nat) : Nat := core * 524288 + entry

/-- A delivery to a window; `none` where the entry lies outside every open window of the core. -/
def deliverRow (ws : List ReWindow) (core entry : Nat) (v : W32 × W32 × Bool) : Option (List ReWindow) :=
  if ws.any (fun w => decide (w.side ≤ entry ∧ entry < w.side + w.rows) && bit w.mask core) then
    some (ws.map (fun w =>
      if decide (w.side ≤ entry ∧ entry < w.side + w.rows) && bit w.mask core then
        let k := stageKey core entry
        let v := match look w.stage k with
          | some old => combineRow w.kind old v
          | none => v
        { w with stage := keep k v w.stage }
      else w))
  else none

/-- Combine a window's staging entries into side memory, cores ascending. -/
def closeWindow (m : SideMem) (w : ReWindow) : SideMem :=
  w.stage.foldl (fun m p =>
    let e := p.1 % 524288
    putSide m e (combineRow w.kind (sideEntry m e) p.2)) m

/-- The 8 bytes of an entry, first word in the upper half. -/
def sideBytes (e : W32 × W32 × Bool) : List Byte := leBytes 4 e.2.1.toNat ++ leBytes 4 e.1.toNat

end Sys2Proof.Machine
end

