-- ==== Sys2Proof/Machine/StreamOps.lean ====
section
/-!
DEFINITION. Streams of a run: credit, buffers, block lists, transfers and the regulator (R303-R326).
-/
namespace Sys2Proof.Machine

/-! ### Tablatures, cores and streams -/

/-- A tablature by number; an empty one where none is loaded. -/
def tabNo (s : State) (n : Nat) : Tablature := (look s.dense.tabs n).getD {}
def tabOfDie (s : State) (die : Nat) : Tablature := ((runOfDie s die).map (fun r => tabNo s r.tab)).getD {}
def withTab (s : State) (n : Nat) (f : Tablature → Tablature) : State :=
  { s with dense := { s.dense with tabs := alter s.dense.tabs n f } }
def withTabOfDie (s : State) (die : Nat) (f : Tablature → Tablature) : State :=
  match runOfDie s die with
  | some r => withTab s r.tab f
  | none => s

/-- A core of a die. -/
def coreOf (s : State) (die c : Nat) : Core :=
  (look s.dense.cores (64 * die + c)).getD { store := { mem := { fill := s.dense.fill } }, fillTiles := s.dense.fill }
def setCore (s : State) (die c : Nat) (k : Core) : State :=
  { s with dense := { s.dense with cores := keep (64 * die + c) k s.dense.cores } }

def streamEntry (s : State) (die n : Nat) : StreamEnt := nth (tabOfDie s die).streams n {}
def streamSt (q : DieSeq) (n : Nat) : StreamSt := (look q.streams n).getD {}
def withStream (s : State) (die n : Nat) (f : StreamSt → StreamSt) : State :=
  withDie s die (fun q => { q with streams := keep n (f (streamSt q n)) q.streams })

/-- Progress of a die for the stall detector (R236, R400). Where the sequencer waits at a DRAIN, its next line can have waited for a
tag only since the last progress. -/
def noteProgress (s : State) (die : Nat) (q : DieSeq) : DieSeq :=
  { q with progress := s.time.tick, advanced := dieClock s die, stashFrom := if q.wait = .drain then dieClock s die else q.stashFrom }
def progressed (s : State) (die : Nat) : State := withDie s die (noteProgress s die)

/-- The first uncompleted macro of a unit. -/
def macroOn (q : DieSeq) (core : Nat) (u : ExecUnit) : Option Macro := q.macros.find? (fun m => m.core == core && m.unit == u)
def withMacro (s : State) (die core : Nat) (u : ExecUnit) (f : Macro → Macro) : State :=
  withDie s die (fun q => { q with macros := q.macros.map (fun m => if m.core == core && m.unit == u then f m else m) })
def dropMacro (s : State) (die core : Nat) (u : ExecUnit) : State :=
  withDie s die (fun q => noteProgress s die { q with macros := q.macros.filter (fun m => !(m.core == core && m.unit == u)) })

/-! ### Stash state (R294) -/

def stashOf (t : Tablature) (die n : Nat) : StashState := (look t.train.stash (256 * die + n)).getD {}
def putStash (t : Tablature) (die n : Nat) (z : StashState) : Tablature :=
  { t with train := { t.train with stash := keep (256 * die + n) z t.train.stash } }
def withStash (s : State) (die n : Nat) (f : StashState → StashState) : State :=
  withTabOfDie s die (fun t => putStash t die n (f (stashOf t die n)))
def stashEntry (t : Tablature) (n : Nat) : StashEnt := nth ((t.dir.map (·.stashes)).getD []) n {}
def slotOff (e : StashEnt) (v : Nat) : Nat := if v % 2 = 0 then e.slot0 else e.slot1

/-! ### Which cores read a stream -/

/-- The readers of a credited block: the cores of a multicast block's delivery set, or 64 for the one position that the cores share
in issue order (R313, R314). -/
def readersOf (mask : Option Nat) : List Nat :=
  match mask with
  | some m => members m 64
  | none => [64]

/-! ### Endpoints and blocks -/

def isHost (e : StreamEnt) : Bool := e.endpoint == 0 || e.endpoint == 1
/-- Endpoint traffic that the regulator counts (R322). -/
def isCounted (e : StreamEnt) : Bool := decide (e.endpoint ≤ 4)

def descBytes (d : BlockDesc) : Nat := d.rowBytes * d.rows * d.planes

/-- Bytes of a TAB, ACT or STASH stream's region. -/
def regionLen (t : Tablature) (e : StreamEnt) : Nat := if e.endpoint = 4 then (stashEntry t e.stash).bytes else regionBytes e

/-- Block `n` is bad: a header, a descriptor or an access of it or of an earlier block failed (R228, R310). -/
def isBad (st : StreamSt) (n : Nat) : Bool := st.badFrom.any (fun k => decide (k ≤ n))

/-- Length of block `n` as the endpoint cuts it; `none` where no such block is known. -/
def endpointLen (t : Tablature) (e : StreamEnt) (st : StreamSt) (n : Nat) : Option Nat :=
  if isHost e then
    match st.cache[n - st.fetchNo]? with
    | some d => some (descBytes d)
    | none => if isBad st n then some (blockBytes e) else none
  else if e.endpoint = 5 ∨ e.endpoint = 6 then some (blockBytes e)
  else
    let r := regionLen t e
    if n * blockBytes e < r then some (min (blockBytes e) (r - n * blockBytes e)) else none

/-- The first position after `pos` at which FLUSH ends a block. -/
def cutAfter (cuts : List (Nat × Nat × Nat)) (pos : Nat) : Option Nat :=
  (cuts.filter (fun c => decide (pos < c.1))).foldl (fun a c => some (match a with
    | some b => min b c.1
    | none => c.1)) none

/-- What lets a block ending at `stop` be written without credit: a FLUSH writes out the blocks that the stream holds, the partly
filled last one among them, in its version (R241, R294, R313; DEDUCED, log entry 112). -/
def flushOf (cuts : List (Nat × Nat × Nat)) (stop : Nat) : Option Credit :=
  (cuts.find? (fun c => decide (stop ≤ c.1))).map (fun c => { order := c.2.1, left := 0, ver := c.2.2 })

/-- A FLUSH has blocks left to write. -/
def flushLeft (st : StreamSt) : Bool := st.cuts.any (fun c => decide (st.fetchPos < c.1))

/-- Length of an output block that begins at `pos`, cut where FLUSH ends it (R313). -/
def outLen (t : Tablature) (e : StreamEnt) (st : StreamSt) (n pos : Nat) : Option Nat :=
  (endpointLen t e st n).map (fun len => match cutAfter st.cuts pos with
    | some c => min len (c - pos)
    | none => len)

/-- The output block that holds position `p`: number, first byte, length. -/
def outBlockAt (t : Tablature) (e : StreamEnt) (st : StreamSt) (p : Nat) : Nat → Nat → Nat → Option (Nat × Nat × Nat)
  | 0, _, _ => none
  | fuel + 1, n, pos =>
    match outLen t e st n pos with
    | none => none
    | some len => if p < pos + len then some (n, pos, len) else outBlockAt t e st p fuel (n + 1) (pos + len)

/-! ### Buffers (R312, R318) -/

/-- The output blocks from the first unwritten one, block `n` at `pos`, to block `last`: number, first byte, length. -/
def outBlocks (t : Tablature) (e : StreamEnt) (st : StreamSt) (last : Nat) : Nat → Nat → Nat → List (Nat × Nat × Nat)
  | 0, _, _ => []
  | fuel + 1, n, pos =>
    if last < n then []
    else
      match outLen t e st n pos with
      | none => []
      | some len => (n, pos, len) :: outBlocks t e st last fuel (n + 1) (pos + len)

/-- The buffer that an input block on its way has taken (R318). -/
def moving (e : StreamEnt) (st : StreamSt) : Option Move := if e.dir then none else st.move

/-- Blocks that a stream holds; those of a LINK consumer belong to its producer (R317). -/
def heldBlocks (e : StreamEnt) (st : StreamSt) : Nat :=
  if e.endpoint = 5 ∧ !e.dir then 0 else st.blocks.length + (if (moving e st).isSome then 1 else 0)

/-- Free bytes of the shared part of a die's pool. -/
def sharedFree (s : State) (die : Nat) : Nat :=
  let t := tabOfDie s die
  let q := dieSeq s die
  let used := sumOf (q.streams.map (fun p =>
    let e := nth t.streams p.1 {}
    if e.endpoint = 5 ∧ !e.dir then 0
    else ((p.2.blocks.filter (·.inShared)).length + (if (moving e p.2).any (·.inShared) then 1 else 0)) * blockBytes e))
  streamPool s * 1048576 - reserveSum t die - used

/-- How a stream gets its next buffer: from its reserve (false) or from the shared part (true); `none`: it waits. -/
def bufferFor (s : State) (die n : Nat) (ahead : Bool) : Option Bool :=
  let e := streamEntry s die n
  let st := streamSt (dieSeq s die) n
  let held := heldBlocks e st
  if !ahead && decide (held < 2) then some false
  else if decide (held < e.maxHeld) && decide (blockBytes e ≤ sharedFree s die) then some true
  else none

/-- The lowest 16-bit handle that names no buffer of a die (R317; DESIGN CHOICE, log entry 114). -/
def freeHandle (q : DieSeq) : Nat :=
  let used := (q.streams.map (fun p => p.2.blocks.map (·.handle) ++ (p.2.move.map (·.handle)).toList)).flatten
  ((List.range (used.length + 1)).find? (fun h => !(used.contains h))).getD 0

/-- The smallest shared part seen in a run (R327). -/
def noteShared (s : State) (die : Nat) : State :=
  let f := sharedFree s die
  let m := match s.dense.sharedFreeMin with
    | some x => min x f
    | none => f
  { s with dense := { s.dense with sharedFreeMin := some m } }

/-! ### Credit (R313) -/

/-- Blocks credited by START and MCAST and not yet moved. -/
def creditLeft (st : StreamSt) : Nat := sumOf ((st.credit.filter (fun c => !c.ahead)).map (·.left))

/-- The credit that the next block uses: the oldest of START or MCAST, else PREFETCH. -/
def nextCredit (st : StreamSt) : Option Credit :=
  match st.credit.find? (fun c => !c.ahead && decide (0 < c.left)) with
  | some c => some c
  | none => st.credit.find? (fun c => c.ahead && decide (0 < c.left))

/-- The credit of the `i`-th block that is still to be moved. -/
def creditAt : List Credit → Nat → Option Credit
  | [], _ => none
  | c :: rest, i => if c.ahead then creditAt rest i else if i < c.left then some c else creditAt rest (i - c.left)

/-- Use one block of a slot's credit; a used-up slot is forgotten. -/
def useCredit (st : StreamSt) (order : Nat) : StreamSt :=
  let credit := st.credit.map (fun c => if c.order == order then { c with left := c.left - 1 } else c)
  { st with credit := credit.filter (fun c => decide (0 < c.left)) }

/-- Give a fetched block to its readers: the block's place in what each of them receives. -/
def deliverBlock (readers : List Nat) (order : Nat) (b : Block) (st : StreamSt) : Block × StreamSt :=
  let b := { b with prefetched := false, order := order, firsts := readers.map (fun k => (k, (look st.delivered k).getD 0)) }
  (b, { st with delivered := readers.foldl (fun d k => keep k ((look d k).getD 0 + b.len) d) st.delivered })

/-- A START or MCAST counts the blocks that PREFETCH has fetched, oldest first, toward its own (R313). -/
def countPrefetched (readers : List Nat) (order : Nat) : List Block → StreamSt → Nat → List Block × StreamSt × Nat
  | [], st, n => ([], st, n)
  | b :: r, st, n =>
    if b.prefetched && decide (0 < n) then
      let d := deliverBlock readers order b st
      let x := countPrefetched readers order r d.2 (n - 1)
      (d.1 :: x.1, x.2)
    else
      let x := countPrefetched readers order r st n
      (b :: x.1, x.2)

/-- A stream slot reaches the stream (R241, R313). `ver` and `copy` were fixed at its issue. -/
def takeSlot (order word ver : Nat) (copy : Bool) (st : StreamSt) : StreamSt :=
  match stOp word with
  | 3 => { st with credit := st.credit ++ [{ order := order, left := stCount word, ahead := true, ver := ver }] }
  | 4 => st
  | _ =>
    let mask := if stOp word = 2 then some (stMask word) else none
    let x := countPrefetched (readersOf mask) order st.blocks st (stCount word)
    let st := { x.2.1 with blocks := x.1 }
    if x.2.2 = 0 then st
    else { st with credit := st.credit ++ [{ order := order, left := x.2.2, mask := mask, ver := ver, copy := copy }] }

/-! ### Ordering conditions (R294, R315, R316) -/

/-- Two regions of the activation space share a byte. -/
def regionsMeet (a b : StreamEnt) : Bool :=
  decide (regionStart a < regionStart b + regionBytes b ∧ regionStart b < regionStart a + regionBytes a)

/-- An ACT stream moves a block only when every earlier slot of each overlapping stream has moved its blocks (R315). -/
def actOrderOk (s : State) (die n order : Nat) : Bool :=
  let t := tabOfDie s die
  let e := nth t.streams n {}
  e.endpoint != 3 ||
    (dieSeq s die).streams.all (fun p =>
      let f := nth t.streams p.1 {}
      p.1 == n || f.endpoint != 3 || !(e.dir || f.dir) || !(regionsMeet e f)
        || (p.2.credit.all (fun c => c.ahead || decide (order < c.order))
          && p.2.cuts.all (fun c => decide (c.1 ≤ p.2.fetchPos) || decide (order < c.2.1))))

/-- The scale block that covers a data block has been fetched (R316). -/
def scaleOk316 (s : State) (die n blockNo : Nat) (d : Option BlockDesc) : Bool :=
  let e := streamEntry s die n
  let idx := match d with
    | some d => if isHost e then d.scaleIdx else blockNo
    | none => blockNo
  !e.scaleValid || decide (idx < (streamSt (dieSeq s die) e.scaleStream).fetchNo)

/-- A read of a version waits until the UPDATE that makes it has delivered its last block (R294). -/
def versionReady (s : State) (die n ver : Nat) : Bool :=
  let e := streamEntry s die n
  e.endpoint != 4 || decide (ver ≤ (stashOf (tabOfDie s die) die e.stash).delivered)

/-! ### Copies -/

/-- Copy bytes with their marks (R324). -/
def copyBytes (src : Store) (sa : Nat) (dst : Store) (da n : Nat) : Store :=
  let marks := (linesOf da n).filter (fun l =>
    let lo := max da (l * 64)
    let hi := min (da + n) (l * 64 + 64)
    poisonedAt src.poison (sa + (lo - da)) (hi - lo))
  let base := markPoison dst.poison da n false
  { mem := writeBytes dst.mem da (readBytes src.mem sa n), poison := base ++ marks.filter (fun l => !base.contains l),
    hurt := markPoison dst.hurt da n false }

/-- An input block whose bytes are bad: undefined and poisoned. -/
def badStore (fill len : Nat) : Store := { mem := { fill := fill }, poison := linesOf 0 len }

/-! ### Transfers (R314) -/

/-- Every reader of the block has taken all of it; a delivery set without cores has. -/
def blockTaken (b : Block) : Bool := !b.prefetched && b.firsts.all (fun p => decide (b.len ≤ (look b.took p.1).getD 0))

/-- A block of an input stream that was released: the tag count of its BWD slot, the producer's handle (R294, R317). -/
def releaseBlock (s : State) (die n : Nat) (b : Block) : State :=
  let e := streamEntry s die n
  let s := withStream s die n (fun st =>
    { st with blocks := st.blocks.filter (fun x => x.no != b.no), handles := st.handles.filter (· != b.handle),
              bwd := st.bwd.map (fun w => if w.1 == b.order then (w.1, w.2.1, w.2.2 - 1) else w) })
  if e.endpoint = 5 then
    withStream s die e.linkFrom (fun st => { st with blocks := st.blocks.filter (fun x => x.no != b.no) })
  else s

/-- Free the tag registers of BWD slots whose blocks have all been taken, once every macro that read them has completed (R294). -/
def freeTags (s : State) (die n : Nat) : State :=
  let e := streamEntry s die n
  let q := dieSeq s die
  let taken (w : Nat × Nat × Nat) : Bool := w.2.2 == 0 && !(q.macros.any (fun m => m.stream == n && m.read.contains w.1))
  let s := ((streamSt q n).bwd.filter taken).foldl (fun s w => withStash s die e.stash (fun x => { x with tags := x.tags.set w.2.1 none })) s
  withStream s die n (fun st => { st with bwd := st.bwd.filter (fun w => !(taken w)) })

/-- Release the blocks of an input stream that nobody has left to take. -/
def releaseTaken (s : State) (die n : Nat) : State :=
  if (streamEntry s die n).dir then s
  else
    match (streamSt (dieSeq s die) n).blocks.filter blockTaken with
    | [] => s
    | bs => freeTags (bs.foldl (fun s b => releaseBlock s die n b) s) die n

/-- Take `n` bytes at `off` of a block for a reader. -/
def takeBytes (s : State) (die n : Nat) (b : Block) (reader k : Nat) : State :=
  let b := { b with took := keep reader ((look b.took reader).getD 0 + k) b.took }
  let s := withStream s die n (fun st => { st with blocks := st.blocks.map (fun x => if x.no == b.no then b else x) })
  if blockTaken b then releaseBlock s die n b else s

/-- The block that holds a reader's position. -/
def blockFor (st : StreamSt) (reader p : Nat) : Option (Block × Nat) :=
  (st.blocks.find? (fun b => match look b.firsts reader with
    | some f => decide (f ≤ p ∧ p < f + b.len)
    | none => false)).bind (fun b => (look b.firsts reader).map (fun f => (b, f)))

/-- Allocate the buffer of an output block when a transfer first writes to it. Blocks get their buffers in order, so that the oldest
is never left without (R318, R319): a later one takes buffers for those before it too. -/
def outBuffer (s : State) (die n no : Nat) : Option State :=
  let st := streamSt (dieSeq s die) n
  let want := (outBlocks (tabOfDie s die) (streamEntry s die n) st no 65 st.fetchNo st.fetchPos).filter (fun x =>
    !(st.early.contains x.1) && !(st.blocks.any (fun b => b.no == x.1)))
  want.foldl (fun o x => o.bind (fun s => (bufferFor s die n false).map (fun sh =>
    noteShared (withStream s die n (fun st => { st with
      blocks := st.blocks ++ [{ no := x.1, len := x.2.2, handle := freeHandle (dieSeq s die), inShared := sh }] })) die))) (some s)

/-- Write `k` bytes into an output block; once it is filled, its handle goes to the stream engine (R317). -/
def fillBlock (no k : Nat) (data : Store → Store) (st : StreamSt) : StreamSt :=
  let blocks := st.blocks.map (fun b => if b.no == no then { b with data := data b.data, filled := b.filled + k } else b)
  { st with blocks := blocks,
            handles := st.handles ++ ((blocks.filter (fun b => b.no == no && decide (b.len ≤ b.filled)
              && !(st.handles.contains b.handle))).map (·.handle)) }

/-- The bytes that a core's input XFER takes next: of a block multicast to it, or of the blocks that the cores share, whichever
comes first in the stream. Answers the reader, its position and the bytes left in the block. -/
def nextBytes (st : StreamSt) (core : Nat) : Option (Nat × Nat × Nat) :=
  let at_ (reader : Nat) : Option (Nat × Nat × Nat × Nat) :=
    let p := (look st.claims reader).getD 0
    (blockFor st reader p).map (fun x => (x.1.no, reader, p, x.2 + x.1.len - p))
  match at_ core, at_ 64 with
  | some a, some b => some (if a.1 < b.1 then a.2 else b.2)
  | some a, none => some a.2
  | none, some b => some b.2
  | none, none => none

/-- Give an XFER of `core` ranges of the stream up to `need` bytes; shared bytes only where `share` holds. Answers the ranges. -/
def assignBytes : Nat → Nat → Bool → Nat → StreamSt → List (Nat × Nat × Nat) × StreamSt
  | 0, _, _, _, st => ([], st)
  | fuel + 1, core, share, need, st =>
    match nextBytes st core with
    | none => ([], st)
    | some (reader, p, left) =>
      if need = 0 ∨ (reader = 64 ∧ share = false) then ([], st)
      else
        let k := min need left
        let r := assignBytes fuel core share (need - k) { st with claims := keep reader (p + k) st.claims }
        ((reader, p, k) :: r.1, r.2)

/-- Bytes of a macro's ranges. -/
def partBytes (m : Macro) : Nat := sumOf (m.parts.map (fun p => p.2.2))

/-- Fix the ranges of the input XFERs of a stream, in issue order: one takes shared bytes once every earlier one has its whole range
(R314). -/
def assignXfers (s : State) (die n : Nat) : State :=
  let q := dieSeq s die
  let ms := q.macros.filter (fun m => m.unit == .t && m.stream == n && !(tDirOut m.desc))
  let r := ms.foldl (fun (x : StreamSt × Bool × List (Nat × List (Nat × Nat × Nat))) m =>
    let need := tBytes m.desc - partBytes m
    let a := assignBytes 256 m.core x.2.1 need x.1
    let got := sumOf (a.1.map (fun p => p.2.2))
    (a.2, x.2.1 && decide (need ≤ got), x.2.2 ++ [(m.core, a.1)])) (streamSt q n, true, [])
  let s := withStream s die n (fun _ => r.1)
  r.2.2.foldl (fun s p => if p.2 = [] then s else withMacro s die p.1 .t (fun m => { m with parts := m.parts ++ p.2 })) s

/-- Where byte `got` of a macro's ranges lies: reader, position, bytes left in the range. -/
def partAtByte : List (Nat × Nat × Nat) → Nat → Option (Nat × Nat × Nat)
  | [], _ => none
  | p :: r, got => if got < p.2.2 then some (p.1, p.2.1 + got, p.2.2 - got) else partAtByte r (got - p.2.2)

/-- Copy what an XFER can copy now. -/
def pullMacro : Nat → State → Nat → Nat → State
  | 0, s, _, _ => s
  | fuel + 1, s, die, core =>
    match macroOn (dieSeq s die) core .t with
    | none => s
    | some m =>
      let d := m.desc
      let n := m.stream
      let total := tBytes d
      if m.started = none ∨ total ≤ m.got then s
      else
        let t := tabOfDie s die
        let st := streamSt (dieSeq s die) n
        let c := coreOf s die core
        if tDirOut d then
          let p := m.off + m.got
          match outBlockAt t (nth t.streams n {}) st p 65 st.fetchNo st.fetchPos with
          | none => s
          | some (no, first, len) =>
            match outBuffer s die n no with
            | none => s
            | some s =>
              let k := min (first + len - p) (total - m.got)
              let s := withStream s die n (fillBlock no k (fun b => copyBytes c.store (tAddr d + m.got) b (p - first) k))
              pullMacro fuel (withMacro s die core .t (fun m => { m with got := m.got + k })) die core
        else
          match partAtByte m.parts m.got with
          | none => s
          | some (reader, p, left) =>
            match blockFor st reader p with
            | none => s
            | some (b, first) =>
              let k := min (first + b.len - p) left
              let s := setCore s die core { c with store := copyBytes b.data (p - first) c.store (tAddr d + m.got) k }
              let s := takeBytes s die n b reader k
              pullMacro fuel (withMacro s die core .t (fun m => { m with got := m.got + k, read := addOnce m.read b.order })) die core

/-! ### Activation space and tablature area -/

def areaOf (t : Tablature) (die : Nat) : Store := (look t.area die).getD {}
def actOf (t : Tablature) (die : Nat) : Store := (look t.act die).getD {}

/-- The bytes that a near-memory endpoint holds for block `no` of a credit's version. -/
def nearSource (t : Tablature) (die : Nat) (e : StreamEnt) (no ver : Nat) : Store × Nat :=
  if e.endpoint = 3 then (actOf t die, regionStart e + no * blockBytes e)
  else if e.endpoint = 4 then (areaOf t die, slotOff (stashEntry t e.stash) ver + no * blockBytes e)
  else (areaOf t die, regionStart e + no * blockBytes e)

/-! ### The next block of a stream (R313, R315, R316, R321) -/

/-- The core whose stream engine issues the requests of a stream (R305, R321). -/
def reqCore (die : Nat) (e : StreamEnt) : Nat := 64 * die + e.issueCore

/-- A block of a stream is on its way. -/
def inFlight (s : State) (die n : Nat) : Bool := (streamSt (dieSeq s die) n).move.isSome

/-- The input block of a stream that is on its way, or that may be fetched next: its credit, its length and whether its buffer is of the
shared part. After HALT no further PREFETCH fetch begins (R320, R326). -/
def inputReady (s : State) (die n : Nat) : Option (Credit × Nat × Bool) :=
  let t := tabOfDie s die
  let e := nth t.streams n {}
  let q := dieSeq s die
  let st := streamSt q n
  if e.dir || e.endpoint == 5 || e.die != die then none
  else
    match nextCredit st, endpointLen t e st st.fetchNo with
    | some c, some len =>
      match st.move with
      | some v => some (c, len, v.inShared)
      | none =>
        if actOrderOk s die n c.order && scaleOk316 s die n st.fetchNo (if isHost e then st.cache.head? else none)
            && versionReady s die n c.ver && (!c.ahead || q.wait != .halted) then
          (bufferFor s die n c.ahead).map (fun sh => (c, len, sh))
        else none
    | _, _ => none

/-- The host rows of a block's descriptor, in block order (R309). -/
def descRows (d : BlockDesc) : List Nat :=
  ((List.range d.planes).map (fun p => (List.range d.rows).map (fun r => d.addr + p * d.planeStride + r * d.rowStride))).flatten

/-- Two blocks write a common host byte. -/
def rowsMeet (a b : BlockDesc) : Bool :=
  (descRows a).any (fun x => (descRows b).any (fun y => decide (x < y + b.rowBytes ∧ y < x + a.rowBytes)))

/-- A block may be written before earlier ones: it shares no destination byte with them, so that block order holds where destinations
overlap (R309); a LINK producer's handles keep the order of the blocks (R317). -/
def mayPass (e : StreamEnt) (st : StreamSt) (no : Nat) : Bool :=
  let at_ (k : Nat) : Option BlockDesc := st.cache[k - st.fetchNo]?
  no == st.fetchNo || (e.endpoint != 5 && (!(isHost e) ||
    ((List.range no).filter (fun k => decide (st.fetchNo ≤ k) && !(st.early.contains k))).all (fun k =>
      isBad st no || (match at_ k, at_ no with
        | some a, some b => !(rowsMeet a b)
        | _, _ => false))))

/-- The output block of a stream that is on its way, or that may be written next: filled, and credited or flushed, whichever earlier
blocks wait (R313). -/
def outputReady (s : State) (die n : Nat) : Option (Credit × Nat × Block) :=
  let t := tabOfDie s die
  let e := nth t.streams n {}
  let st := streamSt (dieSeq s die) n
  let ready (b : Block) : Option (Credit × Nat × Block) :=
    match (outBlocks t e st b.no 65 st.fetchNo st.fetchPos).getLast? with
    | none => none
    | some (no, pos, len) =>
      match (creditAt st.credit (b.no - st.fetchNo)).orElse (fun _ => flushOf st.cuts (pos + len)) with
      | none => none
      | some c =>
        if no = b.no ∧ len ≤ b.filled ∧ mayPass e st b.no && actOrderOk s die n c.order then some (c, len, b) else none
  if !e.dir || e.die != die then none
  else (st.blocks.filter (fun b => decide (st.fetchNo ≤ b.no) && st.move.all (fun v => v.no == b.no))).findSome? ready

/-- Memory requests that a block of a stream takes; none for a block that is bad. -/
def blockReqs (t : Tablature) (die : Nat) (e : StreamEnt) (st : StreamSt) (no len ver : Nat) : List (Nat × Nat) :=
  if isBad st no || !(isCounted e) then []
  else if isHost e then
    match st.cache[no - st.fetchNo]? with
    | none => []
    | some d => ((descRows d).map (fun a => reqRuns a d.rowBytes)).flatten
  else reqRuns (nearSource t die e no ver).2 len

/-- A block sets out: an input block takes its buffer (R318), and the requests are issued as far as the core's limit and the regulator
admit (R321, R322). -/
def beginMove (s : State) (die n len ver : Nat) (v : Move) : State :=
  let t := tabOfDie s die
  let e := nth t.streams n {}
  let st := streamSt (dieSeq s die) n
  let s := noteShared (withStream s die n (fun st => { st with move := some v })) die
  beginReqs s (reqCore die e) (.stream die n) (blockReqs t die e st v.no len ver)

/-- Every block that may set out does. -/
def beginBlocks (s : State) (die : Nat) : State :=
  ((dieSeq s die).streams.map Prod.fst).foldl (fun s n =>
    let e := nth (tabOfDie s die).streams n {}
    let q := dieSeq s die
    if inFlight s die n || e.endpoint == 5 then s
    else if e.dir then
      match outputReady s die n with
      | some (c, len, b) => beginMove s die n len c.ver { no := b.no, handle := b.handle, inShared := b.inShared }
      | none => s
    else
      match inputReady s die n with
      | some (c, len, sh) => beginMove s die n len c.ver { no := (streamSt q n).fetchNo, handle := freeHandle q, inShared := sh }
      | none => s) s

/-! ### LINK pairs (R306, R317) -/

/-- Push the handle of the next filled and credited block of a LINK producer onto its consumer's queue. -/
def linkPush : Nat → State → Nat → Nat → Nat → State
  | 0, s, _, _, _ => s
  | fuel + 1, s, die, from_, n =>
    match outputReady s die from_ with
    | none => s
    | some (c, len, b) =>
      let s := withStream s die from_ (fun st =>
        { useCredit st c.order with fetchNo := st.fetchNo + 1, fetchPos := st.fetchPos + len, handles := st.handles.filter (· != b.handle) })
      let s := withStream s die n (fun st => { st with handles := st.handles ++ [b.handle] })
      let s := if b.data.poison = [] then s else withRunOf s die (fun r => { r with poison := true })
      linkPush fuel s die from_ n

/-- Every LINK pair of a die. -/
def linkAll (s : State) (die : Nat) : State :=
  ((tabOfDie s die).streams.zipIdx.filter (fun p => p.1.die == die && p.1.endpoint == 5 && !p.1.dir)).foldl
    (fun s p => linkPush 65 s die p.1.linkFrom p.2) s

/-! ### Descriptor bursts (R310) -/

/-- The fetcher reads a further burst for a stream: 32 or more cache entries free, and credit beyond the descriptors held. -/
def wantsBurst (e : StreamEnt) (st : StreamSt) : Bool :=
  isHost e && st.badFrom.isNone && decide (st.cache.length ≤ 32) && decide (st.cache.length < sumOf (st.credit.map (·.left)))
    && !(st.listLeft == 0 && st.listNext == 0)

/-- Begin bursts round-robin from the stream after the one served last, at most 64 in flight on a die. -/
def beginBursts (now : Nat) (t : Tablature) (q : DieSeq) : DieSeq :=
  let ns := q.streams.map Prod.fst
  let round := ns.filter (fun n => decide (q.turn < n)) ++ ns.filter (fun n => decide (n ≤ q.turn))
  round.foldl (fun q n =>
    if q.bursts.length < 64 ∧ !(q.bursts.contains n) ∧ wantsBurst (nth t.streams n {}) (streamSt q n) then
      { q with bursts := q.bursts ++ [n], burstAt := keep n now q.burstAt, turn := n }
    else q) q

/-! ### Waits for the shared part (R318, R328) -/

/-- Some stream at or above its reserve waits for the shared part of the pool. -/
def poolWaits (s : State) (die : Nat) : Bool :=
  let t := tabOfDie s die
  let q := dieSeq s die
  let short (n : Nat) : Bool :=
    let e := nth t.streams n {}
    let held := heldBlocks e (streamSt q n)
    decide (2 ≤ held ∧ held < e.maxHeld) && decide (sharedFree s die < blockBytes e)
  q.streams.any (fun p =>
    let e := nth t.streams p.1 {}
    !e.dir && e.endpoint != 5 && p.2.move.isNone && (nextCredit p.2).isSome && (endpointLen t e p.2 p.2.fetchNo).isSome && short p.1)
    || q.macros.any (fun m => m.unit == .t && tDirOut m.desc && m.started.isSome && decide (m.got < tBytes m.desc) &&
      (match outBlockAt t (nth t.streams m.stream {}) (streamSt q m.stream) (m.off + m.got) 65 (streamSt q m.stream).fetchNo
          (streamSt q m.stream).fetchPos with
       | some x => !((streamSt q m.stream).blocks.any (fun b => b.no == x.1)) && short m.stream
       | none => false))

/-- Count the NCLK cycles of such waits (POOL_WAIT_CYCLES). -/
def notePool (s : State) (die : Nat) : State :=
  match (dieSeq s die).poolSince, poolWaits s die with
  | none, true => withDie s die (fun q => { q with poolSince := some s.time.tick })
  | some t, false => bump (withDie s die (fun q => { q with poolSince := none })) 0x63 (nclkOf (s.time.tick - t))
  | _, _ => s

/-- NCLK cycles of a die's present wait for the shared part. -/
def poolWaited (s : State) (die : Nat) : Nat :=
  match (dieSeq s die).poolSince with
  | some t => nclkOf (s.time.tick - t)
  | none => 0

/-- What follows by itself once streams have changed: handles pass along LINK pairs, bursts and transfers begin, waits count. -/
def settle (s : State) (die : Nat) : State :=
  let s := linkAll s die
  let s := withDie s die (beginBursts s.time.tick (tabOfDie s die))
  notePool (beginBlocks s die) die

/-- Let every started XFER of a die copy what it can. -/
def pullAll (s : State) (die : Nat) : State :=
  let q := dieSeq s die
  let s := ((q.macros.filter (fun m => m.unit == .t && !(tDirOut m.desc))).map (·.stream)).eraseDups.foldl
    (fun s n => assignXfers s die n) s
  settle ((List.range 64).foldl (fun s c => pullMacro 256 s die c) s) die

/-- Move every queued stream slot to its stream, in issue order. A queue entry holds its order with version and copy
(order · 2 + copy) and (version · 2^96 + slot word). -/
def drainQueues (s : State) (die : Nat) : State :=
  let all := sortBy (fun a b => decide (a.1 ≤ b.1)) (dieSeq s die).queues.flatten
  let s := all.foldl (fun s p =>
    let word := p.2 % 2 ^ 96
    withStream s die (stStream word) (takeSlot (p.1 / 2) word (p.2 / 2 ^ 96) (p.1 % 2 == 1))) s
  let s := withDie s die (fun q => { q with queues := [[], [], [], []] })
  settle (((dieSeq s die).streams.map Prod.fst).foldl (fun s n => releaseTaken s die n) s) die

/-! ### Draining (R239, R320) -/

/-- Every credited or flushed block of every stream of the die has moved and is released, a LINK producer's by its consumer (R317). -/
def streamsDrained (s : State) (die : Nat) : Bool :=
  let t := tabOfDie s die
  let q := dieSeq s die
  q.queues.all (fun l => l.all (fun p => stOp (p.2 % 2 ^ 96) == 3 || stOp (p.2 % 2 ^ 96) == 4))
    && q.streams.all (fun p =>
      let e := nth t.streams p.1 {}
      creditLeft p.2 == 0 && !(e.dir && flushLeft p.2)
        && p.2.blocks.all (fun b => if e.dir then decide (p.2.fetchNo ≤ b.no) else b.prefetched))

def drained (s : State) (die : Nat) : Bool := (dieSeq s die).macros.isEmpty && streamsDrained s die

end Sys2Proof.Machine
end

