-- ==== Sys2Proof/Machine/TrainOps.lean ====
section
/-!
DEFINITION. Fine-tuning: governed scales, histories, layer factors, gradient exponents and stash versions (R278-R296).
-/
namespace Sys2Proof.Machine

/-- The command of a run is a TUNE_STEP. -/
def isTune (r : Run) : Bool := cOpcode r.word == 0x31

/-- Spans and tensor records of a tablature. -/
def spansOf (t : Tablature) : List Span := (t.dir.map (·.spans)).getD []
def tensorsOf (t : Tablature) : List TensorRec := (t.dir.map (·.tensors)).getD []
def stashesOf (t : Tablature) : List StashEnt := (t.dir.map (·.stashes)).getD []

/-- The span that holds a line of a die. -/
def spanAt (t : Tablature) (die line : Nat) : Option Nat :=
  (List.range (spansOf t).length).find? (fun k => match (spansOf t)[k]? with
    | some sp => decide (nth sp.first die 0 ≤ line ∧ line ≤ nth sp.last die 0)
    | none => false)

def spanNo (t : Tablature) (k : Nat) : Option Span := (spansOf t)[k]?

/-- Keys of training records: a tensor record of a die, of a core, a channel of it. -/
def recKey (die n : Nat) : Nat := die * 4096 + n
def coreKey (die n core : Nat) : Nat := recKey die n * 64 + core
def chanKey (die n core ch : Nat) : Nat := coreKey die n core * 4096 + ch

/-- A core slot of a line converts through the scale tensor at `addr` (R281): an EPI by OSC_ADDR, a VEC CVT by SRC2. -/
def convertsAt (descs : List Nat) (addr x : Nat) : Bool :=
  let d := nth descs (csDesc x) 0
  (csOp x == 4 && eOsc d == addr) || (csOp x == 6 && vFn d == 7 && vSrc2 d == addr)

/-- The cores of a die that convert a tensor record's tensor: some line of a span that has the record does so on the core. The
channels of the other cores never get a history entry (R281, R286; DEDUCED, log entry 71). -/
def coresOf (t : Tablature) (die n : Nat) (x : TensorRec) : List Nat :=
  let img := (look t.dies die).getD {}
  let spans := (spansOf t).filter (fun sp => decide (sp.tFirst ≤ n ∧ n < sp.tFirst + sp.tCount))
  (members img.coreMask 64).filter (fun c => spans.any (fun sp =>
    ((img.lines.take (nth sp.last die 0 + 1)).drop (nth sp.first die 0)).any (fun l =>
      convertsAt img.descs x.scaleAddr (lnCore l c))))

/-- A tensor record's tensor uses PRESENT mode in the step, on every die (R281, R286): by its record, by FORCE_PRESENT, after a value
that was not finite or an underflow, or where a channel of any core of any die has no filled history entry. -/
def usesPresent (r : Run) (t : Tablature) (n : Nat) (x : TensorRec) : Bool :=
  x.mode == 0 || r.step.force || t.train.present.contains n
    || t.dies.any (fun d => (coresOf t d.1 n x).any (fun core =>
      (List.range x.channels).any (fun ch => (look t.train.hist (chanKey d.1 n core ch)).getD [] == [])))

/-- The largest filled history entry of a channel. -/
def histMax (t : Tablature) (die core n ch : Nat) : FV :=
  ((look t.train.hist (chanKey die n core ch)).getD []).foldl (fun a w => fmax a (d32 w)) (.fin false 0 0)

/-- The governed tensor of a conversion through scale tensor `addr` in a span (R281). -/
def governOf (r : Run) (t : Tablature) (die core addr fmt cols : Nat) (span : Option Nat) : Option Gov :=
  match span.bind (spanNo t) with
  | none => none
  | some sp =>
    if addr = 0 ∨ !(isTune r) then none
    else
      (List.range sp.tCount).foldl (fun found k =>
        match found with
        | some g => some g
        | none =>
          let n := sp.tFirst + k
          match (tensorsOf t)[n]? with
          | none => none
          | some x =>
            if x.scaleAddr = addr then
              let present := usesPresent r t n x
              some { recNo := n, margin := x.margin,
                     delayed := (List.range cols).map (fun ch =>
                       if present then none else some (e32 (govScale fmt x.margin (histMax t die core n ch)))) }
            else none) none

/-- Record a governed conversion in the step and its pass (R286-R288). -/
def noteGoverned (die core tick : Nat) (g : GovOut) (r : Run) : Run :=
  let st := r.step
  let keyed := g.maxima.zipIdx
  let maxima := keyed.foldl (fun m p =>
    let k := chanKey die g.recNo core p.2
    let old := d32 ((look m k).getD 0)
    keep k (e32 (fmax old (d32 p.1.1))) m) st.maxima
  let bad := (keyed.filter (fun p => p.1.2)).map (fun p => chanKey die g.recNo core p.2)
  let r := { r with step := { st with
    maxima := maxima, notFinite := st.notFinite ++ bad.filter (fun k => !st.notFinite.contains k) } }
  let k := recKey die g.recNo
  { r with dies := alter r.dies die (fun q => { q with pass := q.pass.map (fun p =>
      { p with nonzero := keep k ((look p.nonzero k).getD 0 + g.nonzero) p.nonzero,
               under := keep k ((look p.under k).getD 0 + g.under) p.under,
               overflow := match p.overflow, g.overflow with
                 | none, some i => if p.rung = 0 then some (tick, i) else none
                 | o, _ => o }) }) }

/-- Record an epilogue of a span in the pass of that span (R288, R293). -/
def noteEpilogue (die tick : Nat) (span : Option Nat) (nonfinite : Nat) (top : FV) (r : Run) : Run :=
  { r with dies := alter r.dies die (fun q => { q with pass := q.pass.map (fun p =>
      if span ≠ some p.span then p
      else
        { p with
          gradMax := e32 (fmax (d32 p.gradMax) top),
          nonfinite := p.nonfinite || (decide (0 < nonfinite) && p.rung == 1),
          overflow := match p.overflow with
            | none => if 0 < nonfinite ∧ p.rung = 0 then some (tick, 3) else none
            | o => o }) }) }

/-! ### Layer factors (R292, R293) -/

def gradExpOf (t : Tablature) (layer : Nat) : Int := (look t.train.gradExp layer).getD 0

/-- The layers that have a BACKWARD span, with its learning-rate multiplier. -/
def backwardLayers (t : Tablature) : List (Nat × W32) :=
  (spansOf t).foldl (fun l sp => if sp.role = 2 ∧ (look l sp.layer).isNone then keep sp.layer sp.lrMult l else l) []

/-- LR_EFF of a layer (R292). -/
def lrEff (eta mult : W32) (e : Int) : W32 := e32 (mul32 (mul32 (d32 eta) (d32 mult)) (pow2 (-e)))

/-- The channels of DELAYED tensors whose SCALE is 2^-126 for a history maximum of 0, derived at the start of the step (R284,
R286). -/
def zeroDelayed (r : Run) (t : Tablature) : Nat :=
  sumOf (t.dies.map (fun d => sumOf ((tensorsOf t).zipIdx.map (fun p =>
    if usesPresent r t p.2 p.1 then 0
    else sumOf ((coresOf t d.1 p.2 p.1).map (fun c =>
      ((List.range p.1.channels).filter (fun ch => (histMax t d.1 c p.2 ch).isZero)).length))))))

/-- Write GSCALE and LR_EFF into the core store of every core of the run (R292); every layer starts at rung 0 (R290). -/
def writeFactors (s : State) (r : Run) : State :=
  let t := tabNo s r.tab
  let eta : W32 := BitVec.ofNat 32 (nth r.args 1 0)
  let basis := (t.dir.map (·.factorBase)).getD 0
  let facts := (backwardLayers t).map (fun p =>
    (p.1, e32 (pow2 (gradExpOf t p.1)), lrEff eta p.2 (gradExpOf t p.1)))
  let s := t.dies.foldl (fun s d => (members d.2.coreMask 64).foldl (fun s c =>
    let k := coreOf s d.1 c
    let m := facts.foldl (fun m f => writeBytes (writeBytes m (basis + 8 * f.1) (leBytes 4 f.2.1.toNat))
      (basis + 8 * f.1 + 4) (leBytes 4 f.2.2.toNat)) k.store.mem
    setCore s d.1 c { k with store := { k.store with mem := m } }) s) s
  withTab s r.tab (fun t => { t with train := { t.train with lrEff := facts.map (fun f => (f.1, f.2.2)), rung := [] } })

/-- The smallest k with 2^k ≥ a, for a finite a that is not 0. -/
def ceilExp (a : FV) : Int :=
  let k := fexp2 a
  if fle a (pow2 k) then k else k + 1

/-- The gradient exponent for the next step (R293). -/
def nextGradExp (target : Nat) (e : Int) (top : FV) : Int :=
  if !top.isFinite then max (e - 8) (-64)
  else if top.isZero then e
  else max (-64) (min 64 ((target : Int) - ceilExp (fmul top (pow2 (-e)))))

/-! ### Completion of a step (R286, R287, R293, R296) -/

/-- Where slot `h` of a channel lies in the activation space of its die (R281). -/
def histAddr (t : Tablature) (x : TensorRec) (core h ch : Nat) : Nat :=
  (t.dir.map (·.histBase)).getD 0 + x.histOff + 4 * ((core * x.history + h) * x.channels + ch)

/-- Write the step's value of a channel into its next history slot, in the training state and in the history area. -/
def pushHistory (t : Tablature) (die core n ch : Nat) (x : TensorRec) (v : W32) : Tablature :=
  let k := chanKey die n core ch
  let h := (look t.train.histAt k).getD 0
  let list := (v :: (look t.train.hist k).getD []).take x.history
  let a := histAddr t x core h ch
  { t with
    act := alter t.act die (fun st => { st with mem := writeBytes st.mem a (leBytes 4 v.toNat) }),
    train := { t.train with hist := keep k list t.train.hist, histAt := keep k ((h + 1) % x.history) t.train.histAt } }

/-- The histories of the training state stand in the history areas, whatever became of the rest of the activation space (R278,
R296). -/
def placeHistories (t : Tablature) : Tablature :=
  t.train.hist.foldl (fun t p =>
    let ch := p.1 % 4096
    let core := p.1 / 4096 % 64
    let n := p.1 / (4096 * 64) % 4096
    match (tensorsOf t)[n]? with
    | none => t
    | some x =>
      let next := (look t.train.histAt p.1).getD 0
      { t with act := alter t.act (p.1 / (4096 * 64 * 4096)) (fun st => { st with
          mem := p.2.zipIdx.foldl (fun m v =>
            writeBytes m (histAddr t x core ((next + 2 * x.history - 1 - v.2) % x.history) ch) (leBytes 4 v.1.toNat)) st.mem }) }) t

/-- Write back every channel that the step has seen. -/
def writeHistories (r : Run) (t : Tablature) : Tablature :=
  r.step.maxima.foldl (fun t p =>
    let ch := p.1 % 4096
    let core := p.1 / 4096 % 64
    let n := p.1 / (4096 * 64) % 4096
    let die := p.1 / (4096 * 64 * 4096)
    match (tensorsOf t)[n]? with
    | none => t
    | some x =>
      if r.step.notFinite.contains p.1 ∨ x.channels ≤ ch then t else pushHistory t die core n ch x p.2) t

/-- The tensor records of a die that used DELAYED mode and left too many values at zero (R287). -/
def underflowed (r : Run) (t : Tablature) : List (Nat × Nat) :=
  (r.step.nonzero.filter (fun p =>
    let n := p.1 % 4096
    let u := (look r.step.under p.1).getD 0
    decide (u * 1000000 > r.step.ppm * p.2)
      && (match (tensorsOf t)[n]? with
          | some x => !(usesPresent r t n x)
          | none => false))).map (fun p => (p.1 / 4096, p.1 % 4096))

/-- The layer of a tensor record. -/
def layerOfTensor (t : Tablature) (n : Nat) : Nat :=
  (((spansOf t).find? (fun sp => decide (sp.tFirst ≤ n ∧ n < sp.tFirst + sp.tCount))).map (·.layer)).getD 0

/-- A stash entry between steps: every tag register free, and no skip flag, which is no part of the training state (R278, R296). -/
def idleStash (v : Nat) (z : StashState) : StashState :=
  { z with v := v, delivered := v, tags := List.replicate 16 none, skip := false }

/-- Leave every stash entry idle, at its version. -/
def clearTags (t : Tablature) : Tablature :=
  { t with train := { t.train with stash := t.train.stash.map (fun p => (p.1, idleStash p.2.v p.2)) } }

/-- A TUNE_STEP that completed with OK or PARTIAL_POISON (R286, R287, R293, R296). -/
def stepDone (s : State) (r : Run) : State :=
  let t := tabNo s r.tab
  let low := underflowed r t
  let t1 := writeHistories r t
  let present := (r.step.notFinite.map (· / (4096 * 64) % 4096) ++ low.map (fun (p : Nat × Nat) => p.2)).eraseDups
  let exps := (backwardLayers t).map (fun p =>
    (p.1, nextGradExp r.step.target (gradExpOf t p.1) (d32 ((look r.step.gradMax p.1).getD 0))))
  let t2 := clearTags { t1 with train := { t1.train with present := present, gradExp := exps } }
  let s := withTab s r.tab (fun _ => t2)
  let s := low.foldl (fun s p => raise (bump s 0x55 1) 0x0401 1 2 p.1 (args := [p.1, p.2, layerOfTensor t p.2])) s
  setCtl (setCtl s 0x710006 0 (dStep r.word)) 0x710007 0 (min r.step.replays 65535)

/-- Versions go back to the highest one whose UPDATE delivered all its blocks, tags are freed, histories stand as before the step
(R296). -/
def stepUndone (s : State) (r : Run) : State :=
  withTab s r.tab (fun t => placeHistories
    { t with train := { t.train with stash := t.train.stash.map (fun p => (p.1, idleStash p.2.delivered p.2)) } })

/-- A command other than a TUNE_STEP leaves the training state as it found it: versions, slot contents, histories (R278). -/
def stashKept (s : State) (r : Run) : State :=
  withTab s r.tab (fun t => placeHistories
    { t with
      area := r.kept.foldl (fun l p => keep p.1 p.2 l) t.area,
      train := { t.train with stash := t.train.stash.map (fun p => (p.1, idleStash ((look r.step.startV p.1).getD 0) p.2)) } })

/-! ### Learned scales (R295) -/

/-- Correct an entry of a learned scale tensor; the counts are UNDER and SAT. -/
def learnedEntry (fmt x : Nat) : Nat × Bool × Bool :=
  let w : W32 := BitVec.ofNat 32 (bits x 63 32)
  let v := d32 w
  let low := v.isNan || (match v with
    | .fin neg m e => neg || m == 0 || decide ((Nat.log2 m : Int) + e < -126)
    | .inf neg => neg
    | .nan _ => true)
  let high := w == 0x7F800000
  let sc : Nat := if low then 0x00800000 else if high then 0x7F7FFFFF else w.toNat
  let q := if fmt = 2 then 15 else 255
  let zp := if fmt = 1 ∨ fmt = 2 then min (bits x 7 0) q else 0
  (x - put 32 (bits x 63 32) - bits x 7 0 + put 32 sc + zp, low, high)

/-- Correct the entries of the scale tensor at the start of a slot that lie in the `len` bytes written at offset `at_`. Answers
memory, UNDER, SAT, and the statistics slot. -/
def learnedTensor (m : Mem) (start at_ len : Nat) : Mem × Nat × Nat × Nat :=
  let h := readNat m start 32
  let fmt := bits h 47 40
  let n := bits h 127 96
  let inside := (List.range n).filter (fun i => decide (at_ ≤ 32 + 16 * i ∧ 32 + 16 * i + 16 ≤ at_ + len))
  let r := inside.foldl (fun (p : Mem × Nat × Nat) i =>
    let a := start + 32 + 16 * i
    let e := learnedEntry fmt (readNat p.1 a 16)
    (writeBytes p.1 a (leBytes 16 e.1), p.2.1 + (if e.2.1 then 1 else 0), p.2.2 + (if e.2.2 then 1 else 0))) (m, 0, 0)
  (r.1, r.2.1, r.2.2, bits h 39 36)

/-! ### The next line of a die (R236, R289, R294, R301) -/

/-- Advancing cycles of a die since a time of its dense clock (R417). -/
def dieCycles (s : State) (die since : Nat) : Nat := (dieClock s die - since) / 640

/-- HOLD of the line issued last, stretched by the die's duty, has elapsed (R25, R236, R417). -/
def holdElapsed (s : State) (die : Nat) (q : DieSeq) : Bool := !q.any || decide (q.hold ≤ dieCycles s die q.issued)

/-- The active pass covers the line, and how it shifts descriptors and streams (R289). -/
def passOf (t : Tablature) (die : Nat) (q : DieSeq) (line : Nat) : Option (Nat × Nat × Nat × Nat) :=
  match q.pass with
  | none => none
  | some p =>
    match spanNo t p.span with
    | none => none
    | some sp =>
      if nth sp.first die 0 ≤ line ∧ line ≤ nth sp.last die 0 then
        some (p.span, p.rung, if p.rung = 1 then sp.wideDesc else 0, if p.rung = 1 then sp.wideStream else 0)
      else none

/-- Begin a pass where a span's FIRST_LINE issues and no pass runs (R289, R290). -/
def beginPass (r : Run) (t : Tablature) (die line : Nat) (q : DieSeq) : DieSeq :=
  if !(isTune r) || q.pass.isSome then q
  else
    match spanAt t die line with
    | none => q
    | some k =>
      match spanNo t k with
      | none => q
      | some sp =>
        if nth sp.first die 0 ≠ line then q
        else
          let rung := if 0 < (look r.step.rung sp.layer).getD 0 then 1 else 0
          let tags := (List.range (stashesOf t).length).map (fun n => (n, (stashOf t die n).tags))
          { q with pass := some { span := k, rung := rung, cnt := q.cnt, tags := tags } }

/-- A stream slot's word with its stream number shifted. -/
def shiftStream (x off : Nat) : Nat := x - put 80 (stStream x) + put 80 (stStream x + off)

/-- The tag register of a stash entry that a slot uses (R294). -/
def tagReg (e : StashEnt) (cnt : List Nat) : Nat := nth cnt e.tagCnt 0 % 16

/-- What the issue of a START or MCAST slot does to the stash entry that its stream names: FWD takes a tag, UPDATE makes the next
version and clears the skip flag (R294, R295). -/
def stashIssue (role reg : Nat) (z : StashState) : StashState :=
  if role = 1 then { z with tags := z.tags.set reg (some z.v) }
  else if role = 3 then { z with v := z.v + 1, skip := false }
  else z

/-- The stash slots of a line may issue one after another in slot order: FWD finds its tag register free, UPDATE no tag at V - 1
(R294). -/
def stashReady (die : Nat) (cnt : List Nat) : List Nat → Tablature → Bool
  | [], _ => true
  | x :: rest, t =>
    let e := nth t.streams (stStream x) {}
    if e.endpoint ≠ 4 ∨ (stOp x ≠ 1 ∧ stOp x ≠ 2) then stashReady die cnt rest t
    else
      let z := stashOf t die e.stash
      let reg := tagReg (stashEntry t e.stash) cnt
      (if e.role = 1 then (nth z.tags reg none).isNone
       else if e.role = 3 then z.v == 0 || z.tags.all (fun g => g != some (z.v - 1))
       else true) && stashReady die cnt rest (putStash t die e.stash (stashIssue e.role reg z))

/-- The stream slots of a line as they issue, shifted at rung 1. -/
def lineSlots (r : Run) (t : Tablature) (die l : Nat) (q : DieSeq) : List Nat :=
  let wide := ((passOf t die (beginPass r t die q.line q) q.line).map (fun p => p.2.2.2)).getD 0
  (List.range 4).map (fun k => if stOp (lnStream l k) = 0 then 0 else shiftStream (lnStream l k) wide)

/-- The sequencer may go on after the line issued last: no barrier or halt, a DRAIN satisfied (R236, R239). -/
def waitOver (s : State) (die : Nat) (q : DieSeq) : Bool :=
  match q.wait with
  | .none => true
  | .drain => drained s die
  | .barrier _ => false
  | .halted => false

/-- The next line of a die waits for a tag register and for nothing before it (R294). -/
def waitsForTag (s : State) (r : Run) (die : Nat) : Bool :=
  let t := tabNo s r.tab
  let q := dieSeq s die
  match ((look t.dies die).getD {}).lines[q.line]? with
  | none => false
  | some l => waitOver s die q && !(stashReady die q.cnt (lineSlots r t die l q) t)

/-- From when such a wait is still to be counted: HOLD has elapsed. -/
def tagWaitFrom (q : DieSeq) : Nat := max q.stashFrom (q.issued + 640 * q.hold)

/-- Count the cycles that the next line has waited for a tag register (STASH_STALL_CYCLES), before one is freed or the run ends. -/
def countTagWait (s : State) (die : Nat) : State :=
  match runOfDie s die with
  | none => s
  | some r =>
    if waitsForTag s r die then
      let from_ := tagWaitFrom (dieSeq s die)
      let n := dieCycles s die from_
      bump (withDie s die (fun q => { q with stashFrom := from_ + 640 * n })) 0x56 n
    else s

/-- Advancing cycles in which HOLD of the line issued last had elapsed and the next line could not issue: those of INTERLOCK_CYCLES
(R236, R417). After HALT no line is to come. -/
def interlockCycles (s : State) (die : Nat) (q : DieSeq) : Nat :=
  if q.any ∧ q.wait ≠ .halted then (min (q.ready.getD (dieClock s die)) (dieClock s die) - (q.issued + 640 * q.hold)) / 640 else 0

/-- Cycles that the next line has waited for a tag register since they were counted last (STASH_STALL_CYCLES). -/
def tagWaited (s : State) (die : Nat) : Nat :=
  match runOfDie s die with
  | some r => if waitsForTag s r die then dieCycles s die (tagWaitFrom (dieSeq s die)) else 0
  | none => 0

/-- Count the waits of a die whose run ends, or whose next sequence begins, before its next line: for a line, for the shared part of
the pool, for the bucket (R236, R322, R328). -/
def countWaits (s : State) (die : Nat) : State :=
  let s := bump (countTagWait s die) 0x51 (interlockCycles s die (dieSeq s die))
  let s := bump s 0x63 (poolWaited s die)
  refillDie (withDie s die (fun q => { q with poolSince := none })) die

end Sys2Proof.Machine
end

