-- ==== Sys2Proof/Machine/DenseOps.lean ====
section
/-!
DEFINITION. Die-program aborts, row selections across cores, and what completed macro-operations leave (R131, R235,
R252-R262, R324, R325, R348, R399).
-/
namespace Sys2Proof.Machine

/-! ### Collectives (R348) -/

def collOn (s : State) (tab : Nat) : Bool := ctlObj s 0x802101 tab == 1
def collGroup (s : State) (tab : Nat) : Nat := ctlObj s 0x802102 tab
def collParent (s : State) (tab : Nat) : Option Nat :=
  let p := ctlObj s 0x802103 tab
  if p < 4096 then some p else none
/-- The children that a packed list of eight U16 names. -/
def childrenOf (packed : Nat) : List Nat :=
  ((List.range 8).map (fun i => bits packed (16 * i + 15) (16 * i))).filter (fun m => decide (m < 4096))
def collChildren (s : State) (tab : Nat) : List Nat := childrenOf (ctlObj s 0x802104 tab)

/-- A frame that this module sends. -/
def ownFrame (s : State) (typ tc dst group ptag origin : Nat) (payload : List Byte) (cutTime : Nat := 0) : Frame :=
  { typ := typ, tc := tc, hops := 0, dst := dst, src := myId s, origin := origin, len := payload.length, group := group,
    ptag := ptag, cutTime := cutTime, payload := payload }

/-! ### Abort (R325, R399) -/

/-- What the run's dies hold after an abort: undefined tiles, core store, side memory and activation space. -/
def scramble (s : State) (r : Run) : State :=
  let t := tabNo s r.tab
  t.dies.foldl (fun s d =>
    let s := (members d.2.coreMask 64).foldl (fun s c =>
      let f := freshFill s
      setCore f.1 d.1 c { store := { mem := { fill := f.2 } }, fillTiles := f.2 }) s
    let f := freshFill s
    let s := { f.1 with dense := { f.1.dense with side := keep d.1 { fill := f.2 } f.1.dense.side } }
    let g := freshFill s
    withTab g.1 r.tab (fun t => { t with act := keep d.1 { mem := { fill := g.2 } } t.act })) s

/-- Rows of DEST 2 that are still under way: delivered by some core, or being selected (R348). -/
def pendingRows (r : Run) : List Nat :=
  ((r.rows.filter (fun x => x.dest == 2)).map (·.rowNo)
    ++ (r.dies.map (fun d => (d.2.macros.filter (fun m =>
        m.unit == .s && (m.op == 10 || m.op == 11) && rDest m.desc == 2 && m.got == 0)).map (fun m => rRowNo m.desc))).flatten).eraseDups

/-- A die-program abort (R399): the sequencers issue no further line, streams stop and what is in flight is given up, the training
state is restored (R296, R325). `reported` is false where the channel was aborted (cause 2). -/
def abortRun (s : State) (slot seq cause : Nat) (st : Status) (reported : Bool := true) : State :=
  match runOf s slot seq with
  | none => s
  | some r =>
    if r.ending.isSome then s
    else
      let s := raise (bump s 0x07 1) 0x0112 1 (args := [cause, r.tab])
      let s := match collParent s r.tab with
        | some p =>
          if collOn s r.tab then
            (pendingRows r).foldl (fun s n =>
              fabSend s (ownFrame s 4 0 p (collGroup s r.tab) n (myId s) [])) s
          else s
        | none => s
      let ds := r.dies.map Prod.fst
      let s := ds.foldl (fun s d => dropReqs (countWaits s d) d) s
      let s := scramble s r
      let s := if isTune r then stepUndone s r else stashKept s r
      let s := withRun s slot seq (fun r => { r with
        ending := some st, reported := reported, rows := [],
        dies := r.dies.map (fun p => (p.1, { p.2 with
          wait := .halted, macros := [], queues := [[], [], [], []], streams := [], bursts := [], windows := [], pass := none })) })
      withdraw s (fun p => p.slot == slot && p.seq == seq)

/-- The run of a die ends with INVALID (cause 4). -/
def invalidate (s : State) (die : Nat) : State :=
  match runOfDie s die with
  | some r => abortRun s r.slot r.seq 4 .invalid
  | none => s

/-! ### Row selections (R131, R348) -/

/-- All named cores of a die's contribution have delivered. -/
def selFull (x : RowSel) : Bool := (members x.contrib 64).all (fun c => (look x.lists (64 * x.die + c)).isSome)

/-- Merge lists at one stage. Answers the list and the duplicates removed. -/
def mergeAll (limit : Nat) (ls : List MList) : MList × Nat :=
  ls.foldl (fun p l =>
    let r := mergeLists true limit p.1 l
    ({ r.1 with kind := .row }, p.2 + r.2)) ({ kind := .row }, 0)

/-- Write a row list into core store at `dst`. -/
def storeRow (s : State) (die core rowNo dst : Nat) (l : MList) : State :=
  let k := coreOf s die core
  let bs := listEncode rowNo true l
  setCore s die core { k with store := {
    mem := writeBytes k.store.mem dst bs, poison := markPoison k.store.poison dst bs.length l.poison } }

/-- The child lists of a row that wait in the ingress buffers. -/
def childRows (s : State) (group rowNo : Nat) (children : List Nat) : List (Option Held) :=
  children.map (fun m => s.fabric.ingress.find? (fun h =>
    h.frame.typ == 3 && h.frame.group == group && h.frame.ptag == rowNo && h.frame.src == m))

/-- Take a frame out of its ingress buffer, or out of its receive class; the room serves others (R340). -/
def takeHeld (s : State) (h : Held) : State :=
  let s := { s with fabric := { s.fabric with ingress := s.fabric.ingress.filter (fun x => x != h) } }
  if h.owed then freeFlits s h.port h.cls (flitsOf h.frame) else settleIngress s (h.port / 4)

/-- The list of a held ROW_LIST frame. -/
def heldList (h : Held) : MList :=
  let l := listDecode h.frame.payload listMax
  { l with poison := l.poison || h.poison }

/-- The lowest-numbered core of a mask. -/
def lowestCore (mask : Nat) : Nat := (members mask 64).headD 0

/-- Combine a row whose contributors have all delivered: DEST 1 at the die, DEST 2 at the hubs and in the collective. -/
def combineRowSel (s : State) (slot seq rowNo die dest : Nat) : State :=
  match runOf s slot seq with
  | none => s
  | some r =>
    if dest = 1 then
      match r.rows.find? (fun x => x.rowNo == rowNo && x.die == die && x.dest == 1) with
      | none => s
      | some x =>
        if !selFull x then s
        else
          let m := mergeAll x.limit (x.lists.map Prod.snd)
          let s := storeRow (bump s 0x29 m.2) die (lowestCore x.contrib) rowNo x.dst m.1
          withRun s slot seq (fun r => { r with rows := r.rows.erase x })
    else
      let xs := r.rows.filter (fun x => x.rowNo == rowNo && x.dest == 2)
      if !(r.dies.all (fun d => xs.any (fun x => x.die == d.1 && selFull x))) then s
      else
        let limit := (xs.head?.map (·.limit)).getD listMax
        let kids := if collOn s r.tab then childRows s (collGroup s r.tab) rowNo (collChildren s r.tab) else []
        if kids.any Option.isNone then s
        else
          let held := kids.filterMap id
          let m := mergeAll limit ((xs.map (fun x => x.lists.map Prod.snd)).flatten ++ held.map heldList)
          let s := held.foldl takeHeld (bump s 0x29 m.2)
          let s := match (if collOn s r.tab then collParent s r.tab else none) with
            | some p => fabSend s (ownFrame s 3 0 p (collGroup s r.tab) rowNo (myId s) (listEncode rowNo true m.1))
            | none =>
              let low := (r.dies.map Prod.fst).headD 0
              match xs.find? (fun x => x.die == low) with
              | some x => storeRow s low (lowestCore x.contrib) rowNo x.dst m.1
              | none => s
          withRun s slot seq (fun r => { r with rows := r.rows.filter (fun x => !(x.rowNo == rowNo && x.dest == 2)) })

/-- A core's list reaches its die merge stage. -/
def deliverRowList (s : State) (die core : Nat) (op d : Nat) (l : MList) : State :=
  match runOfDie s die with
  | none => s
  | some r =>
    let rowNo := rRowNo d
    let dest := rDest d
    let limit := if op = 10 then rParam d % 2 ^ 11 else listMax
    let isIt (x : RowSel) : Bool := x.rowNo == rowNo && x.die == die && x.dest == dest
    let rows := if r.rows.any isIt then r.rows
      else r.rows ++ [{ rowNo := rowNo, dest := dest, die := die, contrib := rContrib d, limit := limit, dst := rDst d }]
    let rows := rows.map (fun x => if isIt x then { x with lists := keep (64 * die + core) l x.lists } else x)
    combineRowSel (withRun s r.slot r.seq (fun r => { r with rows := rows })) r.slot r.seq rowNo die dest

/-- A row still waits for this die's part of it. -/
def rowWaits (r : Run) (rowNo die core : Nat) : Bool :=
  r.rows.any (fun x => x.rowNo == rowNo && x.die == die && (look x.lists (64 * die + core)).isSome)

/-! ### Marks (R324) -/

/-- The byte ranges that a macro writes, without the gaps of its window. -/
def writtenRanges (gov : Bool) (op d : Nat) : List (Nat × Nat) :=
  match kindOf op with
  | 2 => (List.range (eM d)).map (fun r => (eOut d + r * eStride d, fmtBytes (eFmt d) (32 * eTiles d)))
  | _ => writeRanges gov op d

/-- The macro's read window holds a poisoned byte. -/
def readsPoison (k : Core) (op d : Nat) : Bool :=
  match readWindow op d with
  | some w => poisonedAt k.store.poison w.1 (w.2 - w.1)
  | none => false

/-- A macro's tiles hold a poisoned one. -/
def tilesPoison (k : Core) (op slot d : Nat) : Bool :=
  let w := tilesOf op slot d
  kindOf op != 1 && (List.range w.2).any (fun i => (tileOf k (w.1 + i)).poison)

/-- Marks of core store after a macro. -/
def markWrites (k : Core) (gov : Bool) (op d : Nat) (bad : Bool) : Core :=
  let p := if bad then (match writeWindow gov op d with
      | some w => markPoison k.store.poison w.1 (w.2 - w.1) true
      | none => k.store.poison)
    else (writtenRanges gov op d).foldl (fun p r => markPoison p r.1 r.2 false) k.store.poison
  { k with store := { k.store with poison := p } }

/-! ### Completed macros -/

def coordOf (t : Tablature) (die core : Nat) : Nat := nth ((look t.dies die).getD {}).coords core 0
def coreRowOf (t : Tablature) (die core : Nat) : Nat := bits (coordOf t die core) 63 40
def coreColOf (t : Tablature) (die core : Nat) : Nat := bits (coordOf t die core) 39 20

/-- SEED of a run (R256). -/
def seedOf (r : Run) : Nat :=
  let w := nth r.args 0 0
  if isTune r then w ^^^ mix64 (dStep r.word) else w

/-- The governed tensor of an E-unit macro. -/
def govOfMacro (s : State) (die : Nat) (m : Macro) : Option Gov :=
  match runOfDie s die with
  | none => none
  | some r =>
    let t := tabNo s r.tab
    if m.op = 4 then governOf r t die m.core (eOsc m.desc) (eFmt m.desc) (32 * eTiles m.desc) m.span
    else if m.op = 6 ∧ vFn m.desc = 7 then governOf r t die m.core (vSrc2 m.desc) (vDstFmt m.desc) (vCols m.desc) m.span
    else none

/-- Step 1 or step 3 of R258 applies. -/
def steps13 (k : Core) (slot d : Nat) : Bool :=
  (List.range (eTiles d)).any (fun i => (tileOf k (csTile slot + i)).mode == .correction)
    || (eWsc d != 0 && (List.range (32 * eTiles d)).any (fun n => (wscOf k.store.mem d n).const))
    || (eAsc d != 0 && (List.range (eM d)).any (fun r => (ascOf k.store.mem d r).const))

/-- CCLK cycles that a macro occupies its unit for (R121, R252, R261, R329). -/
def macroCycles (s : State) (die : Nat) (m : Macro) : Nat :=
  let k := coreOf s die m.core
  let sweep := match govOfMacro s die m with
    | some g => g.delayed.any Option.isNone
    | none => false
  match m.unit with
  | .f | .g => productCycles m.op m.desc
  | .e => if m.op = 4 then epiCycles m.desc (steps13 k m.slot m.desc) sweep
          else if m.op = 5 then ascaleCycles m.desc else vecCycles m.desc sweep
  | .t => ceilDiv (tBytes m.desc) 256 + 40
  | .s => (selectRows k.store.mem m.op m.desc m.core false []).cycles
  | .rowEngine => 0

/-- A product (R250-R256): `none` where its tag ends the run. -/
def productDone (s : State) (r : Run) (die : Nat) (m : Macro) : Option State :=
  let k := coreOf s die m.core
  let t := tabNo s r.tab
  let n := csTile m.slot
  let tile := tileOf k n
  let acc := csAcc m.slot
  if tagDiffers acc m.desc tile then none
  else
    let x : ProdIn := { coreRow := coreRowOf t die m.core, coreCol := coreColOf t die m.core, cnt := m.cnt, seed := seedOf r }
    let tile := productTile k m.op m.desc acc (readsPoison k m.op m.desc) x tile
    some (setCore s die m.core { k with tiles := keep n tile k.tiles })

/-- Add conversion counts to a statistics slot (R176). -/
def noteStats (s : State) (die : Nat) (o : Option (Nat × List (FV × Conv))) : State :=
  match o with
  | none => s
  | some (slot, cs) =>
    let key := 16 * die + slot
    { s with dense := { s.dense with stats := keep key (addStats ((look s.dense.stats key).getD {}) cs) s.dense.stats } }

/-- An E-unit macro (R258-R260): `none` where it ends the run. -/
def epilogueDone (s : State) (r : Run) (die : Nat) (m : Macro) : Option State :=
  let k := coreOf s die m.core
  let t := tabNo s r.tab
  let d := m.desc
  let bad := readsPoison k m.op d || tilesPoison k m.op m.slot d
  let gov := govOfMacro s die m
  let o := if m.op = 4 then epilogue k d m.slot (coreRowOf t die m.core) gov
           else if m.op = 5 then scaleTiles k d m.slot else vector k d gov
  if o.invalid then none
  else
    let k := if m.op = 5 then
        let w := tilesOf m.op m.slot d
        { o.core with tiles := (List.range w.2).foldl (fun ts i =>
            keep (w.1 + i) { tileOf o.core (w.1 + i) with poison := (tileOf o.core (w.1 + i)).poison || bad } ts) o.core.tiles }
      else markWrites o.core m.gov m.op d bad
    let s := setCore s die m.core k
    let s := noteStats s die o.stat
    let s := if m.op = 4 then bump s 0x53 o.nonfinite else s
    let s := match o.gov with
      | some g => withRunOf (bump s 0x58 g.zeroChannels) die (noteGoverned die m.core s.time.tick g)
      | none => s
    let s := if m.op = 4 ∧ isTune r then withRunOf s die (noteEpilogue die s.time.tick m.span o.nonfinite o.gradMax) else s
    let ws := o.deliver.foldl (fun (ws : Option (List ReWindow)) p =>
      ws.bind (fun ws => deliverRow ws m.core p.1 (p.2.1, p.2.2, bad))) (some (dieSeq s die).windows)
    ws.map (fun ws => withDie s die (fun q => { q with windows := ws }))

/-- A row list that this module sends to its collective parent waits at a port's output (R348). -/
def rowQueued (s : State) (r : Run) (rowNo : Nat) : Bool :=
  collOn s r.tab && s.fabric.ports.any (fun p => p.queue.any (fun x =>
    x.frame.typ == 3 && x.frame.src == myId s && x.frame.group == collGroup s r.tab && x.frame.ptag == rowNo))

/-- The core whose selection macro waits until its row is written or its frame has left: the lowest of CONTRIB, for DEST 2 on the
run's lowest die (R348). -/
def waitsForRow (r : Run) (die d core : Nat) : Bool :=
  core == lowestCore (rContrib d) && (rDest d != 2 || (r.dies.map Prod.fst).head? == some die)

/-- A selection macro (R121, R246). A list for a merge stage is delivered once; the macro of the core to which it is written completes
when the row is written or its frame has left (R348), the macros of other cores when their list is delivered. -/
def selectDone (s : State) (die : Nat) (m : Macro) : State :=
  let k := coreOf s die m.core
  let d := m.desc
  if m.got = 0 then
    let bad := readsPoison k m.op d || m.bad
    let o := selectRows k.store.mem m.op d m.core bad m.lost
    let s := bump s 0x29 o.dup
    if rDest d = 0 then
      let f := if o.tooMany then freshFill s else (s, 0)
      let bs := listEncode (rRowNo d) true o.list
      let bs := if o.tooMany then (List.range bs.length).map (Config.freeByte f.2) else bs
      let k := { k with store := { k.store with mem := writeBytes k.store.mem (rDst d) bs } }
      dropMacro (setCore f.1 die m.core (markWrites k false m.op d bad)) die m.core .s
    else
      let s := withMacro s die m.core .s (fun m => { m with got := 1 })
      let s := deliverRowList s die m.core m.op d o.list
      match runOfDie s die with
      | some r =>
        if waitsForRow r die d m.core && (rowWaits r (rRowNo d) die m.core || rowQueued s r (rRowNo d)) then s
        else dropMacro s die m.core .s
      | none => s
  else
    match runOfDie s die with
    | some r => if rowWaits r (rRowNo d) die m.core || rowQueued s r (rRowNo d) then s else dropMacro s die m.core .s
    | none => s

def sideOf (s : State) (die : Nat) : SideMem := (look s.dense.side die).getD { fill := s.dense.fill }
def setSide (s : State) (die : Nat) (m : SideMem) : State := { s with dense := { s.dense with side := keep die m s.dense.side } }

/-- Move entries of side memory to an output stream (RS_SAVE), as far as buffers allow. -/
def saveRows : Nat → State → Nat → Macro → State
  | 0, s, _, _ => s
  | fuel + 1, s, die, m =>
    let rows := reRows m.slot
    if 8 * rows ≤ m.got then s
    else
      let t := tabOfDie s die
      let st := streamSt (dieSeq s die) m.stream
      let p := m.off + m.got
      match outBlockAt t (nth t.streams m.stream {}) st p 65 st.fetchNo st.fetchPos with
      | none => s
      | some (no, first, len) =>
        match outBuffer s die m.stream no with
        | none => s
        | some s =>
          let e := sideEntry (sideOf s die) (reSide m.slot + m.got / 8)
          let k := min (first + len - p) (8 - m.got % 8)
          let bs := ((sideBytes e).drop (m.got % 8)).take k
          let s := withStream s die m.stream (fillBlock no k (fun b =>
            { mem := writeBytes b.mem (p - first) bs,
              poison := if e.2.2 then markPoison b.poison (p - first) k true else b.poison }))
          let m := { m with got := m.got + k }
          saveRows fuel (withMacro s die 0 .rowEngine (fun _ => m)) die m

/-- Move bytes of an input stream into side memory (RS_LOAD), an entry at a time. -/
def loadRows : Nat → State → Nat → Macro → State
  | 0, s, _, _ => s
  | fuel + 1, s, die, m =>
    let rows := reRows m.slot
    if 8 * rows ≤ m.got then s
    else
      let st := streamSt (dieSeq s die) m.stream
      match blockFor st 64 (m.off + m.got) with
      | none => s
      | some (b, first) =>
        let p := m.off + m.got - first
        let k := min (b.len - p) (8 - m.got % 8)
        let i := reSide m.slot + m.got / 8
        let old := sideEntry (sideOf s die) i
        let bs := (sideBytes old).take (m.got % 8) ++ readBytes b.data.mem p k ++ (sideBytes old).drop (m.got % 8 + k)
        let e : W32 × W32 × Bool := (BitVec.ofNat 32 (numAt bs 4 4), BitVec.ofNat 32 (numAt bs 0 4),
          (m.got % 8 != 0 && old.2.2) || poisonedAt b.data.poison p k)
        let s := setSide s die (putSide (sideOf s die) i e)
        let s := takeBytes s die m.stream b 64 k
        let m := { m with got := m.got + k, read := addOnce m.read b.order }
        loadRows fuel (withMacro s die 0 .rowEngine (fun _ => m)) die m

/-- A row-engine operation (R262). RS_CLOSE ends the windows that begin at its SIDE_ADDR (DESIGN CHOICE, log entry 132). -/
def rowEngineDone (s : State) (die : Nat) (m : Macro) : State :=
  let first := reSide m.slot
  let rows := reRows m.slot
  let fin (s : State) : State := dropMacro s die 0 .rowEngine
  match m.op with
  | 1 => fin (setSide s die (clearSide (sideOf s die) (reKind m.slot) first rows))
  | 2 => fin (withDie s die (fun q => { q with
      windows := q.windows ++ [{ side := first, rows := rows, kind := reKind m.slot, mask := gMask m.desc }] }))
  | 3 =>
    let ws := (dieSeq s die).windows.filter (fun w => w.side == first)
    let s := setSide s die (ws.foldl closeWindow (sideOf s die))
    fin (withDie s die (fun q => { q with windows := q.windows.filter (fun w => w.side != first) }))
  | 4 =>
    let s := saveRows (8 * rows + 8) s die m
    (match macroOn (dieSeq s die) 0 .rowEngine with
     | some m => if 8 * rows ≤ m.got then fin s else s
     | none => s)
  | 5 =>
    let s := loadRows (8 * rows + 8) s die m
    (match macroOn (dieSeq s die) 0 .rowEngine with
     | some m' => if 8 * rows ≤ m'.got then freeTags (fin s) die m.stream else s
     | none => s)
  | 6 =>
    let es := (List.range rows).map (fun i => sideEntry (sideOf s die) (first + i))
    let bs := (es.map sideBytes).flatten
    fin ((members (gMask m.desc) 64).foldl (fun s c =>
      let k := coreOf s die c
      setCore s die c { k with store := {
        mem := writeBytes k.store.mem (gEmit m.desc) bs,
        poison := es.zipIdx.foldl (fun p x => if x.1.2.2 then markPoison p (gEmit m.desc + 8 * x.2) 8 true else p)
          (markPoison k.store.poison (gEmit m.desc) (8 * rows) false) } }) s)
  | _ => fin s

end Sys2Proof.Machine
end

