-- ==== Sys2Proof/Machine/Flags.lean ====
section
/-!
DEFINITION. Status codes, cause flags and the completion entry (R84, R216-R219).
-/
namespace Sys2Proof.Machine

/-- Status codes. -/
def statusCode : Status → Nat
  | .ok => 0x00
  | .partialDeadline => 0x01
  | .partialPoison => 0x02
  | .deferredReport => 0x03
  | .invalid => 0x10
  | .noIndex => 0x11
  | .capacity => 0x12
  | .aborted => 0x20
  | .pageFault => 0x21
  | .fenced => 0x22
  | .tooLate => 0x30

/-- Place of a status in the order of R219, highest first; INVALID as a run's ending ranks after PAGE_FAULT. -/
def rank : Status → Nat
  | .aborted => 0
  | .pageFault => 1
  | .invalid => 2
  | .noIndex => 2
  | .capacity => 2
  | .tooLate => 2
  | .partialDeadline => 3
  | .fenced => 4
  | .partialPoison => 5
  | .deferredReport => 6
  | .ok => 7

/-- The status that stands when two apply (R219). -/
def worse (a b : Status) : Status := if rank b < rank a then b else a

/-- The status that cause flags give a search (R81, R84, R85, R219). -/
def statusOfCause (c : Cause) : Status :=
  if c.cut then .partialDeadline else if c.fenced then .fenced else if c.poison then .partialPoison else .ok

def Cause.or (a b : Cause) : Cause :=
  { cut := a.cut || b.cut, poison := a.poison || b.poison, fenced := a.fenced || b.fenced, late := a.late || b.late,
    arrivalWon := a.arrivalWon || b.arrivalWon }

def flag (b : Bool) (i : Nat) : Nat := if b then 2 ^ i else 0

/-- The CAUSE field (R217). -/
def causeBits (c : Cause) (defValid defLost reportOnly : Bool) : Nat :=
  flag defValid 7 + flag defLost 6 + flag c.cut 5 + flag c.poison 4 + flag c.fenced 3 + flag c.late 2
    + flag c.arrivalWon 1 + flag reportOnly 0

/-- What a completion entry is made from (R216). -/
structure EntryIn where
  compl : Compl
  status : Status
  seq : Nat
  tag : Nat
  sqHead : Nat
  phase : Bool
  doneTime : Nat
  report : Option (Nat × Status) := none
  lost : Bool := false
  reportOnly : Bool := false
  deriving DecidableEq, Repr

/-- The 32-byte completion entry (R216, R217). -/
def entryWord (e : EntryIn) : Nat :=
  let r := e.report.getD (0, .ok)
  put 0 (e.doneTime % 2 ^ 32) + put 32 (statusCode e.status)
    + put 40 (causeBits e.compl.cause e.report.isSome e.lost e.reportOnly)
    + put 48 (e.seq % 65536) + put 64 (e.tag % 65536) + put 80 (e.compl.count % 65536) + put 96 (e.sqHead % 65536)
    + put 112 (r.1 % 65536) + put 128 (e.compl.result % 2 ^ 64)
    + put 192 (if e.report.isSome then statusCode r.2 else 0) + put 200 (e.compl.epoch % 2 ^ 48)
    + flag e.phase 255

def entryBytes (e : EntryIn) : List Byte := leBytes 32 (entryWord e)

end Sys2Proof.Machine
end

