-- ==== Sys2Proof/Machine/ChannelOps.lean ====
section
/-!
DEFINITION. Operations on channels: which command may be admitted, fetching, doorbells, interrupts, completions
(R197-R202, R213-R221, R225, R414).
-/
namespace Sys2Proof.Machine

/-- A doorbell or a completion restarts the idle time of R225. -/
def touch (s : State) : State := { s with power := { s.power with idleSince := s.time.tick } }

/-- Everything runs: A0 or A1. -/
def running (s : State) : Bool :=
  match s.power.state with
  | .a0 | .a1 => true
  | _ => false

/-- Q1 or Q2. -/
def quiescent (s : State) : Bool :=
  match s.power.state with
  | .q1 | .q2 => true
  | _ => false

/-- The entry to a low-power state is past its commit point (R225). -/
def committed (s : State) : Bool := (s.power.entry.map (·.committed)).getD false

/-- The channel controller fetches from this channel: no FATAL, and A0 or A1 before a commit point, or the admin channel
in any of A0 to Q2 (R195, R225, R414). -/
def fetchAllowed (s : State) (slot : Nat) : Bool :=
  !s.log.isFatal && ((running s && !(committed s)) || (isAdmin s slot && (running s || quiescent s)))

/-- The opcode is BARRIER, ABORT_CHANNEL or DESTROY_CHANNEL. -/
def isBarrier (o : OutCmd) : Bool := cOpcode o.word == 0x40
def isAbortOp (op : Nat) : Bool := op == 0x81 || op == 0x82

/-- The admission rules of R213 for a fetched command. A BARRIER holds back every later command; ORDERED and BARRIER wait
for every earlier one; writes, dense and admin commands go in SEQ order of their lane. -/
def mayAdmit (s : State) (slot seq : Nat) : Option OutCmd :=
  let c := chan s slot
  match c.cmds.find? (fun o => o.seq == seq) with
  | none => none
  | some o =>
    let before := earlier c seq
    let op := cOpcode o.word
    let lane := laneOf op
    let live := c.state == .active || c.state == .error
    let inOrder := lane == .query || lane == .control ||
      lane == .none || before.all (fun b => laneOf (cOpcode b.word) != lane || !(isFetched b) || isAbortOp (cOpcode b.word))
    if live && isFetched o && (isAbortOp op ||
        (before.all (fun b => !(isBarrier b)) && (!(cOrdered o.word || op == 0x40) || before.isEmpty) && inOrder)) then some o
    else none

/-- Admin opcodes that Q1 and Q2 still serve (R414). -/
def servedInQ (op : Nat) : Bool := [0x80, 0x81, 0x82, 0x86, 0x87].contains op

/-- A command that its admission refuses with INVALID whatever else it holds: an opcode not listed, an admin opcode on another
channel (R204), or any other command than those of R414 in Q1 and Q2. -/
def refused (s : State) (slot : Nat) (w : CmdWord) : Bool :=
  let op := cOpcode w
  laneOf op == .none || (laneOf op == .admin && !(isAdmin s slot)) || (quiescent s && !(servedInQ op))

/-- A command of a given opcode that may be admitted and is not refused. -/
def admitting (s : State) (slot seq op : Nat) : Option OutCmd :=
  (mayAdmit s slot seq).filter (fun o => cOpcode o.word == op && !(refused s slot o.word))

/-- The commands of a channel whose admission has come and refuses them complete with INVALID (R204, R213, R219). -/
def refuseDue (s : State) (slot : Nat) : State :=
  (chan s slot).cmds.foldl (fun s o => match mayAdmit s slot o.seq with
    | some o => if refused s slot o.word then finishWith s slot o.seq .invalid else s
    | none => s) s

/-- Change the stage of a command. -/
def setStage (s : State) (slot seq : Nat) (st : Stage) : State := withCmd s slot seq (fun o => { o with stage := st })

/-- A command that waits, after its checks, for the buffer whose reads it issues to the host link (R394). -/
def nowWaiting (s : State) (slot seq : Nat) : State :=
  withCmd (setStage s slot seq .waiting) slot seq (fun o => { o with issued := s.time.tick })

/-- The tenant of a channel sees an index (R199), which exists and is not being dropped. -/
def seesIndex (s : State) (slot i : Nat) : Bool :=
  match look s.indexes i with
  | none => false
  | some x =>
    let t := (chan s slot).cfg.tenant
    x.dropping.isNone && (t == 0 || t == x.cfg.owner)

/-- A handle names a channel of the issuing port that is neither FREE nor DESTROYING (R197-R199, R220). -/
def handleSlot (s : State) (p : Port) (h : Nat) : Option Nat :=
  let slot := bits h 11 0
  let c := chan s slot
  if bits h 19 12 = 0 ∧ portOf s slot = p ∧ genOf s slot = bits h 31 20 ∧ c.state ≠ .free ∧ c.state ≠ .destroying then some slot
  else none

/-- The slots that a port may create channels in. -/
def portSlots (s : State) (p : Port) : List Nat :=
  ((List.range 4096).drop 1).filter (fun n => portOf s n == p && !(isAdmin s n))

/-- The next generation of a slot (R199). -/
def nextGen (g : Nat) : Nat := if (g + 1) % 4096 = 0 then 1 else (g + 1) % 4096

/-! ### Doorbells (R200) -/

/-- A doorbell write is one of a channel, and is not discarded. -/
def seesDoorbell (s : State) (p : Port) (slot value : Nat) (sub : Bool) : Bool :=
  let c := chan s slot
  portOf s slot == p && c.state != .free && genOf s slot == bits value 31 20 && c.state != .aborting && c.state != .destroying
    && decide (bits value 15 0 < (if sub then c.cfg.sqN else c.cfg.cqN))

/-- A doorbell of a channel. `sub` distinguishes SQ (true) and CQ. What R199 and R200 discard is counted. -/
def doorbell (s : State) (p : Port) (slot value : Nat) (sub : Bool) : State :=
  let c := chan s slot
  let v := bits value 15 0
  if portOf s slot ≠ p ∨ c.state = .free ∨ genOf s slot ≠ bits value 31 20 then bump s 0x41 1
  else if c.state = .aborting ∨ c.state = .destroying then s
  else
    let n := if sub then c.cfg.sqN else c.cfg.cqN
    if n ≤ v then raise (bump s 0x41 1) 0x0203 1 (handle := handleOf s slot) (args := [value % 2 ^ 32])
    else
      let s := touch (setChan s slot (if sub then { c with tail := v } else { c with cqHead := v }))
      if quiescent s ∧ !(isAdmin s slot) ∧ ctl s 0x200007 = 1 ∧ s.power.returning = none ∧ s.power.entry = none then
        { s with power := { s.power with returning := some none } }
      else s

/-! ### Fetch (R201) -/

/-- Commands between head and tail. -/
def unfetched (c : Channel) : Nat := if c.cfg.sqN = 0 then 0 else (c.tail + c.cfg.sqN - c.head) % c.cfg.sqN

/-- How many commands one read takes. -/
def fetchCount (c : Channel) (given : Nat) : Nat := min (min given 32) (min (unfetched c) (min c.cfg.outMax 32768 - c.cmds.length))

/-- Take fetched commands into the channel: SEQ by SEQ. -/
def takeWords (now : Nat) (c : Channel) : List CmdWord → Channel
  | [] => c
  | w :: r =>
    let o : OutCmd := { seq := c.seq, ord := c.fetched, word := w, issued := now }
    takeWords now { c with
      cmds := c.cmds ++ [o], seq := (c.seq + 1) % 65536, fetched := c.fetched + 1, head := (c.head + 1) % c.cfg.sqN } r

/-! ### Interrupts (R202) -/

/-- An entry was written: its message follows at once, or after coalescing. The settings that hold now hold until the next one
(R232). -/
def interrupt (s : State) (slot : Nat) : State :=
  let c := { chan s slot with coalWait := (chan s slot).coalTime }
  if c.coalTime = 0 then sendMsi (setChan s slot { c with coalPend := 0, coalSince := none }) (portOf s slot) c.cfg.msix
  else if c.coalCount ≤ c.coalPend + 1 then
    sendMsi (setChan s slot { c with coalPend := 0, coalSince := none }) (portOf s slot) c.cfg.msix
  else
    setChan s slot { c with coalPend := c.coalPend + 1, coalSince := some (c.coalSince.getD s.time.tick) }

/-! ### Completion entries (R202, R216-R219) -/

/-- The completion queue has room (R202). -/
def cqRoom (c : Channel) : Bool := decide (1 < c.cfg.cqN) && decide ((c.cqTail + 1) % c.cfg.cqN ≠ c.cqHead)

/-- Write a completion entry and move on. -/
def putEntry (s : State) (slot : Nat) (e : EntryIn) : State :=
  let c := chan s slot
  let s := hostWrite s slot (c.cfg.cqAddr + 32 * c.cqTail) (entryBytes { e with phase := c.phase })
  let next := (c.cqTail + 1) % c.cfg.cqN
  let s := setChan s slot { c with cqTail := next, phase := if next = 0 then !c.phase else c.phase }
  interrupt (touch (bump s 0x40 1)) slot

/-- A deferred report of a write that had already completed (R218): queued, or lost when 64 stand. -/
def deferReport (s : State) (slot seq : Nat) (st : Status) : State :=
  let c := chan s slot
  let s := raise s 0x0201 1 (handle := handleOf s slot) (args := [seq, statusCode st])
  if c.state = .free ∨ c.state = .destroying ∨ c.state = .aborting then s
  else if c.reports.length < 64 then setChan s slot { c with reports := c.reports ++ [(seq, st)] }
  else raise (bump (setChan s slot { c with lost := true }) 0x45 1) 0x0202 1 (handle := handleOf s slot) (args := [seq])

/-- Counters of a written completion (R89, R233, R275). -/
def countEntry (s : State) (o : OutCmd) (st : Status) : State :=
  let op := cOpcode o.word
  let s := if st = .pageFault then bump s 0x47 1 else s
  let s := if st = .tooLate then bump s 0x48 1 else s
  let s := if isAbortOp op then bump s 0x49 1 else s
  let s := if laneOf op == .dense then bump s 0x52 1 else s
  let s := if op = 0x01 ∨ op = 0x02 then bump s 0x20 1 else s
  if st = .partialDeadline then bump s 0x21 1 else s

end Sys2Proof.Machine
end

