-- ==== Sys2Proof/Machine/Quant.lean ====
section
/-!
DEFINITION. Codes, sketches and distances of indexes (R36, R37, R93-R112, R160-R163).
-/
namespace Sys2Proof.Machine

/-! ### Shapes (R28, R36, R37) -/

def degree (f : Format) : Nat := if f = .w then 32 else 24
def hyperCount (f : Format) : Nat := if f = .w then 64 else 32
def recBytes (f : Format) : Nat := if f = .w then 512 else 256
def codeBits (f : Format) : Nat := if f = .w then 768 else 384
def sideBytesOf (f : Format) : Nat := if f = .w then 144 else 96
def chunkEntries (f : Format) : Nat := if f = .w then 455 else 682
def elemBits (codeType : Nat) : Nat := if codeType = 0 then 1 else if codeType = 1 then 4 else 8
/-- E: elements of a code. -/
def codeElems (c : IndexCfg) : Nat := codeBits c.format / elemBits c.codeType
/-- Q: the largest code element. -/
def codeMax (c : IndexCfg) : Nat := 2 ^ elemBits c.codeType - 1

/-- Element `i` of a code (R37). -/
def codeElem (c : IndexCfg) (code i : Nat) : Nat :=
  let b := elemBits c.codeType
  bits code (b * i + b - 1) (b * i)

/-- A code from its elements. -/
def packCode (c : IndexCfg) (es : List Nat) : Nat :=
  let b := elemBits c.codeType
  es.zipIdx.foldl (fun n p => n + put (b * p.2) (p.1 % 2 ^ b)) 0

/-! ### Projection (R102, R160) -/

def zero32 : FV := .fin false 0 0

/-- Σ v² in the FP32 block of R107. -/
def normSq (v : List FV) : FV := sumRule 4 (v.map (fun x => mul32 x x))

/-- A vector whose NaN elements are taken as +0, and whether it had one. -/
def unNan (v : List FV) : List FV × Bool := (v.map (fun x => if x.isNan then zero32 else x), v.any FV.isNan)

/-- Normalisation of R102; a vector of norm 0 stays as it is. -/
def normalise (v : List FV) : List FV :=
  let n := normSq v
  if n.isZero then v
  else
    let r := recip32 (sqrt32 n)
    v.map (fun x => mul32 x r)

/-- The largest finite magnitude that is not zero, else 1 (R160). -/
def topMag (v : List FV) : FV :=
  v.foldl (fun m x => if x.isFinite && !x.isZero && (m.isZero || flt m.abs x.abs) then x.abs else m) zero32
    |> fun m => if m.isZero then pow2 0 else m

/-- rne8: FP8 E4M3, to nearest even, saturating (R160). -/
def rne8 (v : FV) : FV := if v.isNan then v else fdec e4m3 (frnd e4m3 true v)

/-- The projected vector of a vector, and whether a NaN element was seen (R160). -/
def project (c : IndexCfg) (proj : List ProjRow) (v : List FV) : List FV × Bool :=
  let w := unNan v
  let v := if c.metric = 2 then normalise w.1 else w.1
  let e := fexp2 (topMag v)
  let u := v.map (fun x => rne8 (fmul x (pow2 (7 - e))))
  let row (r : ProjRow) : FV :=
    let a := sumRule 6 (List.zipWith (fun x b => rne32 (fmul x (fdec e4m3 b.toNat))) u r.elems)
    rne32 (fmul (mul32 a (d32 r.scale)) (pow2 (e - 7)))
  (proj.map row, w.2)

/-! ### Code versions (R161-R163) -/

def scaleOf (v : CodeVer) (i : Nat) : FV := d32 (nth v.scales (i / 16) 0)
def elemOf (v : CodeVer) (i : Nat) : ElemParam := nth v.elems i { offset := 0, zp := 0, const := false }

/-- The value of an element before clamping; `none` where it is NaN. -/
def beforeClamp (v : CodeVer) (i : Nat) (p : FV) : Option Int :=
  let x := mul32 (sub32 p (d32 (elemOf v i).offset)) (recip32 (scaleOf v i))
  match x with
  | .nan _ => none
  | .inf neg => some (if neg then -1000 else 1000)
  | w => some (rni w + (elemOf v i).zp)

/-- One code element and whether it was clamped (R161); clamps of constant elements are not counted. -/
def codeOne (c : IndexCfg) (v : CodeVer) (i : Nat) (p : FV) : Nat × Bool :=
  if c.codeType = 0 then (if fle (d32 (elemOf v i).offset) p then 1 else 0, false)
  else
    match beforeClamp v i p with
    | none => (Config.nanCode i % (codeMax c + 1), false)
    | some x =>
      let q : Int := codeMax c
      ((max 0 (min q x)).toNat, (decide (x < 0) || decide (q < x)) && !(elemOf v i).const)

/-- The code of a projected vector and the number of clamped elements (R161). -/
def codeOf (c : IndexCfg) (v : CodeVer) (p : List FV) : Nat × Nat :=
  let es := (List.range (codeElems c)).map (fun i => codeOne c v i (nth p i zero32))
  (packCode c (es.map Prod.fst), (es.filter Prod.snd).length)

/-- The dequantised values of a code (R161). -/
def dequant (c : IndexCfg) (v : CodeVer) (code : Nat) : List FV :=
  (List.range (codeElems c)).map (fun i =>
    let e := elemOf v i
    let o := d32 e.offset
    let x := codeElem c code i
    if e.const then o
    else if c.codeType = 0 then add32 o (if x = 1 then scaleOf v i else (scaleOf v i).neg)
    else add32 (mul32 (scaleOf v i) (ofInt ((x : Int) - e.zp))) o)

/-- y_j of R162. -/
def hyperSum (signs : Nat) (p : List FV) : FV :=
  sumRule 4 (p.zipIdx.map (fun x => if bit signs x.2 then x.1.neg else x.1))

/-- The sketch of a code under a version (R162). -/
def sketchOf (c : IndexCfg) (v : CodeVer) (code : Nat) : Nat :=
  let p := dequant c v code
  (List.range (hyperCount c.format)).foldl (fun n j =>
    if fle zero32 (add32 (hyperSum (nth v.signs j 0) p) (d32 (nth v.biases j 0))) then n + 2 ^ j else n) 0

/-- Σ(p − p̂)² ÷ Σp² of one vector (R177): `none` where Σp² is 0. -/
def relErr (c : IndexCfg) (v : CodeVer) (p : List FV) : Option FV :=
  let back := dequant c v (codeOf c v p).1
  let ss := normSq p
  if ss.isZero then none
  else some (div32 (normSq (List.zipWith sub32 p back)) ss)

/-! ### Code distance and sketch estimate (R103-R105) -/

/-- S_j of R103. -/
def codeGroup (c : IndexCfg) (v : CodeVer) (q x j : Nat) : Int :=
  (List.range 16).foldl (fun s k =>
    let i := 16 * j + k
    let a : Int := codeElem c q i
    let b : Int := codeElem c x i
    let z : Int := (elemOf v i).zp
    s + (if c.metric = 0 then (a - b) * (a - b)
         else if c.metric = 3 then ((a - b).natAbs : Int)
         else -((a - z) * (b - z)))) 0

/-- The number of ones. -/
def popcount (w x : Nat) : Nat := ((List.range w).filter (fun i => bit x i)).length

/-- t of R103: the weighted sum, or the Hamming distance of binary codes. -/
def codeSum (c : IndexCfg) (v : CodeVer) (q x : Nat) : FV :=
  if c.codeType = 0 then ofInt (popcount (codeBits c.format) (q ^^^ x))
  else (List.range (codeElems c / 16)).foldl (fun t j =>
    add32 t (mul32 (d32 (nth v.groupW j 0)) (ofInt (codeGroup c v q x j)))) zero32

/-- The code distance (R103). -/
def codeDist (c : IndexCfg) (v : CodeVer) (q x : Nat) : FV :=
  add32 (mul32 (d32 v.distG) (codeSum c v q x)) (d32 v.distOff)

def codeKey (c : IndexCfg) (v : CodeVer) (q x : Nat) : W32 := keyOf (codeDist c v q x)

/-- The estimated key of a neighbour's sketch (R105). -/
def sketchKey (c : IndexCfg) (v : CodeVer) (q x : Nat) : W32 :=
  nth v.sketchTable (popcount (hyperCount c.format) (q ^^^ x)) 0

/-! ### Rerank distances (R107-R110) -/

/-- The distance of R108 between an FP32 query and a vector whose stored format has blocks of 2^n. -/
def metricDist (metric n : Nat) (q x : List FV) : FV :=
  match metric with
  | 0 => sumRule n (List.zipWith (fun a b => let t := sub32 a b; mul32 t t) q x)
  | 1 => (sumRule n (List.zipWith mul32 q x)).neg
  | 2 =>
    let a := sumRule n (List.zipWith mul32 q x)
    let b := sumRule n (x.map (fun e => mul32 e e))
    sub32 (pow2 0) (div32 a (mul32 (sqrt32 (normSq q)) (sqrt32 b)))
  | _ => sumRule n (List.zipWith (fun a b => (sub32 a b).abs) q x)

/-- Fields of a kernel instruction (R110). -/
def kOp (x : Nat) : Nat := bits x 31 26
def kDst (x : Nat) : Nat := bits x 25 23
def kSa (x : Nat) : Nat := bits x 22 20
def kSb (x : Nat) : Nat := bits x 19 17
def kCk (x : Nat) : Nat := bits x 16 14
def kIns (b n : Nat) : Nat := bits b (32 * n + 31) (32 * n)
def kConst (b k : Nat) : FV := d32 (BitVec.ofNat 32 (bits b (1024 + 32 * k + 31) (1024 + 32 * k)))
def kElems (b : Nat) : Nat := bits b 1311 1304
def kFinish (b : Nat) : Nat := bits b 1303 1296

/-- One instruction on a register list (R110). -/
def kStep (b x : Nat) (r : List FV) : List FV :=
  let a := nth r (kSa x) zero32
  let c := nth r (kSb x) zero32
  let w (v : FV) : List FV := r.set (kDst x) v
  match kOp x with
  | 0x01 => w (add32 a c)
  | 0x02 => w (sub32 a c)
  | 0x03 => w (mul32 a c)
  | 0x04 => w a.abs
  | 0x05 => w a.neg
  | 0x06 => w (fmin a c)
  | 0x07 => w (fmax a c)
  | 0x0B => w (kConst b (kCk x))
  | 0x0C => w (div32 a c)
  | 0x0D => w (sqrt32 a)
  | _ => r

/-- The registers of one element at instruction `n`. -/
def kElement (b : Nat) (i : Nat) (q x : FV) (n : Nat) : List FV :=
  (List.range n).foldl (fun r k => kStep b (kIns b k) r)
    (q :: x :: (List.range 6).map (fun t => d32 (Config.kernelTemp (t + 2) i)))

/-- An accumulator of the element stage: its rule and the values that its instruction accumulates (R107, R110). -/
def kAccum (b blk : Nat) (q x : List FV) (ops : List Nat) : Option FV :=
  match (List.range (kElems b)).find? (fun n => ops.contains (kOp (kIns b n))) with
  | none => none
  | some n =>
    let vs := (List.zip q x).zipIdx.map (fun p => nth (kElement b p.2 p.1.1 p.1.2 n) (kSa (kIns b n)) zero32)
    some (if kOp (kIns b n) = 0x0A then maxRule blk vs else sumRule blk vs)

/-- The result of a user kernel (R109, R110). -/
def kernelDist (b blk : Nat) (q x : List FV) : FV :=
  let a0 := (kAccum b blk q x [0x08, 0x0A]).getD zero32
  let a1 := (kAccum b blk q x [0x09]).getD zero32
  let r := [a0, a1, normSq q, rne32 (ofInt x.length)] ++ List.replicate 4 zero32
  nth ((List.range (kFinish b)).foldl (fun r n => kStep b (kIns b (kElems b + n)) r) r) 0 zero32

/-- The distance that the rerank of an index computes (R93, R107, R108). -/
def rerankDist (s : State) (c : IndexCfg) (q x : List FV) : FV :=
  if c.kernel = 0 then metricDist c.metric (blockLog c.rrFmt) q x
  else kernelDist ((look s.kernels c.kernel).getD {}).block (blockLog c.rrFmt) q x

/-- Whether a kernel block is accepted (R111). An instruction other than END after the finish stage is refused: R109 says that those
"must be END", and R111's list of refusals does not name the case. DEDUCED, log entry 104. -/
def kernelOk (b : Nat) : Bool :=
  let me := kElems b
  let mf := kFinish b
  let elemOp (o : Nat) : Bool := decide (o ≤ 0x0B)
  let finOp (o : Nat) : Bool := decide (o ≤ 0x0D) && !(decide (0x08 ≤ o ∧ o ≤ 0x0A))
  let ops := (List.range me).map (fun n => kOp (kIns b n))
  decide (1 ≤ me ∧ me ≤ 16 ∧ mf ≤ 15)
    && bits b 2047 1312 == 0 && bits b 1295 1280 == 0
    && (List.range 32).all (fun n =>
      let x := kIns b n
      bits x 13 0 == 0 && (if n < me then elemOp (kOp x) else if n < me + mf then finOp (kOp x) else kOp x == 0))
    && decide ((ops.filter (fun o => o == 0x08 || o == 0x0A)).length ≤ 1)
    && decide ((ops.filter (fun o => o == 0x09)).length ≤ 1)

def kernelCost (b : Nat) : Nat :=
  max 2 (((List.range (kElems b)).map (fun n => kOp (kIns b n))).filter (fun o => !(decide (0x08 ≤ o ∧ o ≤ 0x0A)))).length

/-! ### Elements of buffers and rerank vectors (R52, R478) -/

/-- Payload or query elements, exactly in FP32 (R107, R160). -/
def vecOf (fmt n : Nat) (bs : List Byte) : List FV := elemsOf fmt n bs

/-- The stored rerank vector of a payload (R478). -/
def rerankVec (fmt : Nat) (v : List FV) : List Nat := v.map (rerankElem fmt)

/-- A stored rerank vector's elements. -/
def storedVec (fmt : Nat) (x : List Nat) : List FV := x.map (fdec (rrFmt fmt))

/-- Its bytes. -/
def storedBytes (fmt : Nat) (x : List Nat) : List Byte := (x.map (fun e => leBytes (rrSize fmt) e)).flatten

end Sys2Proof.Machine
end

