-- ==== Sys2Proof/Machine/CodeSet.lean ====
section
/-!
DEFINITION. Code-set images (R168-R170), calibration and the fit of a code version (R164-R166).
-/
namespace Sys2Proof.Machine

/-! ### Image fields (R168, R169) -/

def csHdr (img : List Byte) : Nat := numAt img 0 64
def csProj (img : List Byte) : Nat := bits (csHdr img) 383 352
def csHyper (img : List Byte) : Nat := bits (csHdr img) 351 320
def csElem (img : List Byte) : Nat := bits (csHdr img) 319 288
def csScale (img : List Byte) : Nat := bits (csHdr img) 287 256
def csBytes (img : List Byte) : Nat := bits (csHdr img) 255 224
def csElems (img : List Byte) : Nat := bits (csHdr img) 111 96
def csDims (img : List Byte) : Nat := bits (csHdr img) 127 112

/-- The strides of the hyperplane and projection sections. -/
def hyperStride (e : Nat) : Nat := 64 * ceilDiv (4 + e / 8) 64
def projStride (d : Nat) : Nat := 64 + 64 * ceilDiv d 64

def w32At (bs : List Byte) (off : Nat) : W32 := BitVec.ofNat 32 (numAt bs off 4)

def imgScales (img : List Byte) (e : Nat) : List W32 := (List.range (e / 16)).map (fun j => w32At img (csScale img + 4 * j))
def imgElemWord (img : List Byte) (i : Nat) : Nat := numAt img (csElem img + 8 * i) 8
def imgElems (img : List Byte) (e : Nat) : List ElemParam :=
  (List.range e).map (fun i =>
    let x := imgElemWord img i
    { offset := BitVec.ofNat 32 (bits x 63 32), zp := bits x 7 0, const := bit x 8 })
def imgHyper (img : List Byte) (e j : Nat) : Nat := csHyper img + j * hyperStride e
def imgBiases (img : List Byte) (e h : Nat) : List W32 := (List.range h).map (fun j => w32At img (imgHyper img e j))
def imgSigns (img : List Byte) (e h : Nat) : List Nat :=
  (List.range h).map (fun j => numAt img (imgHyper img e j + 4) (e / 8))
def imgRow (img : List Byte) (d j : Nat) : Nat := csProj img + j * projStride d
def imgRows (img : List Byte) (e d : Nat) : List ProjRow :=
  (List.range e).map (fun j => { scale := w32At img (imgRow img d j), elems := slice img (imgRow img d j + 64) d })
def imgTable (img : List Byte) : List W32 := (List.range 65).map (fun h => w32At img (64 + 4 * h))

/-- Bytes from `a` up to `b` are zero. -/
def zeroBytes (img : List Byte) (a b : Nat) : Bool := (slice img a (b - a)).all (fun x => x == 0)

def finite32 (w : W32) : Bool := (d32 w).isFinite
/-- Positive, normal and finite. -/
def normal32 (w : W32) : Bool := finite32 w && !w.msb && decide (0x00800000 ≤ w.toNat)
def positive32 (w : W32) : Bool := finite32 w && !w.msb && decide (w.toNat ≠ 0)

/-- 2^−126. -/
def minNormal : W32 := 0x00800000

/-! ### Checks (R170) -/

/-- The header agrees with the command. -/
def csHeaderOk (c : IndexCfg) (img : List Byte) : Bool :=
  let h := csHdr img
  bits h 79 72 == (if c.format = .w then 0 else 1) && bits h 95 88 == c.codeType && bits h 87 80 == c.metric
    && csDims img == c.vecDims && csElems img == codeElems c

/-- Sections begin at multiples of 64 B in their order, do not overlap and lie within IMAGE_BYTES (R169). -/
def csSectionsOk (c : IndexCfg) (initial : Bool) (img : List Byte) : Bool :=
  let e := codeElems c
  let scaleEnd := csScale img + 4 * (e / 16)
  let elemEnd := csElem img + 8 * e
  let hyperEnd := csHyper img + hyperCount c.format * hyperStride e
  let projEnd := csProj img + e * projStride c.vecDims
  let last := if initial then projEnd else hyperEnd
  decide (csBytes img ≤ img.length) && decide (0x180 ≤ csScale img)
    && aligned (csScale img) 64 && aligned (csElem img) 64 && aligned (csHyper img) 64 && aligned (csProj img) 64
    && decide (scaleEnd ≤ csElem img ∧ elemEnd ≤ csHyper img)
    && (if initial then decide (csProj img ≠ 0 ∧ hyperEnd ≤ csProj img) else decide (csProj img = 0))
    && decide (last ≤ csBytes img)
    -- padding is zero
    && zeroBytes img 0x144 (csScale img) && zeroBytes img scaleEnd (csElem img) && zeroBytes img elemEnd (csHyper img)
    && (List.range (hyperCount c.format)).all (fun j => zeroBytes img (imgHyper img e j + 4 + e / 8) (imgHyper img e (j + 1)))
    && (if initial then zeroBytes img hyperEnd (csProj img)
          && (List.range e).all (fun j => zeroBytes img (imgRow img c.vecDims j + 64 + c.vecDims) (imgRow img c.vecDims (j + 1)))
        else true)
    && zeroBytes img last (csBytes img)

/-- The element entries meet their conditions. -/
def csElemsOk (c : IndexCfg) (img : List Byte) : Bool :=
  let e := codeElems c
  let es := imgElems img e
  let scales := imgScales img e
  es.all (fun x => finite32 x.offset)
    && es.all (fun x => decide (x.zp ≤ codeMax c) && (c.codeType != 0 || x.zp == 0))
    && (c.codeType == 0 || c.metric == 0 || c.metric == 3 || es.all (fun x => x.offset == 0))
    && (List.range e).all (fun i =>
        !(nth es i { offset := 0, zp := 0, const := false }).const ||
          ((slice' es (i / 16 * 16) 16).all (·.const) && nth scales (i / 16) 0 == minNormal))
where
  slice' (l : List ElemParam) (off n : Nat) : List ElemParam := (l.drop off).take n

/-- No entry of a list is below the one before it. -/
def rising : List W32 → Bool
  | a :: b :: r => decide (a.toNat ≤ b.toNat) && rising (b :: r)
  | _ => true

/-- The reserved bits of the image are zero. -/
def csReservedOk (c : IndexCfg) (initial : Bool) (img : List Byte) : Bool :=
  let e := codeElems c
  bits (csHdr img) 511 384 == 0 && bits (csHdr img) 71 0 == 0
    && (List.range e).all (fun i => bits (imgElemWord img i) 31 9 == 0)
    && (!initial || (List.range e).all (fun j => zeroBytes img (imgRow img c.vecDims j + 4) (imgRow img c.vecDims j + 64)))

/-- The conditions of R170 on a code-set image. -/
def codeSetOk (c : IndexCfg) (initial : Bool) (img : List Byte) : Bool :=
  let h := csHdr img
  let e := codeElems c
  let keys := (imgTable img).take (hyperCount c.format + 1)
  let f (hi lo : Nat) : W32 := BitVec.ofNat 32 (bits h hi lo)
  decide (64 ≤ img.length) && csHeaderOk c img && csSectionsOk c initial img
    && (imgScales img e).all normal32
    && csElemsOk c img
    && (imgBiases img e (hyperCount c.format)).all finite32
    && finite32 (f 223 192) && finite32 (f 191 160) && positive32 (f 159 128)
    && (!initial || (imgRows img e c.vecDims).all (fun r => finite32 r.scale && r.elems.all (fun b => b.toNat % 128 != 127)))
    && keys.all (fun k => k != nanKey) && rising keys
    && (c.format == .w || ((imgTable img).drop 33).all (fun k => k == 0))
    && csReservedOk c initial img

/-- A weight above the largest finite value takes that value: every value of a parameter block is finite (R100). DEDUCED, log
entry 106. -/
def finiteWeight (w : W32) : W32 := if w = 0x7F800000 then 0x7F7FFFFF else w

/-- Group weights of R166. -/
def groupWeights (c : IndexCfg) (scales : List W32) : List W32 :=
  if c.codeType = 0 then []
  else scales.map (fun s => if c.metric = 3 then s else
    let w := e32 (mul32 (d32 s) (d32 s))
    if flt (d32 w) (d32 minNormal) then minNormal else finiteWeight w)

/-- The version that an image describes (R99, R161, R170, R178). -/
def imageVersion (c : IndexCfg) (num eOn : Nat) (img : List Byte) : CodeVer :=
  let h := csHdr img
  let e := codeElems c
  let f (hi lo : Nat) : W32 := BitVec.ofNat 32 (bits h hi lo)
  { num := num, eOn := eOn, scales := imgScales img e, elems := imgElems img e,
    biases := imgBiases img e (hyperCount c.format), signs := imgSigns img e (hyperCount c.format),
    distG := f 159 128, distOff := f 191 160, groupW := groupWeights c (imgScales img e), sketchTable := imgTable img,
    mse := f 223 192 }

/-! ### Calibration from samples (R164-R166) -/

/-- Ascending order of FP32 values. -/
def sortVals (l : List FV) : List FV := sortBy (fun a b => decide ((keyOf a).toNat ≤ (keyOf b).toNat)) l

/-- The column of element `i` over the samples. -/
def column (ps : List (List FV)) (i : Nat) : List FV := ps.map (fun p => nth p i zero32)

/-- lo_i, hi_i of R164. -/
def clipRange (c : IndexCfg) (clip : Nat) (ps : List (List FV)) (i : Nat) : FV × FV :=
  let l := sortVals (column ps i)
  let k := l.length * clip / 1000
  let lo := nth l k zero32
  let hi := nth l (l.length - 1 - k) zero32
  if c.codeType ≠ 0 ∧ (c.metric = 1 ∨ c.metric = 2) then (fmin lo zero32, fmax hi zero32) else (lo, hi)

/-- The element parameters and the scale of group `j` (R164). The product −lo × r is rounded by rne32 before rni; a difference of
two bounds and a mean are taken exactly before their one rne32: DESIGN CHOICE, log entry 107. -/
def calibGroup (c : IndexCfg) (clip : Nat) (ps : List (List FV)) (j : Nat) : W32 × List ElemParam :=
  let rs := (List.range 16).map (fun k => clipRange c clip ps (16 * j + k))
  let signed := c.codeType != 0 && (c.metric == 1 || c.metric == 2)
  if rs.all (fun r => feq r.1 r.2) then
    (minNormal, rs.map (fun r =>
      { offset := if c.metric = 0 ∨ c.metric = 3 ∨ c.codeType = 0 then e32 r.1 else 0,
        zp := if c.codeType = 0 then 0 else 2 ^ (elemBits c.codeType - 1), const := true }))
  else if c.codeType = 0 then
    let mids := (List.range 16).map (fun k => nth (sortVals (column ps (16 * j + k))) (ps.length / 2) zero32)
    let devs := ((List.range 16).map (fun k => (column ps (16 * j + k)).map (fun p => (fsub p (nth mids k zero32)).abs))).flatten
    let mean := rne32 (fdiv (devs.foldl fadd zero32) (ofInt devs.length))
    (e32 (fmax mean (d32 minNormal)), mids.map (fun m => { offset := e32 m, zp := 0, const := false }))
  else
    let top := rs.foldl (fun t r => fmax t (fsub r.2 r.1)) zero32
    let s := fmax (rne32 (fdiv top (ofInt (codeMax c)))) (d32 minNormal)
    (e32 s, rs.map (fun r =>
      if signed then
        let z := rni (mul32 r.1.neg (recip32 s))
        { offset := 0, zp := (max 0 (min (codeMax c : Int) z)).toNat, const := false }
      else { offset := e32 r.1, zp := 0, const := false }))

/-- Hyperplane signs of a version (R165). -/
def signsOf (c : IndexCfg) (num : Nat) : List Nat :=
  (List.range (hyperCount c.format)).map (fun j =>
    (List.range (codeElems c)).foldl (fun n i => if bit (mix64 (put 24 num + put 16 j + i)) 63 then n + 2 ^ i else n) 0)

/-- Fit pairs (R166): sample n with sample (n + d) mod N, d = 1 to 64. -/
def fitPairs (n : Nat) : List (Nat × Nat) :=
  ((List.range n).map (fun i => (List.range 64).map (fun d => (i, (i + d + 1) % n)))).flatten

/-- The least-squares line of target on t: gain and offset before rounding; `none` where the variance of t is 0. -/
def fitLine (xs : List (FV × FV)) : Option (FV × FV) :=
  let n := ofInt xs.length
  let sx := xs.foldl (fun s p => fadd s p.1) zero32
  let sy := xs.foldl (fun s p => fadd s p.2) zero32
  let sxx := xs.foldl (fun s p => fadd s (fmul p.1 p.1)) zero32
  let sxy := xs.foldl (fun s p => fadd s (fmul p.1 p.2)) zero32
  let den := fsub (fmul n sxx) (fmul sx sx)
  if den.isZero then none
  else some (fdiv (fsub (fmul n sxy) (fmul sx sy)) den, fdiv (fsub (fmul sy sxx) (fmul sx sxy)) den)

/-- One FP32 value below or above in the order of keys, by a choice of `Config`; other choices leave it. -/
def stepKey (x : FV) (c : Nat) : W32 :=
  let k := keyOf x
  e32 (valOf (if c = 0 then k - 1 else if c = 1 then k + 1 else k))

/-- Fill the empty entries of a sketch table and make it rise (R166). -/
def fillTable (l : List (Option W32)) : List W32 :=
  let first := (l.filterMap id).headD 0
  (l.foldl (fun (p : List W32 × W32 × W32) x =>
    let v := x.getD p.2.1
    let t : W32 := if p.2.2.toNat ≤ v.toNat then v else p.2.2
    (p.1 ++ [t], v, t)) ([], first, 0)).1

/-- The value at a rank of a list of keys. -/
def keyAt (l : List W32) (rank : Nat) : W32 := nth (sortBy (fun a b => decide (a.toNat ≤ b.toNat)) l) rank 0

/-- The relative errors of samples under a version, and their mean (R177, R178, R185). -/
def meanErr (c : IndexCfg) (v : CodeVer) (ps : List (List FV)) : W32 :=
  let sum := ps.foldl (fun s p => match relErr c v p with
    | some x => add32 s x
    | none => s) zero32
  e32 (div32 sum (ofInt ps.length))

/-- The version that the fit derives from samples (R164-R166), and whether its distance fit fell back. `rrs` are the
samples' rerank vectors where the index has them. The fit falls back too where the offset is not finite, and pairs with the NaN key
are not ranked, so that the block meets R100: DEDUCED, log entry 106. -/
def fitVersion (c : IndexCfg) (num clip quantile : Nat) (ps rrs : List (List FV)) : CodeVer × Bool :=
  let gs := (List.range (codeElems c / 16)).map (fun j => calibGroup c clip ps j)
  let v0 : CodeVer :=
    { num := num, eOn := 0, scales := gs.map Prod.fst, elems := (gs.map Prod.snd).flatten, biases := [],
      signs := signsOf c num, distG := 0x3F800000, distOff := 0, groupW := groupWeights c (gs.map Prod.fst), sketchTable := [],
      mse := 0 }
  let codes := ps.map (fun p => (codeOf c v0 p).1)
  let v1 := { v0 with
    biases := v0.signs.map (fun sg =>
      e32 (nth (sortVals (codes.map (fun x => hyperSum sg (dequant c v0 x)))) (ps.length / 2) zero32).neg) }
  let pairs := fitPairs ps.length
  let target (a b : Nat) : FV :=
    if c.rrFmt = 0 then metricDist c.metric 4 (nth ps a []) (nth ps b [])
    else metricDist c.metric (blockLog c.rrFmt) (nth rrs a []) (nth rrs b [])
  let xs := pairs.map (fun p => (codeSum c v1 (nth codes p.1 0) (nth codes p.2 0), target p.1 p.2))
  let ws := xs.map (fun p => (e32 p.1, e32 p.2))
  let line := (fitLine xs).bind (fun l =>
    let g := stepKey (rne32 l.1) (Config.fitStepG ws)
    let o := stepKey (rne32 l.2) (Config.fitStepOff ws)
    if positive32 g && finite32 o then some (g, o) else none)
  let v2 := { v1 with distG := (line.map Prod.fst).getD 0x3F800000, distOff := (line.map Prod.snd).getD 0 }
  let sketches := codes.map (sketchOf c v2)
  let keys := pairs.map (fun p =>
    (popcount (hyperCount c.format) (nth sketches p.1 0 ^^^ nth sketches p.2 0),
     codeKey c v2 (nth codes p.1 0) (nth codes p.2 0)))
  let table := fillTable ((List.range (hyperCount c.format + 1)).map (fun h =>
    match (keys.filter (fun k => k.1 == h && k.2 != nanKey)).map Prod.snd with
    | [] => none
    | l => some (keyAt l (l.length * quantile / 100))))
  let v3 := { v2 with sketchTable := table ++ List.replicate (65 - table.length) 0 }
  ({ v3 with mse := meanErr c v3 ps }, line.isNone)

end Sys2Proof.Machine
end

