-- ==== Sys2Proof/Machine/IndexOps.lean ====
section
/-!
DEFINITION. Operations on indexes: placement, records, identifier map, side-list chains, journal rings, batches, the
low-water epoch and deferred failures (R26-R59, R134-R156).
-/
namespace Sys2Proof.Machine

/-! ### Indexes, partitions, records -/

def indexAt (s : State) (i : Nat) : Option Index := look s.indexes i
def withIndex (s : State) (i : Nat) (f : Index → Index) : State := { s with indexes := alter s.indexes i f }
def partAt (x : Index) (p : Nat) : Option Part := x.parts[p]?
def withPart (s : State) (i p : Nat) (f : Part → Part) : State :=
  withIndex s i (fun x => { x with parts := x.parts.modify p f })

/-- The stacks of a partition's set in ascending order, and of an index (R40, R41). -/
def stacksOf (p : Part) : List Nat := members p.mask 16
def indexMask (x : Index) : Nat := x.parts.foldl (fun m p => m ||| p.mask) 0
def indexStacks (x : Index) : List Nat := members (indexMask x) 16

/-- Compute dies that hold a stack of a mask: two stacks each (R17). -/
def diesOfMask (mask : Nat) : List Nat := (List.range 8).filter (fun d => bit mask (2 * d) || bit mask (2 * d + 1))
def indexDies (x : Index) : List Nat := diesOfMask (indexMask x)

/-- The stack of a slot (R41), and its record index there. -/
def stackOfSlot (p : Part) (slot : Nat) : Nat := nth (stacksOf p) (slot % max 1 (stacksOf p).length) 0
def totalSlots (p : Part) : Nat := p.perStack * (stacksOf p).length

def recOf (p : Part) (slot : Nat) : Rec := (look p.recs slot).getD {}
def setRec (p : Part) (slot : Nat) (r : Rec) : Part :=
  { p with recs := if r = {} then forget p.recs slot else keep slot r p.recs }

/-- STATE bits (R31). -/
def isLive (r : Rec) : Bool := r.state.getLsbD 7
def isTomb (r : Rec) : Bool := r.state.getLsbD 6
def isRoute (r : Rec) : Bool := r.state.getLsbD 5
def isInSide (r : Rec) : Bool := r.state.getLsbD 4
def isMirrored (r : Rec) : Bool := r.state.getLsbD 3

def setBit (b : BitVec 8) (i : Nat) (v : Bool) : BitVec 8 :=
  if v then b ||| BitVec.ofNat 8 (2 ^ i) else b &&& ~~~(BitVec.ofNat 8 (2 ^ i))

/-- Committed and deleted at an epoch (R30); observed (R138). -/
def committedAt (r : Rec) (e : Nat) : Bool := decide (r.commit ≤ e)
def deletedBy (r : Rec) (e : Nat) : Bool := decide (r.delete ≤ e)
def observed (r : Rec) (e : Nat) : Bool := isLive r && committedAt r e && !(deletedBy r e)

/-- Present occupants (06). -/
def isPresent (r : Rec) : Bool := isLive r && r.delete == noEpoch

/-- Present occupants of an identifier: (partition, slot). -/
def presentSlots (x : Index) (ext : Nat) : List (Nat × Nat) :=
  (x.parts.zipIdx.map (fun p => (p.1.recs.filter (fun r => isPresent r.2 && r.2.extId == ext)).map (fun r => (p.2, r.1)))).flatten

/-- A slot identifier (R26). -/
def slotId (p slot : Nat) : Nat := put 26 p + slot

/-- The partition of an identifier under PART_FN 0 (R42). -/
def hashId (x : Nat) : Nat := (x * 0x9E3779B97F4A7C15) % 2 ^ 64
def hashPart (x parts : Nat) : Nat := ((hashId x >>> 32) * parts) >>> 32

/-- Occupied and reserved slots of a partition. -/
def occupied (p : Part) : Nat := (p.recs.filter (fun r => isLive r.2)).length
def slotFree (p : Part) (slot : Nat) : Bool := decide (slot < totalSlots p) && slot != nullSlot && !(isLive (recOf p slot))
def canReserve (p : Part) : Bool := decide (occupied p + p.reserved < totalSlots p)

/-- Identifier-map entries: in all, and in use (R55, R57). -/
def idmapEntries (s : State) : Nat := ctl s 0x310001 * 2 ^ 25
def idmapUsed (s : State) : Nat :=
  sumOf (s.indexes.map (fun x => sumOf (x.2.parts.map (fun p => occupied p + p.reserved))))

/-! ### Placement at CREATE_INDEX (R40, R41, R48, R52, R56, R57) -/

def mib2 : Nat := 2097152
/-- Bytes of a stack's record area and of the rerank area (R56, R57). -/
def recordArea (s : State) : Nat := (768 - ctl s 0x300001) * 2 ^ 30 / 16
def rerankArea (s : State) : Nat := (2048 - ctl s 0x310001) * 2 ^ 30

/-- A stack's share of the near-memory reserve and its parts: side lists, tablatures and encoder weights, mirror backing copy,
command staging and luthier work space (R56). -/
def nearShare (s : State) : Nat := ctl s 0x300001 * 2 ^ 30 / 16
def sideArea (s : State) : Nat := nearShare s / 2
def tabShare (s : State) : Nat := nearShare s / 4
def backingArea (s : State) : Nat := nearShare s / 16
def stagingArea (s : State) : Nat := nearShare s * 3 / 16

/-- The far-tier reserve and its parts: write journals, identifier map, luthier work area, snapshot-pin table with the retained
event log (R57). -/
def farReserve (s : State) : Nat := ctl s 0x310001 * 2 ^ 30
def journalArea (s : State) : Nat := farReserve s * 3 / 8
def idmapArea (s : State) : Nat := farReserve s / 2
def workArea (s : State) : Nat := farReserve s * 3 / 32
def pinLogArea (s : State) : Nat := farReserve s / 32

/-- Where a far-tier address lies: byte of its 256-byte block, package F00-F31, location within the package (R51). -/
def farByte (a : Nat) : Nat := bits a 7 0
def farPackage (a : Nat) : Nat := bits a 12 8
def farLocation (a : Nat) : Nat := a / 2 ^ 13

/-- The tweak under which the 256-byte block of a far-tier address is encrypted (R446). -/
def farTweak (a : Nat) : Nat := bits a 40 8

/-- The lowest aligned base at which `len` bytes meet no used range and end within `limit`. -/
def firstFit (used : List (Nat × Nat)) (limit len : Nat) : Option Nat :=
  let starts := 0 :: used.map (fun u => roundUp (u.1 + u.2) mib2)
  let good := starts.filter (fun a => decide (a + len ≤ limit) && used.all (fun u => decide (a + len ≤ u.1 ∨ u.1 + u.2 ≤ a)))
  good.foldl (fun b a => match b with
    | none => some a
    | some c => some (min c a)) none

def regionLenOf (f : Format) (perStack : Nat) : Nat := roundUp (perStack * recBytes f) mib2
/-- RERANK stride and the length of a rerank region (R52). -/
def rrStride (c : IndexCfg) : Nat := c.rrDims * rrSize c.rrFmt
def rrLen (c : IndexCfg) (slots : Nat) : Nat := roundUp (slots * rrStride c) mib2

/-- Ranges in use on a stack's record area, and in the rerank area. -/
def usedOnStack (s : State) (m : Nat) : List (Nat × Nat) :=
  (s.indexes.map (fun x => (x.2.parts.map (fun p =>
    match look p.bases m with
    | some b => [(b, regionLenOf x.2.cfg.format p.perStack)]
    | none => [])).flatten)).flatten
def usedRerank (s : State) : List (Nat × Nat) :=
  (s.indexes.map (fun x => x.2.parts.filterMap (fun p =>
    if x.2.cfg.rrFmt = 0 then none else some (p.rerankBase, rrLen x.2.cfg (totalSlots p))))).flatten

/-- Place a partition's regions on its stacks, first-fit, beside those in `parts` (R41). -/
def placePart (s : State) (f : Format) (done : List Part) (p : Part) : Option Part :=
  let len := regionLenOf f p.perStack
  let bases := (stacksOf p).map (fun m =>
    let used := usedOnStack s m ++ done.filterMap (fun q => (look q.bases m).map (fun b => (b, regionLenOf f q.perStack)))
    (firstFit used (recordArea s) len).map (fun b => (m, b)))
  if bases.all Option.isSome then some { p with bases := bases.filterMap id } else none

def placeAll (s : State) (f : Format) : List Part → List Part → Option (List Part)
  | done, [] => some done
  | done, p :: r =>
    match placePart s f done p with
    | some q => placeAll s f (done ++ [q]) r
    | none => none

/-- Place the rerank regions (R52). -/
def placeRerank (s : State) (c : IndexCfg) : List Part → List Part → Option (List Part)
  | done, [] => some done
  | done, p :: r =>
    let used := usedRerank s ++ done.map (fun q => (q.rerankBase, rrLen c (totalSlots q)))
    match firstFit used (rerankArea s) (rrLen c (totalSlots p)) with
    | some b => placeRerank s c (done ++ [{ p with rerankBase := b }]) r
    | none => none

def mirrorBytes (f : Format) : Nat := if f = .w then 192 else 128

/-- Bytes of a die's hub store that the quotas of partitions take (R48). -/
def quotaBytes (f : Format) (parts : List Part) (d : Nat) : Nat :=
  sumOf (parts.map (fun p => if (diesOfMask p.mask).contains d then p.quota * mirrorBytes f else 0))
def quotaFits (s : State) (f : Format) (parts : List Part) : Bool :=
  (List.range 8).all (fun d =>
    decide (sumOf (s.indexes.map (fun x => quotaBytes x.2.cfg.format x.2.parts d)) + quotaBytes f parts d
      ≤ ctl s 0x300003 * 1048576))

/-! ### Side-list chains (R45, R46, R153, R154) -/

def chainOf (p : Part) (m : Nat) : Chain := (look p.chains m).getD {}
def setChain (p : Part) (m : Nat) (c : Chain) : Part := { p with chains := keep m c p.chains }

/-- Chunks of a stack's side-list area, those in use, and those free over all stacks (R56, R58). -/
def chunksPerStack (s : State) : Nat := sideArea s / 65536
def chunksUsed (s : State) (m : Nat) : Nat :=
  sumOf (s.indexes.map (fun x => sumOf (x.2.parts.map (fun p => (chainOf p m).chunks.length))))
def chunksFree (s : State) : Nat := sumOf ((List.range 16).map (fun m => chunksPerStack s - chunksUsed s m))

/-- The indexes of the chunks in use on a stack, and the chunk that the next one to need takes: which free chunk is taken is not
stated (R45); the model takes the lowest: DESIGN CHOICE, log entry 98. -/
def chunksTaken (s : State) (m : Nat) : List Nat :=
  (s.indexes.map (fun x => (x.2.parts.map (fun p => (chainOf p m).chunks.map Prod.fst)).flatten)).flatten
def freeChunk (s : State) (m : Nat) : Option Nat :=
  let taken := chunksTaken s m
  lowestFrom (fun c => !(taken.contains c)) 0 (min (chunksPerStack s) (taken.length + 1))

/-- The stack can take one more entry of the chain (R45). -/
def sideRoom (s : State) (f : Format) (p : Part) (m : Nat) : Bool :=
  (match (chainOf p m).chunks.getLast? with
   | some c => decide (c.2 < chunkEntries f)
   | none => false) || (freeChunk s m).isSome

/-- Append an entry; a chain whose last chunk is full takes chunk `free` (R45). -/
def chainAppend (f : Format) (c : Chain) (e : SideEntry) (free : Nat) : Chain :=
  let grown := match c.chunks.getLast? with
    | some k => if k.2 < chunkEntries f then c.chunks.dropLast ++ [(k.1, k.2 + 1)] else c.chunks ++ [(free, 1)]
    | none => [(free, 1)]
  { c with entries := c.entries ++ [{ e with pos := c.next }], next := c.next + 1, chunks := grown }

/-- Drop whole chunks of released entries: `gone` entries of the first chunk and on are released. -/
def dropChunks : Nat → List (Nat × Nat) → List (Nat × Nat)
  | _, [] => []
  | gone, k :: r => if k.2 ≤ gone then dropChunks (gone - k.2) r else k :: r

/-- Change the side-list entry of a record (R46). -/
def withSide (p : Part) (slot gen : Nat) (f : SideEntry → SideEntry) : Part :=
  { p with chains := p.chains.map (fun c => (c.1, { c.2 with
      entries := c.2.entries.map (fun e => if e.slot == slot && e.gen == gen then f e else e) })) }

/-- The merge epoch of an entry, none while it is unmerged (R143). -/
def mergeEpoch (c : Chain) (pos : Nat) : Option Nat := (c.marks.find? (fun m => decide (pos < m.1))).map Prod.snd

/-- An index's share of side-list area in use: the highest stack. -/
def stackHigh (s : State) (x : Index) (pct : Nat) : Option Nat :=
  (indexStacks x).find? (fun m => decide (chunksPerStack s * pct ≤ chunksUsed s m * 100))

/-- A stack of an index at or above a mark, `m` before the others. -/
def highStack (s : State) (x : Index) (m pct : Nat) : Option Nat :=
  if chunksPerStack s * pct ≤ chunksUsed s m * 100 then some m else stackHigh s x pct

/-- An index that leaves RUN where one of its stacks is high: for FULL where a write waits, else for PRESS. -/
def leaveRun (s : State) (i : Nat) (high : Option Nat) : State :=
  match high with
  | none => s
  | some n => withIndex (raise s 0x0301 1 3 n (index := i) (args := [n])) i
      (fun x => { x with luthier := if x.waiting then .full else .press })

/-- An index that leaves PRESS for RUN where none of its stacks is high. -/
def leavePress (s : State) (i : Nat) (high : Option Nat) : State :=
  match high with
  | none => withIndex s i (fun x => { x with luthier := .run })
  | some _ => s

/-- An index's state by the chunks in use on its stacks. -/
def pressIndex (m high : Nat) (s : State) (i : Nat) (x : Index) : State :=
  if x.luthier = .run then leaveRun s i (highStack s x m high)
  else if x.luthier = .press then leavePress s i (stackHigh s x (high - 10)) else s

/-- RUN and PRESS follow the chunks in use on the stacks of the indexes (R154); `m` is the stack whose chunks changed, which the
event names where it is high. -/
def pressCheck (s : State) (m : Nat) : State :=
  s.indexes.foldl (fun t p => if (indexStacks p.2).contains m then pressIndex m (ctl s 0x680007) t p.1 p.2 else t) s

/-- The state to which an index returns from QUIET (R154). -/
def afterQuiet (s : State) (x : Index) : LuthierState :=
  if x.waiting then .full else if (stackHigh s x (ctl s 0x680007)).isSome then .press else .run

/-! ### The position of a retune pass (R183, R187) -/

/-- Slots of an index: a pass goes over all of them (the example of chapter 7). -/
def indexSlots (x : Index) : Nat := sumOf (x.parts.map totalSlots)

/-- A pass is under way. -/
def inPass (t : Retune) : Bool := t.state == .pass1 || t.state == .pass2

/-- The pass position, in billionths of a slot: it moves at RETUNE_RATE, and is held in QUIET. -/
def passUnits (s : State) (x : Index) : Nat :=
  if x.luthier = .quiet then x.retune.passed else x.retune.passed + (s.time.tick - x.retune.since) * ctl s 0x680013

/-- Fix the position reached so far, before the rate changes or the luthier state enters or leaves QUIET. -/
def fixPass (s : State) (x : Index) : Index :=
  if inPass x.retune then { x with retune := { x.retune with passed := passUnits s x, since := s.time.tick } } else x

/-- Fix the pass position of every index. -/
def fixPasses (s : State) : State := { s with indexes := s.indexes.map (fun x => (x.1, fixPass s x.2)) }

/-! ### Batches (R136) -/

def openEpoch (x : Index) : Nat := x.current + x.closed.length + 1
/-- Epochs remain (R137). -/
def epochsLeft (x : Index) : Bool := decide (openEpoch x < noEpoch)

/-- The batch that takes items; a new one opens now. -/
def batchNow (s : State) (x : Index) : Batch := x.open_.getD { epoch := openEpoch x, opened := s.time.tick }

/-- The newest version that the index holds or has closed a batch for, and the one under which a write of an epoch is encoded:
the newest whose shadow epoch is not above it (R180). -/
def newestVer (x : Index) : Option CodeVer := x.vers.getLast?
def insertVer (x : Index) (epoch : Nat) : Option CodeVer := (x.vers.filter (fun v => decide (v.eOn ≤ epoch))).getLast?

/-- The newest version that is published (R177, R178). -/
def newestLive (x : Index) : Option CodeVer := insertVer x x.current

/-- Close the open batch: a version change in it makes the shadow the newest version (R180). -/
def closeBatch (s : State) (i : Nat) : State :=
  withIndex s i (fun x =>
    match x.open_ with
    | none => x
    | some b =>
      let x := { x with open_ := none, closed := x.closed ++ [b] }
      if b.works.contains .version then
        match x.retune.shadow with
        | some v => { x with vers := x.vers ++ [{ v with eOn := b.epoch }] }
        | none => x
      else x)

/-- A luthier work item joins the open batch (R136). -/
def joinBatch (s : State) (i : Nat) (w : Work) : State :=
  withIndex s i (fun x =>
    let b := batchNow s x
    { x with open_ := some { b with works := b.works ++ [w] } })

/-! ### Journal rings (R53, R54) -/

def ringOf (s : State) (i : Nat) : Ring := if i % 2 = 0 then s.ring0 else s.ring1
def setRing (s : State) (i : Nat) (r : Ring) : State := if i % 2 = 0 then { s with ring0 := r } else { s with ring1 := r }
def ringBytes (s : State) : Nat := journalArea s / 2

/-- The offset of the head: of the oldest entry held. -/
def ringHead (r : Ring) : Nat := (r.entries.head?.map (·.off)).getD r.tail

/-- Where an entry of `n` bytes goes: at the tail, or after the skip to the start; none without room. It never reaches the head,
which at offset 0 stands at the ring's end too (R54). -/
def ringPlace (s : State) (r : Ring) (n : Nat) : Option Nat :=
  let size := ringBytes s
  if r.entries = [] then (if r.tail + n ≤ size then some r.tail else if n ≤ size then some 0 else none)
  else
    let h := ringHead r
    if h < r.tail then (if r.tail + n < (if h = 0 then size else size + 1) then some r.tail else if n < h then some 0 else none)
    else if r.tail + n < h then some r.tail else none

/-- Bytes of a ring that unretired entries and skips hold. -/
def ringUsed (s : State) (r : Ring) : Nat :=
  if r.entries = [] then 0 else (r.tail + ringBytes s - ringHead r) % ringBytes s

/-- Entries retire from the head (R54). -/
def retireRing (r : Ring) : Ring :=
  { r with entries := r.entries.dropWhile (fun e => e.state == 3 || (e.state == 0xF && e.reported)) }
def retire (s : State) (i : Nat) : State := setRing s i (retireRing (ringOf s i))

/-- Change the entries that satisfy a test. -/
def withEntries (s : State) (i : Nat) (p : JEntry → Bool) (f : JEntry → JEntry) : State :=
  let r := ringOf s i
  setRing s i { r with entries := r.entries.map (fun e => if p e then f e else e) }

/-- Entries of an index. -/
def entriesOf (s : State) (i : Nat) : List JEntry := (ringOf s i).entries.filter (fun e => e.index == i)

/-- Two names of one write. -/
def sameWrite (a : JEntry) (e : JEntry) : Bool := a.slot == e.slot && a.gen == e.gen && a.ord == e.ord && a.index == e.index

/-- The write's command, while it is outstanding. -/
def writeCmd (s : State) (e : JEntry) : Option OutCmd :=
  let c := chan s e.slot
  if c.gen = e.gen then c.cmds.find? (fun o => o.ord == e.ord) else none

/-- The range-lock entry of a write goes (R215). -/
def unlock (s : State) (e : JEntry) : State :=
  { s with rlocks := s.rlocks.filter (fun l => !(l.slot == e.slot && l.ord == e.ord)) }

/-- An accepted write fails (R135, R212, R218): STATE 0x0F, its reservations are released, and its cause goes into its own
entry where that is not yet written, else into a deferred report. -/
def failWrite (s : State) (e : JEntry) (st : Status) : State :=
  let op := cOpcode e.word
  let s := bump (unlock s e) 0x33 1
  let s := withIndex s e.index (fun x =>
    let x := if op ≠ 0x11 ∧ e.state = 1 then
        let p := if x.cfg.partFn = 0 then hashPart (wExtId e.word) x.parts.length else cPartition e.word
        { x with parts := x.parts.modify p (fun p => { p with reserved := p.reserved - 1 }) }
      else x
    let note (b : Batch) : Batch := if b.epoch = e.epoch ∧ e.state = 1 then { b with applied := b.applied + 1 } else b
    { x with open_ := x.open_.map note, closed := x.closed.map note })
  match writeCmd s e with
  | some o =>
    let s := withEntries s e.index (sameWrite e) (fun e => { e with state := 0xF, reported := true })
    let s := raise s 0x0201 1 (handle := handleOf s e.slot) (args := [e.seq, statusCode st])
    finish s e.slot o.seq { status := st, cause := { poison := st == .partialPoison } }
  | none =>
    let held := !e.kept && (chan s e.slot).gen == e.gen && decide ((chan s e.slot).reports.length < 64)
      && (chan s e.slot).state != .free && (chan s e.slot).state != .destroying && (chan s e.slot).state != .aborting
    let s := withEntries s e.index (sameWrite e) (fun e => { e with state := 0xF, reported := !held })
    let c := chan s e.slot
    if e.kept || c.gen != e.gen then raise s 0x0201 1 (handle := put 20 e.gen + e.slot) (args := [e.seq, statusCode st])
    else deferReport s e.slot e.seq st

/-! ### The low-water epoch (R149) -/

/-- The admission epoch that a finished, unwritten search or fetch of an index holds. -/
def epochOfDone (i : Nat) (o : OutCmd) : Option Nat :=
  match o.stage with
  | .done c => if usesPin (cOpcode o.word) ∧ cIndex o.word = i ∧ 0 < c.epoch then some c.epoch else none
  | _ => none

/-- The luthier walks of an index in flight (R144, R149). -/
def luthierWalks (x : Index) : List LuthierWalk := (x.parts.map (fun p => p.chains.filterMap (fun c => c.2.walk))).flatten

/-- Admission epochs in flight on an index: searches, fetches, luthier walks and pins. -/
def epochsHeld (s : State) (i : Nat) : List Nat :=
  (s.queries.filter (fun q => q.index == i)).map (·.epoch)
    ++ (((look s.indexes i).map (fun x => (luthierWalks x).map (·.epoch))).getD [])
    ++ (s.chans.map (fun c => c.2.cmds.filterMap (epochOfDone i))).flatten
    ++ (s.pinSlots.filter (fun p => p.2.live && p.2.index == i)).map (fun p => p.2.epoch)

def trueLowWater (s : State) (i : Nat) (x : Index) : Nat := (epochsHeld s i).foldl min x.current

/-! ### Graph state -/

/-- An occupant that the graph holds: past the merge position of its chain, or no longer in the side list. -/
def isMerged (p : Part) (slot : Nat) : Bool :=
  let r := recOf p slot
  let c := chainOf p (stackOfSlot p slot)
  isLive r && (!(isInSide r) || c.entries.any (fun e =>
    e.slot == slot && e.gen == r.gen && decide (e.pos < c.merged)))

/-- A linked, deleted occupant that waits for a repair scan (R148). -/
def awaitsScan (p : Part) (current slot : Nat) : Bool :=
  let r := recOf p slot
  isLive r && deletedBy r current && isMerged p slot && (look p.repair slot).isNone
def repairSet (x : Index) (p : Part) : List (Nat × Nat) :=
  (p.recs.filter (fun r => awaitsScan p x.current r.1)).map (fun r => (r.1, r.2.gen))

/-- A deleted occupant without a published repair epoch; repaired and waiting (R157). -/
def repairPending (x : Index) (p : Part) : Nat :=
  (p.recs.filter (fun r => isLive r.2 && deletedBy r.2 x.current &&
    !((look p.repair r.1).any (fun e => decide (e.1 ≤ x.current))))).length
def reclaimPending (x : Index) (p : Part) : Nat := (p.repair.filter (fun r => decide (r.2.1 ≤ x.current))).length

/-- Committed entries not yet merged (R157). -/
def unmerged (x : Index) : List SideEntry :=
  (x.parts.map (fun p => (p.chains.map (fun c =>
    c.2.entries.filter (fun e => decide (e.commit ≤ x.current) && (mergeEpoch c.2 e.pos).isNone))).flatten)).flatten

/-- A pin identifier (R152). -/
def pinId (n : Nat) (p : PinSlot) : Nat := put 20 p.gen + put 12 p.index + n
def pinOf (s : State) (id index : Nat) : Option PinSlot :=
  (look s.pinSlots (id % 4096)).filter (fun p => p.live && p.gen == bits id 31 20 && p.index == bits id 19 12 && p.index == index)

end Sys2Proof.Machine
end

