-- ==== Sys2Proof/Machine/WalkOps.lean ====
section
/-!
DEFINITION. The walk rules: visited filter, pruning bound, upper-layer descent, expansion, responses (R60-R76, R86, R163).
-/
namespace Sys2Proof.Machine

/-- The key of +∞ and of −∞ (R96). -/
def infKey : W32 := 0xFF800000
def negInfKey : W32 := 0x007FFFFF

/-- Contexts of a walk (R60): the smallest power of two at or above ⌈L ÷ 64⌉. -/
def contextsOf (l : Nat) : Nat := 2 ^ padLog (ceilDiv l 64)

/-- The parameters of a quality level (R86), with k. -/
def levelParams (k n : Nat) : Params :=
  match n with
  | 1 => { k := k, cw := 16, hop := 64, pf := 1, rerank := 16, slack := 0 }
  | 2 => { k := k, cw := 24, hop := 96, pf := 1, rerank := 24, slack := 16 }
  | 3 => { k := k, cw := 32, hop := 128, pf := 2, rerank := 32, slack := 32 }
  | 4 => { k := k, cw := 48, hop := 192, pf := 2, rerank := 48, slack := 48 }
  | 5 => { k := k, cw := 64, hop := 256, pf := 3, rerank := 64, slack := 64 }
  | 6 => { k := k, cw := 96, hop := 384, pf := 3, rerank := 96, slack := 96 }
  | 7 => { k := k, cw := 128, hop := 512, pf := 4, rerank := 128, slack := 128 }
  | 8 => { k := k, cw := 256, hop := 1024, pf := 4, rerank := 256, slack := 192 }
  | _ => { k := k, cw := 512, hop := 2048, pf := 6, rerank := 512, slack := 256 }

/-- The effective width L. -/
def effWidth (p : Params) : Nat := max p.cw p.k

/-! ### Visited filter (R62) -/

/-- The two bit positions of a slot in a filter of 2^b bits. -/
def visitBits (b slot : Nat) : Nat × Nat :=
  let h1 := (slot * 0x9E3779B1) % 2 ^ 32
  let h2 := (h1 * 0x85EBCA6B) % 2 ^ 32
  (h1 >>> (32 - b), h2 >>> (32 - b))

def filterLog (g : Nat) : Nat := 15 + Nat.log2 g

def isVisited (g : Nat) (seen : List Nat) (slot : Nat) : Bool :=
  let i := visitBits (filterLog g) slot
  seen.contains i.1 && seen.contains i.2

def visit (g : Nat) (seen : List Nat) (slot : Nat) : List Nat :=
  let i := visitBits (filterLog g) slot
  let seen := if seen.contains i.1 then seen else i.1 :: seen
  if seen.contains i.2 then seen else i.2 :: seen

/-! ### Candidate queue and bound (R61, R71) -/

/-- Ascending keys; the order of equal keys is not specified (R72, R90). -/
def fretLe (a b : Fret) : Bool :=
  if a.key ≠ b.key then decide (a.key.toNat < b.key.toNat) else Config.tieOrder a.key.toNat a.slot b.slot

def insertFret (f : Fret) (l : List Fret) : List Fret := insertBy fretLe f l

/-- The key of a value rounded toward +∞ in FP32. -/
def keyUp (v : FV) : W32 :=
  let r := rne32 v
  let k := keyOf r
  if flt r v then (if k = 0x7FFFFFFE then 0x80000000 else k + 1) else k

/-- The pruning bound of a candidate queue (R71). -/
def boundOf (l slack : Nat) (frets : List Fret) : W32 :=
  if frets.length < l then infKey
  else
    match frets.getLast? with
    | none => infKey
    | some w =>
      let d := valOf w.key
      match d with
      | .fin _ _ _ => keyUp (fadd d (fmul d.abs (fdiv (ofInt slack) (ofInt 1024))))
      | .inf neg => if neg then negInfKey else infKey
      | .nan _ => infKey

/-! ### Filter predicate (R75) -/

def passes (f : Filter) (tag : Nat) : Bool :=
  match f.op with
  | 1 => tag &&& f.mask == f.value &&& f.mask
  | 2 => tag &&& f.mask != 0
  | 3 => tag &&& f.mask == f.mask
  | 4 => tag &&& f.mask == 0
  | _ => true

/-! ### Versions, sources, sketches (R163, R179) -/

/-- A version that the index holds, or the shadow version of its retune. -/
def verOf (x : Index) (n : Nat) : Option CodeVer :=
  match x.vers.find? (fun v => v.num == n) with
  | some v => some v
  | none => x.retune.shadow.filter (fun v => v.num == n)

/-- Versions whose live interval contains an epoch, older first (R179). -/
def liveVers (x : Index) (e : Nat) : List CodeVer :=
  x.vers.filter (fun v => decide (v.eOn ≤ e) && (v.eOff.all (fun o => decide (e < o))))

/-- src of an occupant (R163). -/
def srcOf (x : Index) (p : Part) (slot : Nat) : List FV :=
  let r := recOf p slot
  if x.cfg.rrFmt ≠ 0 then (project x.cfg x.proj (storedVec x.cfg.rrFmt ((look p.rerank slot).getD []))).1
  else
    match verOf x r.codeVer with
    | some v => dequant x.cfg v r.code
    | none => []

/-- The code of an occupant under a version: its own, or that of its source. -/
def codeUnder (x : Index) (p : Part) (slot : Nat) (v : CodeVer) : Nat :=
  if (recOf p slot).codeVer = v.num then (recOf p slot).code else (codeOf x.cfg v (srcOf x p slot)).1

/-- The sketch of an occupant under a version (R163). -/
def sketchUnder (x : Index) (pn : Nat) (p : Part) (slot : Nat) (v : CodeVer) : Nat :=
  let r := recOf p slot
  let entry := x.retune.table.find? (fun e => e.part == pn && e.slot == slot && e.gen == r.gen)
  if r.codeVer = v.num then sketchOf x.cfg v r.code
  else
    match entry, x.retune.shadow with
    | some e, some sh => if sh.num = v.num then e.sketch else sketchOf x.cfg v (codeOf x.cfg v (srcOf x p slot)).1
    | _, _ => sketchOf x.cfg v (codeOf x.cfg v (srcOf x p slot)).1

/-! ### Expansion (R68) -/

/-- What a bridge filter answers, with whether it logs a record-state event (R32, R35). Survivors stand in the order of the
neighbour entries: R70 leaves their order open. DESIGN CHOICE, log entry 101. -/
def expand (x : Index) (p : Part) (opers : List Operand) (e : Nat) (f : Filter) (slot : Nat) (bound : W32) (bad : Bool)
    (expTag : Nat) : Response × Bool :=
  let r := recOf p slot
  let none_ : Response := { expTag := expTag, slot := slot, eligible := false, followed := false, nodeKey := nanKey }
  if bad then ({ none_ with poison := true }, false)
  else if !(isLive r) then (none_, isTomb r)
  else
    match opers.find? (fun o => o.ver == r.codeVer), verOf x r.codeVer with
    | some o, some v =>
      let dead := isTomb r && deletedBy r e
      let followed := committedAt r e && (!dead || isRoute r)
      let key := codeKey x.cfg v o.code r.code
      let fails := !(passes f r.filterTag)
      let eligible := committedAt r e && !dead && !fails && key != nanKey
      let n := min r.nbrCount (degree x.cfg.format)
      let near := (List.zip (r.nbr.take n) (r.sketch.take n)).map (fun s => (s.1, sketchKey x.cfg v o.sketch s.2))
      ({ expTag := expTag, slot := slot, eligible := eligible, followed := followed, filterFail := fails,
         routedDeleted := followed && dead, nodeKey := key, extId := if eligible then r.extId else nullId,
         survivors := if followed then near.filter (fun s => decide (s.2.toNat < bound.toNat)) else [] },
       decide (degree x.cfg.format < r.nbrCount))
    | _, _ => ({ none_ with verMiss := true }, false)

/-- Apply the survivors of a response (R73). -/
def takeSurvivors (g l slack : Nat) : List (Nat × W32) → List Fret → List Nat → List Fret × List Nat
  | [], frets, seen => (frets, seen)
  | v :: r, frets, seen =>
    let bound := boundOf l slack frets
    let full := decide (l ≤ frets.length)
    let worst := (frets.getLast?.map (·.key)).getD nanKey
    if !(decide (v.2.toNat < bound.toNat)) || isVisited g seen v.1 || (full && decide (worst.toNat ≤ v.2.toNat)) then
      takeSurvivors g l slack r frets seen
    else
      let frets := if full then frets.dropLast else frets
      takeSurvivors g l slack r (insertFret { key := v.2, slot := v.1 } frets) (visit g seen v.1)

/-- Apply a response to a candidate queue (R73): `none` where its fret has left the queue. -/
def applyResponse (g l slack : Nat) (x : Response) (frets : List Fret) (seen : List Nat) : Option (List Fret × List Nat) :=
  match frets.find? (fun f => f.slot == x.slot && f.inFlight && f.tag == x.expTag) with
  | none => none
  | some f =>
    let rest := frets.filter (fun y => !(y.slot == f.slot))
    let frets := if x.eligible then
        insertFret { f with key := x.nodeKey, exact := true, expanded := true, inFlight := false, extId := x.extId } rest
      else rest
    some (if x.followed then takeSurvivors g l slack x.survivors frets seen else (frets, seen))

/-- The fret to expand next (R72). -/
def nextFret (frets : List Fret) : Option Fret := frets.find? (fun f => !f.expanded && !f.inFlight)

/-! ### Upper layers (R66) -/

def mirrorOf (p : Part) (layer slot : Nat) : Option Mirror := p.mirror.find? (fun m => m.layer == layer && m.slot == slot)
def entryPoint (p : Part) : Option Mirror := p.mirror.find? (·.entry)

/-- The distance key of a mirror entry under the operand of its version; the NaN key where the query has no operand for it
(DESIGN CHOICE, log entry 121). -/
def mirrorKey (x : Index) (opers : List Operand) (m : Mirror) : W32 :=
  match opers.find? (fun o => o.ver == m.codeVer), verOf x m.codeVer with
  | some o, some v => codeKey x.cfg v o.code m.code
  | _, _ => nanKey

/-- Greedy steps within a layer. -/
def descendLayer (x : Index) (p : Part) (opers : List Operand) : Nat → Mirror → Mirror
  | 0, m => m
  | fuel + 1, m =>
    let best := (m.nbr.filterMap (mirrorOf p m.layer)).foldl (fun (b : Option Mirror) n =>
      match b with
      | none => some n
      | some y => if (mirrorKey x opers n).toNat < (mirrorKey x opers y).toNat then some n else b) none
    match best with
    | none => m
    | some n => if (mirrorKey x opers n).toNat < (mirrorKey x opers m).toNat then descendLayer x p opers fuel n else m

/-- Descent from a layer to layer 1: the node reached in each layer, layer 1 last. -/
def descendFrom (x : Index) (p : Part) (opers : List Operand) : Nat → Nat → Mirror → List Mirror
  | 0, _, _ => []
  | _, 0, _ => []
  | fuel + 1, layer, m =>
    let at_ := (mirrorOf p layer m.slot).getD m
    let r := descendLayer x p opers p.mirror.length at_
    r :: descendFrom x p opers fuel (layer - 1) r

def descent (x : Index) (p : Part) (opers : List Operand) : List Mirror :=
  match entryPoint p with
  | none => []
  | some m => descendFrom x p opers 8 m.layer m

/-- The first fret of layer 0 (R66): the NaN key becomes the key of +∞. -/
def firstFret (x : Index) (p : Part) (opers : List Operand) : Option Fret :=
  (descent x p opers).getLast?.map (fun m =>
    let k := mirrorKey x opers m
    { key := if k = nanKey then infKey else k, slot := m.slot })

end Sys2Proof.Machine
end

