-- ==== Sys2Proof/Machine/SearchOps.lean ====
section
/-!
DEFINITION. Operations on queries: their resources, cut bins, strums, walks, merge stages, results and fabric frames (03,
05 R124-R130, 06 R139-R141, 12 R341-R347).
-/
namespace Sys2Proof.Machine

/-! ### Queries -/

def queryOf (s : State) (tag : Nat) : Option Query := s.queries.find? (fun q => q.tag == tag)
def withQuery (s : State) (tag : Nat) (f : Query → Query) : State :=
  { s with queries := s.queries.map (fun q => if q.tag == tag then f q else q) }

/-- QUERY_TAG of a host command, and of the next query that a frame brings: the next of 2^31 that no query in flight has (R117). -/
def hostTag (slot seq : Nat) : Nat := slot * 65536 + seq
def childTag (s : State) : Nat :=
  let tag (n : Nat) : Nat := 2 ^ 31 + (s.childNext + n) % 2 ^ 31
  (((List.range (s.queries.length + 1)).map tag).find? (fun t => s.queries.all (fun q => q.tag != t))).getD (tag 0)

def markCause (s : State) (tag : Nat) (f : Cause → Cause) : State := withQuery s tag (fun q => { q with cause := f q.cause })

/-- Causes. -/
def setCutFlag (c : Cause) : Cause := { c with cut := true }
def setPoison (c : Cause) : Cause := { c with poison := true }
def setFenced (c : Cause) : Cause := { c with fenced := true }
def setLate (c : Cause) : Cause := { c with late := true }
def setWon (c : Cause) : Cause := { c with arrivalWon := true }

/-- A list of a query was discarded as late: LATE is set, also in a result that awaits its completion entry (R217, R345). -/
def markLate (s : State) (tag : Nat) : State :=
  let s := markCause s tag setLate
  match queryOf s tag with
  | none => s
  | some q =>
    match q.origin with
    | .child _ _ _ _ => s
    | .host slot seq => if q.phase ≠ .done then s else withCmd s slot seq (fun o =>
        match o.stage with
        | .done k => { o with stage := .done { k with cause := setLate k.cause } }
        | _ => o)

/-- M of R125, and its merge-store granules of 64 entries (R126). -/
def mergeLimit (q : Query) : Nat := max q.params.rerank q.params.k
def granules (q : Query) : Nat := ceilDiv (mergeLimit q) 64

/-- Contexts of one of its walks (R60). -/
def walkWidth (q : Query) : Nat := contextsOf (effWidth q.params)

/-- Stacks that a query works on: those of the index, or of the partition of a SEARCH_EXACT (R64, R91). -/
def queryMask (x : Index) (q : Query) : Nat :=
  match q.exact with
  | some p => ((partAt x p).map (·.mask)).getD 0
  | none => indexMask x
def queryDies (x : Index) (q : Query) : List Nat := diesOfMask (queryMask x q)

/-- Some lag of the time base copy shows a time no later than `t` (R22). -/
def notPast (s : State) (t : Nat) : Bool := decide (s.time.base ≤ t + 80)

/-! ### Walker contexts (R19, R60, R63, R145) -/

/-- A walk-set core: served and outside the tablature set (R19, R397). -/
def walkCore (s : State) (c : Nat) : Bool := served s (c / 64) (c % 64) && !(bit (tabSet s (c / 64)) (c % 64))
def walkCores (s : State) (d : Nat) : List Nat := ((List.range 64).map (· + 64 * d)).filter (walkCore s)

/-- The die admits walks: its hub store stands (R50, R397). -/
def admitsWalks (s : State) (d : Nat) : Bool := !(dieCores s d).reload

def isEnded (w : Walk) : Bool := w.stage == .ended

/-- Walks that hold contexts: those of queries, and luthier walks, except one that waits to be placed again (R145). -/
def heldWalks (s : State) : List Walk := (s.queries.map (fun q => q.walks.filter (fun w => !(isEnded w)))).flatten
def heldLuthier (s : State) : List LuthierWalk := (s.indexes.map (fun x => luthierWalks x.2)).flatten

def ctxFree (s : State) (core n : Nat) : Bool :=
  (heldWalks s).all (fun w => w.core != core || decide (n < w.ctx ∨ w.ctx + w.g ≤ n))
    && (heldLuthier s).all (fun w => w.core != some core || decide (n < w.ctx ∨ w.ctx + w.g ≤ n))

/-- The lowest aligned block of g free contexts of a core. -/
def freeBlock (s : State) (core g : Nat) : Option Nat :=
  ((List.range (256 / max 1 g)).map (· * g)).find? (fun a => (List.range g).all (fun i => ctxFree s core (a + i)))

/-- Contexts of a die that queries may still take: LUTHIER_CTX_MIN are reserved for luthier walks, which may hold more (R145). -/
def dieRoom (s : State) (d : Nat) : Nat :=
  let luthier := sumOf ((heldLuthier s).filterMap (fun w => if w.core.any (fun c => c / 64 == d) then some w.g else none))
  (walkCores s d).length * 256 - sumOf ((heldWalks s).filterMap (fun w => if w.core / 64 = d then some w.g else none))
    - max (ctl s 0x680006) luthier

/-- Walks that hold a descent slot of a core, which has eight (R106). Luthier walks take none (DESIGN CHOICE, log entry 122). -/
def descentsOn (s : State) (core : Nat) : Nat := ((heldWalks s).filter (fun w => w.core == core && w.descent)).length
def descentFree (s : State) (core : Nat) : Bool := decide (descentsOn s core < 8)

/-- The contexts that a core of a permitted die can give to a walk. -/
def placeOn (s : State) (mask g core : Nat) : Option Nat :=
  let d := core / 64
  if (diesOfMask mask).contains d ∧ walkCore s core ∧ admitsWalks s d ∧ g ≤ dieRoom s d then freeBlock s core g else none
def placeable (s : State) (mask g : Nat) : Bool :=
  (diesOfMask mask).any (fun d => (walkCores s d).any (fun c => (placeOn s mask g c).isSome))

/-- The mask of one stack. -/
def stackMask (m : Nat) : Nat := 2 ^ m

/-- Contexts of a SEARCH_EXACT: one for each stack, on `core` where its die allows, else on the lowest core with room. -/
def placeExact (core : Nat) : List Nat → State → Nat → Option State
  | [], s, _ => some s
  | m :: r, s, tag =>
    let cand := (core :: walkCores s (m / 2)).find? (fun c => (placeOn s (stackMask m) 1 c).isSome)
    match cand.bind (fun c => (placeOn s (stackMask m) 1 c).map (fun a => (c, a))) with
    | none => none
    | some ca =>
      placeExact core r (withQuery s tag (fun q => { q with
        walks := q.walks ++ [{ part := m, core := ca.1, ctx := ca.2, g := 1 }] })) tag

/-! ### Merge-store reservations (R126) -/

def dieGranules (s : State) (d : Nat) : Nat :=
  sumOf (s.queries.filterMap (fun q => if q.home.isSome && q.dies.any (fun p => p.1 == d) then some (granules q) else none))
def hubGranules (s : State) (h : Nat) : Nat :=
  sumOf (s.queries.filterMap (fun q => q.home.bind (fun c => if c / 256 = h then some (granules q) else none)))
def storeRoom (s : State) (x : Index) (q : Query) : Bool :=
  (queryDies x q).all (fun d => decide (dieGranules s d + granules q ≤ 8192))
    && [0, 1].all (fun h => decide (hubGranules s h + granules q ≤ 16384))

/-! ### Cut bins (R80) -/

def cutLoad (x : Index) (q : Query) : Nat :=
  match q.exact with
  | some p => ((partAt x p).map (fun p => (stacksOf p).length)).getD 0
  | none => x.parts.length * walkWidth q

/-- Contexts' worth that a bin holds. -/
def binLoad (s : State) (b : Nat) : Nat :=
  sumOf (s.queries.filterMap (fun q =>
    if q.cut = some (b * 1000) then (look s.indexes q.index).map (fun x => cutLoad x q) else none))

/-- The latest bin from `b` down, above `low`, that has room. -/
def findBin (s : State) (load low : Nat) : Nat → Nat → Option Nat
  | 0, _ => none
  | fuel + 1, b => if b ≤ low then none else if binLoad s b + load ≤ 4096 then some b else findBin s load low fuel (b - 1)

/-! ### Frames of sharded searches (R334, R341-R344) -/

def shardOn (s : State) (i : Nat) : Bool := ctlObj s 0x811001 i == 1
def shardGroup (s : State) (i : Nat) : Nat := ctlObj s 0x811002 i
def shardParent (s : State) (i : Nat) : Nat := ctlObj s 0x811005 i
def shardChildren (s : State) (i : Nat) : List Nat := if shardOn s i then childrenOf (ctlObj s 0x811006 i) else []

/-- The 64-byte command of a QUERY payload (R205, R334). -/
def queryWord (q : Query) : Nat :=
  put 0 0x01 + put 48 q.params.k + put 64 q.filter.op + put 72 q.qfmt + put 80 q.params.pf + put 96 q.params.cw
    + put 112 q.params.hop + put 128 q.params.rerank + put 144 q.params.slack + put 192 q.origD
    + put 384 q.filter.mask + put 448 q.filter.value

/-- The module at which the search was admitted. -/
def originOf (s : State) (q : Query) : Nat :=
  match q.origin with
  | .host _ _ => myId s
  | .child _ _ _ o => o

/-- Once a started query holds its vector, each child gets a QUERY frame and joins the fabric merge node (R343). -/
def sendChildren (s : State) (tag : Nat) : State :=
  match queryOf s tag with
  | none => s
  | some q =>
    match q.qvec, q.cut with
    | some v, some t =>
      let kids := if q.exact.isSome then [] else shardChildren s q.index
      if kids = [] ∨ q.fabric.isSome ∨ q.home.isNone then s
      else
        let kind : ListKind := if ((look s.indexes q.index).map (·.cfg.rrFmt)).getD 0 = 0 then .code else .final
        let s := withQuery s tag (fun q => { q with
          children := kids, fabric := some { expected := .local_ :: kids.map .child, acc := { kind := kind }, sealed := true } })
        kids.foldl (fun s m =>
          fabSend s (ownFrame s 1 0 m (shardGroup s q.index) tag (originOf s q) (leBytes 64 (queryWord q) ++ v) t)) s
    | _, _ => s

/-- A CANCEL frame to each child (R347). -/
def cancelChildren (s : State) (q : Query) : State :=
  if q.fabric.isSome then
    q.children.foldl (fun s m => fabSend s (ownFrame s 4 0 m (shardGroup s q.index) q.tag (originOf s q) [])) s
  else s

/-- A LIST frame that answers a query (R334, R344). -/
def sendList (s : State) (parent ptag group origin : Nat) (l : MList) : State :=
  fabSend s (ownFrame s 2 1 parent group ptag origin (listEncode ptag false l))

/-! ### Strums and sweep orders (R139) -/

def bridge (s : State) (m : Nat) : Bridge := (look s.bridges m).getD {}
def setBridge (s : State) (m : Nat) (b : Bridge) : State := { s with bridges := keep m b s.bridges }

/-- A strum closes: a sweep order with each member's list limit goes to every stack of the index. -/
def closeStrum (s : State) (i : Nat) : State :=
  match s.strums.find? (fun t => t.index == i), look s.indexes i with
  | some t, some x =>
    let o : SweepOrder := { index := i, members := t.members.filterMap (fun m => (queryOf s m).map (fun q => (m, mergeLimit q))) }
    let s := { s with strums := s.strums.filter (fun t => t.index != i) }
    if o.members = [] then s
    else (indexStacks x).foldl (fun s m => setBridge s m { bridge s m with orders := (bridge s m).orders ++ [o] }) s
  | _, _ => s

/-- A search joins the open strum of its index, which closes at 1,024 members. -/
def joinStrum (s : State) (i tag : Nat) : State :=
  let s := if s.strums.any (fun t => t.index == i) then
      { s with strums := s.strums.map (fun t => if t.index = i then { t with members := t.members ++ [tag] } else t) }
    else { s with strums := s.strums ++ [{ index := i, opened := s.time.tick, members := [tag] }] }
  if s.strums.any (fun t => t.index == i && decide (1024 ≤ t.members.length)) then closeStrum s i else s

/-! ### Query-table entries and parameter blocks (R64, R100) -/

/-- A walk of a partition with this stack in its set has not ended. -/
def walksOn (x : Index) (q : Query) (m : Nat) : Bool :=
  x.parts.zipIdx.any (fun p => bit p.1.mask m &&
    (q.unplaced.contains p.2 || q.walks.any (fun w => w.part == p.2 && !(isEnded w))))

/-- The query holds an entry on a stack: granted, and not freed by the end of its last walk and sweep there; at its completion the
query leaves and frees it (R64). -/
def hasEntry (s : State) (q : Query) (m : Nat) : Bool :=
  match look s.indexes q.index with
  | none => false
  | some x => (look q.qtab m).isSome && (walksOn x q m || !(q.swept.contains m))

/-- The entry of a stack's table that the next query takes: which free one is not stated (R64); the model takes the lowest: DESIGN
CHOICE, log entry 102. -/
def freeEntry (s : State) (m : Nat) : Nat :=
  let taken := s.queries.filterMap (fun q => if hasEntry s q m then look q.qtab m else none)
  (lowestFrom (fun e => !(taken.contains e)) 0 (taken.length + 1)).getD 0

def entriesOn (s : State) (m : Nat) : Nat := (s.queries.filter (fun q => hasEntry s q m)).length

/-- Versions that a query needs in the parameter cache. -/
def blocksOf_ (q : Query) : List (Nat × Nat) := q.opers.map (fun o => (q.index, o.ver))
def blockHeld (s : State) (m : Nat) (b : Nat × Nat) : Bool :=
  s.queries.any (fun q => hasEntry s q m && (blocksOf_ q).contains b)

/-- Load the missing blocks into slots that no entry references; `none` where too few are free. -/
def loadBlocks (s : State) (m : Nat) (need : List (Nat × Nat)) : Option (List (Nat × Nat)) :=
  let cache := (bridge s m).cache
  let missing := need.filter (fun b => !(cache.contains b))
  let held := cache.filter (fun b => blockHeld s m b || need.contains b)
  let idle_ := cache.filter (fun b => !(blockHeld s m b || need.contains b))
  if 32 < held.length + missing.length then none
  else some (held ++ idle_.take (32 - held.length - missing.length) ++ missing)

/-- Cache slots that no entry references (R115). -/
def cacheFree (s : State) (m : Nat) : Nat := 32 - ((bridge s m).cache.filter (blockHeld s m)).length

/-! ### Results (R77, R78, R130) -/

/-- A dense run goes on without the command that started it: its outputs are discarded and its end is not reported. -/
def detachRun (s : State) (slot seq : Nat) : State :=
  let names := s.dense.runs.map (fun r => (r.slot, r.seq))
  let fresh := ((List.range (names.length + 1)).find? (fun k => !(names.contains (slot, seq + 65536 * (k + 1))))).getD 0
  { s with dense := { s.dense with
    waiting := s.dense.waiting.filter (fun p => p != (slot, seq))
    runs := s.dense.runs.map (fun r =>
      if r.slot = slot ∧ r.seq = seq then { r with seq := seq + 65536 * (fresh + 1), reported := false } else r) } }

/-- Bins may have room now: waiting searches without a reservation try again, in admission order (R80). -/
def reserveCut (s : State) (tag : Nat) : State :=
  match queryOf s tag with
  | none => s
  | some q =>
    match q.cut, (look s.indexes q.index).filter (fun _ => q.phase == .waiting) with
    | none, some x =>
      let low := max q.admitted (s.time.base - 80) / 1000
      match findBin s (cutLoad x q) low (s.queries.length + 1) (q.deadline / 1000) with
      | none => s
      | some b =>
        let s := withQuery s tag (fun q => { q with cut := some (b * 1000) })
        if b < q.deadline / 1000 then bump s 0x23 1 else s
    | _, _ => s
def retryCuts (s : State) : State := (s.queries.map (·.tag)).foldl reserveCut s

/-- A query leaves: contexts, entries, reservations and places in strums and orders are freed; lists that are still under
way to a merge stage will find no reservation (R64, R80, R126, R129). -/
def releaseQuery (s : State) (q : Query) : State :=
  let s := endReqs (endReqs s (.vector q.tag)) (.rerank q.tag)
  let s := { s with
    queries := s.queries.filter (fun y => y.tag != q.tag)
    strums := (s.strums.map (fun t => { t with members := t.members.filter (· != q.tag) })).filter (fun t => t.members != [])
    strays := s.strays ++ (q.transit.filter (fun t => t.dest != .out)).map (fun _ => q.tag)
    bridges := s.bridges.map (fun b => (b.1, { b.2 with
      reqs := b.2.reqs.filter (fun r => r.tag != q.tag)
      lost := b.2.lost.filter (fun r => r.tag != q.tag)
      badTags := b.2.badTags.filter (· != q.tag)
      orders := (b.2.orders.map (fun o => { o with members := o.members.filter (fun m => m.1 != q.tag) })).filter
        (fun o => o.members != []) })) }
  let s := match q.origin with
    | .host slot seq => if q.vectorFrom then s else detachRun s slot seq
    | .child _ _ _ _ => s
  retryCuts s

/-- What a host query reports, and its result buffer: identifiers in order, then null identifiers (R78, R130). -/
def resultBytes (q : Query) (l : MList) : List Byte :=
  let ids := (l.entries.take q.params.k).map (·.id)
  ((ids ++ List.replicate (q.params.k - ids.length) nullId).map (leBytes 8)).flatten

/-- A host query has its result: its resources stay held until its completion entry is written (R80, R126, the trace after
R92). -/
def holdDone (s : State) (q : Query) : State :=
  let s := endReqs (endReqs s (.vector q.tag)) (.rerank q.tag)
  let s := match q.origin with
    | .host slot seq => if q.vectorFrom then s else detachRun s slot seq
    | .child _ _ _ _ => s
  withQuery s q.tag (fun q => { q with
    phase := .done, cutDone := true, unplaced := [], walks := q.walks.map (fun w => { w with stage := .ended }) })

/-- The completion entry of a search has been written: its query leaves (R80, R126). -/
def releaseDone (s : State) (slot seq : Nat) : State :=
  match queryOf s (hostTag slot seq) with
  | some q => if q.phase = .done then releaseQuery s q else s
  | none => s

/-- A query is complete: the host command has its result, or the parent gets a LIST frame and the query leaves (R130, R344). -/
def completeQuery (s : State) (q : Query) (l : MList) : State :=
  let cause := Cause.or q.cause { cut := l.cut, poison := l.poison, fenced := l.fenced }
  if ((queryOf s q.tag).map (·.phase)).getD .done = .done then s
  else
  match q.origin with
  | .host slot seq =>
    finish (holdDone s q) slot seq
      { status := statusOfCause cause, cause := cause, count := (l.entries.take q.params.k).length,
        epoch := q.epoch, writes := [(q.resultAddr, resultBytes q l)] }
  | .child parent ptag group origin =>
    sendList (releaseQuery s q) parent ptag group origin { l with
      entries := l.entries.take q.params.k, sorted := true, cut := cause.cut, poison := cause.poison, fenced := cause.fenced }

/-- The empty list with CUT. -/
def emptyCut : MList := { kind := .code, cut := true }

/-- The empty list with POISON (R344), which states no KIND: 0b00 where the rerank depth is 0, else 0b01, so that the parent's stage
takes it (R129; DESIGN CHOICE, log entry 120). -/
def poisonList (rerank : Nat) : MList := { kind := if rerank = 0 then .code else .final, poison := true }

/-- A command ends without a result (R228). -/
def failQuery (s : State) (q : Query) (st : Status) : State :=
  match q.origin with
  | .host slot seq => finish (holdDone s q) slot seq { status := st, cause := q.cause, epoch := q.epoch }
  | .child parent ptag group origin => sendList (releaseQuery s q) parent ptag group origin (poisonList q.params.rerank)

/-! ### Merge stages (R124-R129, R343-R345) -/

/-- Merge a delivered list into a stage. Answers the duplicates removed. -/
def stageTake (st : MergeStage) (limit : Nat) (src : Contributor) (l : MList) : MergeStage × Nat :=
  let r := mergeLists false limit st.acc l
  ({ st with acc := r.1, delivered := src :: st.delivered }, r.2)

/-- A sealed stage has every list. -/
def stageFull (st : MergeStage) : Bool := st.sealed && st.forwarded == .no && st.expected.all st.delivered.contains

/-- The final list of the local search: the result, or a contribution to the fabric merge node (R343). -/
def localDone (s : State) (tag : Nat) (l : MList) : State :=
  match (queryOf s tag).filter (fun q => q.phase != .done) with
  | none => s
  | some q =>
    let q := { q with phase := .finished }
    match q.fabric with
    | none => completeQuery s q l
    | some st =>
      let r := stageTake st q.params.k .local_ l
      let s := bump s 0x29 r.2
      let s := withQuery s tag (fun q => { q with phase := .finished, fabric := some r.1 })
      if stageFull r.1 then completeQuery s q r.1.acc else s

/-- The partition and slot of a slot identifier (R26). -/
def auxPart (a : Nat) : Nat := a / 2 ^ 26
def auxSlot (a : Nat) : Nat := a % 2 ^ 26

/-- The home core begins to fetch the rerank vectors of the merged entries (R52, R77, R321). -/
def beginRerank (s : State) (q : Query) : State :=
  match q.home, look s.indexes q.index with
  | some core, some x =>
    let stride := rrStride x.cfg
    beginReqs s core (.rerank q.tag) ((q.merged.entries.map (fun e =>
      ((partAt x (auxPart e.aux)).map (fun p => reqRuns (p.rerankBase + auxSlot e.aux * stride) stride)).getD [])).flatten)
  | _, _ => s

/-- The list of the hub merge stage reaches the home core (R77, R81, R91). -/
def hubDone (s : State) (tag : Nat) (l : MList) : State :=
  match (queryOf s tag).filter (fun q => q.phase != .done) with
  | none => s
  | some q =>
    let s := withQuery s tag (fun q => { q with merged := l })
    let kind : ListKind := if q.exact.isSome && ((look s.indexes q.index).map (·.cfg.rrFmt)).getD 0 != 0 then .final else .code
    let best : MList := { l with kind := kind, entries := l.entries.take q.params.k }
    if q.exact.isSome || q.params.rerank == 0 then localDone s tag best
    else if q.cutDone then localDone s tag { best with cut := true }
    else beginRerank (withQuery s tag (fun q => { q with phase := .reranking })) { q with merged := l }

/-- The hub merge stage forwards. -/
def hubForward (s : State) (tag : Nat) (how : Forwarded) : State :=
  match queryOf s tag with
  | none => s
  | some q =>
    let l := if how = .lastAccept then { q.hub.acc with cut := true } else q.hub.acc
    hubDone (withQuery s tag (fun q => { q with hub := { q.hub with forwarded := how } })) tag l

/-- A die merge stage forwards its list to the hub merge stage. -/
def dieForward (s : State) (tag d : Nat) (how : Forwarded) : State :=
  withQuery s tag (fun q =>
    match look q.dies d with
    | none => q
    | some st =>
      let l := if how = .lastAccept then { st.acc with cut := true } else st.acc
      { q with dies := alter q.dies d (fun st => { st with forwarded := how }),
               transit := q.transit ++ [{ dest := .hub, src := .die d, list := { l with sorted := true } }] })

/-- Forward where a stage has all it waits for. -/
def checkStage (s : State) (tag : Nat) (id : StageId) : State :=
  match queryOf s tag with
  | none => s
  | some q =>
    match id with
    | .die d => if ((look q.dies d).map stageFull).getD false then dieForward s tag d .complete else s
    | .hub => if stageFull q.hub then hubForward s tag .complete else s
    | .fabric => s
    | .out => s

/-- All walks are placed: the registration is sealed (R127). -/
def sealStages (s : State) (tag : Nat) : State :=
  match queryOf s tag with
  | none => s
  | some q =>
    if q.unplaced ≠ [] then s
    else
      let s := withQuery s tag (fun q => { q with
        dies := q.dies.map (fun p => (p.1, { p.2 with sealed := true })), hub := { q.hub with sealed := true } })
      (q.dies.map Prod.fst).foldl (fun s d => checkStage s tag (.die d)) s

/-- The die merge stage at which a contributor is registered. -/
def stageOf (q : Query) (c : Contributor) : Option Nat := (q.dies.find? (fun p => p.2.expected.contains c)).map Prod.fst

/-- A list leaves for the die merge stage of its contributor. -/
def handOff (s : State) (tag : Nat) (c : Contributor) (l : MList) : State :=
  withQuery s tag (fun q =>
    match stageOf q c with
    | none => q
    | some d => { q with transit := q.transit ++ [{ dest := .die d, src := c, list := l }] })

/-- MERGE_BAD and its event (R129). -/
def badList_ (s : State) (i tag case_ : Nat) : State := raise (bump s 0x2B 1) 0x0205 1 (index := i) (args := [tag, case_])

/-! ### Walks (R72-R74) -/

def walkOf (q : Query) (part : Nat) : Option Walk := q.walks.find? (fun w => w.part == part)
def withWalk (s : State) (tag part : Nat) (f : Walk → Walk) : State :=
  withQuery s tag (fun q => { q with walks := q.walks.map (fun w => if w.part == part then f w else w) })

/-- Responses with VER_MISS among those of a walk that are under way: in its inbox, or still requested. -/
def lateMisses (s : State) (q : Query) (w : Walk) : Nat :=
  let missed (b : Bridge) (r : ExpandReq) : Bool :=
    match (look s.indexes q.index).bind (fun x => (partAt x w.part).map (fun p => (x, p))) with
    | none => false
    | some (x, p) =>
      (expand x p q.opers q.epoch q.filter r.slot r.bound ((look p.poisoned r.slot).isSome || b.badTags.contains q.tag) r.expTag).1.verMiss
  (w.inbox.filter (·.verMiss)).length
    + sumOf (s.bridges.map (fun b => (b.2.reqs.filter (fun r => r.tag == q.tag && r.part == w.part && missed b.2 r)).length))

/-- The expand requests of a walk are given up. -/
def dropExpands (s : State) (tag part : Nat) : State :=
  let keep_ (l : List ExpandReq) : List ExpandReq := l.filter (fun r => !(r.tag == tag && r.part == part))
  { s with bridges := s.bridges.map (fun b => (b.1, { b.2 with reqs := keep_ b.2.reqs, lost := keep_ b.2.lost })) }

/-- The answer that a request gets whose response is poisoned, or does not come: POISON and no survivors (R73, R392, R394). -/
def poisonAnswer (r : ExpandReq) : Response :=
  { qtab := r.qtab, context := r.context, since := r.since, expTag := r.expTag, slot := r.slot, eligible := false, followed := false,
    nodeKey := nanKey, poison := true }

/-- A walk ends: its exact frets go to the die merge stage in key order, and its contexts are freed (R74). Responses under way
are dropped when they arrive; those with VER_MISS are counted here (R81, R89; DEDUCED, log entry 133). -/
def endWalk (s : State) (tag part : Nat) (cut : Bool) : State :=
  match (queryOf s tag).bind (fun q => (walkOf q part).map (fun w => (q, w))) with
  | none => s
  | some (q, w) =>
    let s := bump s 0x24 (lateMisses s q w)
    let es := (w.frets.filter (·.exact)).map (fun f => ({ key := f.key, aux := slotId part f.slot, id := f.extId } : Entry))
    let s := handOff s tag (.walk part) { kind := .code, sorted := true, cut := cut, entries := es }
    dropExpands (withWalk s tag part (fun w => { w with stage := .ended, frets := [], visited := [], inbox := [] })) tag part

def outstanding (w : Walk) : Nat := (w.frets.filter (·.inFlight)).length

/-- Requests whose fret has left the queue still use their tag until they are answered. -/
def tagsInUse (s : State) (tag : Nat) (w : Walk) : List Nat :=
  (w.frets.filter (·.inFlight)).map (·.tag) ++ w.inbox.map (·.expTag)
    ++ (s.bridges.map (fun b => ((b.2.reqs ++ b.2.lost).filter (fun r => r.tag == tag && r.part == w.part)).map (·.expTag))).flatten

/-- Requests of a walk that have no answer applied yet. -/
def pendingOf (s : State) (tag : Nat) (w : Walk) : Nat :=
  w.inbox.length + sumOf (s.bridges.map (fun b => ((b.2.reqs ++ b.2.lost).filter (fun r => r.tag == tag && r.part == w.part)).length))

/-- Issue one request for the best fret that has none (R72); a full request queue holds it back (R21, R64). -/
def issueOne (s : State) (p : Part) (q : Query) (w : Walk) : Option State :=
  if q.params.pf + 1 ≤ pendingOf s q.tag w ∨ q.params.hop ≤ w.issued then none
  else
    match nextFret w.frets, (List.range 8).find? (fun t => !((tagsInUse s q.tag w).contains t)) with
    | some f, some t =>
      let m := stackOfSlot p f.slot
      let entry := (look q.qtab m).getD 0
      if 4096 ≤ (bridge s m).reqs.length then none
      else
        let r : ExpandReq := { tag := q.tag, qtab := entry, context := 256 * w.core + w.ctx, since := s.time.tick, part := w.part, expTag := t, slot := f.slot,
                               bound := boundOf (effWidth q.params) q.params.slack w.frets }
        let s := setBridge (bump s 0x22 1) m { bridge s m with reqs := (bridge s m).reqs ++ [r] }
        some (withWalk s q.tag w.part (fun w => { w with
          issued := w.issued + 1
          frets := w.frets.map (fun y => if y.slot = f.slot then { y with inFlight := true, tag := t } else y) }))
    | _, _ => none

def issueLoop (tag part : Nat) (p : Part) : Nat → State → State
  | 0, s => s
  | fuel + 1, s =>
    match queryOf s tag with
    | none => s
    | some q =>
      match walkOf q part with
      | none => s
      | some w =>
        if w.stage ≠ .walking then s
        else
          match issueOne s p q w with
          | some s => issueLoop tag part p fuel s
          | none => s

/-- A walk issues what it may, and ends where it has nothing left to do (R72, R74). -/
def driveWalk (s : State) (tag part : Nat) (issue : Bool) : State :=
  match queryOf s tag with
  | none => s
  | some q =>
    match (look s.indexes q.index).bind (fun x => partAt x part) with
    | none => s
    | some p =>
      let s := if issue then issueLoop tag part p 8 s else s
      match (queryOf s tag).bind (fun q => walkOf q part) with
      | none => s
      | some w =>
        if w.stage ≠ .walking then s
        else if w.frets.all (·.expanded) then endWalk s tag part false
        else if q.params.hop ≤ w.issued ∧ pendingOf s tag w = 0 then endWalk (bump s 0x25 1) tag part false
        else s

/-- Every walk that a full request queue held back tries again. -/
def driveAll (s : State) : State :=
  s.queries.foldl (fun s q => q.walks.foldl (fun s w =>
    if w.stage = .walking ∧ q.cut.all (notPast s) ∧ !q.cutDone then driveWalk s q.tag w.part true else s) s) s

/-- Some request queue that was full has room. -/
def roomMade (before s : State) : Bool :=
  before.bridges.any (fun b => decide (4096 ≤ b.2.reqs.length) && decide ((bridge s b.1).reqs.length < 4096))

/-- After a change: walks that a full request queue held back try again as long as room comes (R21, R72). -/
def retryHeld (before s : State) : State :=
  if roomMade before s then
    let t := driveAll s
    if roomMade s t then driveAll t else t
  else s

/-- A walk has no core left on its permitted dies: an empty list with FENCED takes its place where a stage waits for it (R85). -/
def loseWalk (s : State) (tag part : Nat) (c : Contributor) : State :=
  let s := withQuery s tag (fun q => { q with
    cause := setFenced q.cause, unplaced := q.unplaced.erase part
    walks := q.walks.filter (fun w => w.part != part) ++ [{ part := part, core := 0, ctx := 0, g := 1, stage := .ended }] })
  handOff s tag c { kind := .code, fenced := true }

/-- The stacks that a query's walk of a partition, or its context of a stack, may use (R63, R91). -/
def permittedMask (x : Index) (q : Query) (part : Nat) : Nat :=
  match q.exact with
  | some _ => stackMask part
  | none => ((partAt x part).map (·.mask)).getD 0
def walkContributor (q : Query) (part : Nat) : Contributor := if q.exact.isSome then .exact part else .walk part

/-- A permitted die has a walk-set core. -/
def hasCore (s : State) (mask : Nat) : Bool := (diesOfMask mask).any (fun d => walkCores s d != [])

/-- Walks that wait for a core and whose permitted dies have none left are lost; that may complete the placing (R85, R127). -/
def loseUnplaced (s : State) : State :=
  s.queries.foldl (fun s q =>
    match look s.indexes q.index with
    | none => s
    | some x =>
      let gone := q.unplaced.filter (fun part => !(hasCore s (permittedMask x q part)))
      if gone = [] then s
      else sealStages (gone.foldl (fun s part => loseWalk s q.tag part (walkContributor q part)) s) q.tag) s

/-- A walk loses its core: it restarts on another core, or delivers an empty list with FENCED where no permitted die has a
walk-set core left (R85). The contributor stays the same (R127). -/
def restartWalk (s : State) (tag part : Nat) : State :=
  match queryOf s tag with
  | none => s
  | some q =>
    match look s.indexes q.index with
    | none => s
    | some x =>
      let s := dropExpands s tag part
      if hasCore s (permittedMask x q part) then
        withQuery s tag (fun q => { q with walks := q.walks.filter (fun w => w.part != part), unplaced := q.unplaced ++ [part] })
      else loseWalk s tag part (walkContributor q part)

/-- Luthier walks lose their core and wait to be placed again (R85, R145). -/
def dropLuthier (s : State) (hit : LuthierWalk → Bool) : State :=
  let f (c : Chain) : Chain := { c with walk := c.walk.map (fun w => if hit w then { w with core := none } else w) }
  { s with indexes := s.indexes.map (fun x => (x.1, { x.2 with
    parts := x.2.parts.map (fun p => { p with chains := p.chains.map (fun c => (c.1, f c.2)) }) })) }

/-! ### Unreadable records and rerank vectors (R392, R395) -/

/-- Uncorrectable read of a memory tier: counted and logged. -/
def memBad (s : State) (kind unit addr : Nat) : State := raise (bump s 0x04 1) 0x0103 2 kind unit (args := [addr])

/-- The address of a record in its stack (R41). -/
def recAddr (x : Index) (p : Part) (slot : Nat) : Nat :=
  (look p.bases (stackOfSlot p slot)).getD 0 + slot / max 1 (stacksOf p).length * recBytes x.cfg.format

/-- A poisoned record whose piece 0 was read (`header`) can be rebuilt (R395). -/
def rebuildable (x : Index) (p : Part) (slot : Nat) (header : Bool) : Bool := header && x.cfg.rrFmt != 0 && !(p.rerankBad.contains slot)

/-- A record cannot be read: on the first such read the luthier agent logs it. -/
def recordBad (s : State) (i pn slot : Nat) (header : Bool) : State :=
  match look s.indexes i with
  | none => s
  | some x =>
    match partAt x pn with
    | none => s
    | some p =>
      let s := memBad s 3 (stackOfSlot p slot) (recAddr x p slot)
      let seen := look p.poisoned slot
      let s := withPart s i pn (fun p => { p with poisoned := keep slot (header && seen.getD true) p.poisoned })
      if seen.isSome then s
      else
        let rebuilt := rebuildable x p slot header
        raise s 0x0105 2 3 (stackOfSlot p slot) (index := i)
          (args := [slotId pn slot, if header then (recOf p slot).extId else nullId, if rebuilt then 1 else 0])

/-- A rerank vector cannot be read. -/
def rerankLost (s : State) (i pn slot : Nat) : State :=
  match look s.indexes i with
  | none => s
  | some x =>
    match partAt x pn with
    | none => s
    | some p =>
      let a := p.rerankBase + slot * rrStride x.cfg
      let s := memBad s 6 (farPackage a) a
      withPart s i pn (fun p => { p with rerankBad := if p.rerankBad.contains slot then p.rerankBad else slot :: p.rerankBad })

end Sys2Proof.Machine
end

