-- ==== Sys2Proof/Machine/Graph.lean ====
section
/-!
DEFINITION. The luthier's work on a partition's graph: luthier walks, neighbour selection, merges, promotion, repair
scans and rebuilt records (R144, R147-R151, R395).
-/
namespace Sys2Proof.Machine

/-! ### Luthier walk (R144 step 2) -/

/-- Two counts together. -/
def addTally (a b : Tally) : Tally := { issued := a.issued + b.issued, miss := a.miss + b.miss, ends := a.ends + b.ends }

/-- The parameters of a luthier walk: level MERGE_QUALITY, k equal to the degree. -/
def luthierParams (f : Format) (quality : Nat) : Params := levelParams (degree f) quality
def luthierWidth (f : Format) (quality : Nat) : Nat := contextsOf (effWidth (luthierParams f quality))

/-- A luthier walk issues requests up to 1 + PREFETCH_WIDTH and HOP_BUDGET, each with the bound of its issue (R72). -/
def luthierIssue (x : Index) (p : Part) (opers : List Operand) (ps : Params) (e : Nat) : Nat → LuthierRun → LuthierRun
  | 0, r => r
  | fuel + 1, r =>
    if ps.pf + 1 ≤ r.out.length ∨ ps.hop ≤ r.tally.issued then r
    else
      match nextFret r.frets with
      | none => r
      | some f =>
        let tag := r.tally.issued % 8
        let bad := (look p.poisoned f.slot).isSome
        let a := (expand x p opers e { op := 0, mask := 0, value := 0 } f.slot (boundOf (effWidth ps) ps.slack r.frets) bad tag).1
        luthierIssue x p opers ps e fuel { r with
          frets := r.frets.map (fun y => if y.slot = f.slot then { y with inFlight := true, tag := tag } else y)
          out := r.out ++ [a], tally := { r.tally with issued := r.tally.issued + 1 } }

/-- A luthier walk goes on to its end (R73, R74). Its responses arrive in the order of its requests: DESIGN CHOICE, log
entry 17. -/
def luthierLoop (x : Index) (p : Part) (opers : List Operand) (ps : Params) (g e : Nat) : Nat → LuthierRun → LuthierRun
  | 0, r => r
  | fuel + 1, r =>
    if r.frets.all (·.expanded) then
      { r with tally := { r.tally with miss := r.tally.miss + (r.out.filter (·.verMiss)).length } }
    else
      let r := luthierIssue x p opers ps e 8 r
      match r.out with
      | [] => { r with tally := { r.tally with ends := r.tally.ends + 1 } }
      | a :: rest =>
        let r := { r with out := rest, tally := { r.tally with miss := r.tally.miss + (if a.verMiss then 1 else 0) } }
        match applyResponse g (effWidth ps) ps.slack a r.frets r.visited with
        | some q => luthierLoop x p opers ps g e fuel { r with frets := q.1, visited := q.2 }
        | none => luthierLoop x p opers ps g e fuel r

/-- Operands of a luthier walk of occupant `slot` under the versions live at its epoch (R186). -/
def luthierOpers (x : Index) (p : Part) (slot e : Nat) : List Operand :=
  (liveVers x e).map (fun v =>
    let c := codeUnder x p slot v
    { ver := v.num, code := c, sketch := sketchOf x.cfg v c })

/-- The candidates that a luthier walk admitted at epoch `e` returns: its k exact frets of lowest key, in key order (R74, R77,
R144 step 2); with what it counts. -/
def luthierWalk (x : Index) (p : Part) (slot quality e : Nat) : List (Nat × W32) × Tally :=
  let ps := luthierParams x.cfg.format quality
  let g := contextsOf (effWidth ps)
  let opers := luthierOpers x p slot e
  match firstFret x p opers with
  | none => ([], {})
  | some f =>
    let r := luthierLoop x p opers ps g e (ps.hop + 1) { frets := [f], visited := visit g [] f.slot }
    (((r.frets.filter (·.exact)).take ps.k).map (fun f => (f.slot, f.key)), r.tally)

/-! ### Neighbour selection (R144 step 3) -/

/-- The code distance key of two records: under the version of the first; the second's code is taken under it (R103, R163). -/
def pairKey (x : Index) (p : Part) (a b : Nat) : W32 :=
  match verOf x (recOf p a).codeVer with
  | some v => codeKey x.cfg v (recOf p a).code (codeUnder x p b v)
  | none => nanKey

/-- Ascending code keys. -/
def candLe (a b : Nat × W32) : Bool :=
  if a.2 ≠ b.2 then decide (a.2.toNat < b.2.toNat) else Config.tieOrder a.2.toNat a.1 b.1

/-- The rule of R144 step 3 on candidates (slot, key to the centre): kept while closer to the centre than to every kept
one, up to the limit; then filled with skipped ones in ascending key. -/
def chooseLoop (near : Nat → Nat → W32) (limit : Nat) : List (Nat × W32) → List (Nat × W32) → List (Nat × W32) → List (Nat × W32)
  | kept, skipped, [] => kept ++ skipped.take (limit - kept.length)
  | kept, skipped, c :: r =>
    if limit ≤ kept.length then kept
    else if kept.all (fun k => decide (c.2.toNat < (near k.1 c.1).toNat)) then chooseLoop near limit (kept ++ [c]) skipped r
    else chooseLoop near limit kept (skipped ++ [c]) r

/-- The choice of R144 step 3. A candidate whose key is the NaN key is dropped: the step says nothing of it, and R96 drops NaN keys
from every selection. DEDUCED, log entry 99. -/
def choose (near : Nat → Nat → W32) (limit : Nat) (cands : List (Nat × W32)) : List (Nat × W32) :=
  chooseLoop near limit [] [] (sortBy candLe (cands.filter (fun c => c.2 != nanKey)))

/-- Keep the first of each slot. -/
def uniqueSlots (l : List Nat) : List Nat := l.foldl (fun a s => if a.contains s then a else a ++ [s]) []

/-- Slots whose delete has been applied are no candidates (R144 step 3). -/
def usable (p : Part) (slot : Nat) : Bool := isLive (recOf p slot) && !(isTomb (recOf p slot))

/-- Write a record's neighbours and their sketches under its own version (R35, R36). -/
def setNeighbours (x : Index) (pn : Nat) (p : Part) (slot : Nat) (nbrs : List Nat) : Part :=
  let r := recOf p slot
  match verOf x r.codeVer with
  | none => p
  | some v => setRec p slot { r with nbrCount := nbrs.length, nbr := nbrs, sketch := nbrs.map (fun n => sketchUnder x pn p n v) }

/-- Ascending distance from the record's own code (R35). -/
def ordered (l : List (Nat × W32)) : List Nat := (sortBy candLe l).map Prod.fst

/-- R144 step 5: neighbour `y` gains `n`, or chooses again. -/
def backLink (x : Index) (pn n : Nat) (p : Part) (y : Nat) : Part :=
  let r := recOf p y
  let d := degree x.cfg.format
  if r.nbr.contains n ∨ y = n then p
  else if r.nbrCount < d then setNeighbours x pn p y (ordered ((r.nbr ++ [n]).map (fun c => (c, pairKey x p y c))))
  else
    let cands := (uniqueSlots (r.nbr ++ [n])).filter (usable p) |>.map (fun c => (c, pairKey x p y c))
    setNeighbours x pn p y (ordered (choose (pairKey x p) d cands))

/-- R144 steps 2 to 5 for one occupant, its luthier walk admitted at epoch `e`. -/
def linkRecord (x : Index) (pn quality e : Nat) (p : Part) (slot : Nat) : Part × Tally :=
  let w := luthierWalk x p slot quality e
  let cands := w.1.filter (fun c => c.1 != slot && usable p c.1)
  let kept := choose (pairKey x p) (degree x.cfg.format) cands
  let p := setNeighbours x pn p slot (ordered kept)
  ((kept.map Prod.fst).foldl (backLink x pn slot) p, w.2)

/-! ### Mirror entries (R47-R50, R144 step 6) -/

def topLayer (p : Part) : Nat := p.mirror.foldl (fun t m => max t m.layer) 0

/-- Trailing zeros of a 64-bit number. -/
def trailing (h : Nat) : Nat := if h = 0 then 64 else (lowestFrom (fun i => bit h i) 0 64).getD 64

/-- λ of an identifier. -/
def promoteLayers (x : Index) (ext : Nat) : Nat := min 7 (trailing (hashId ext) / max 1 x.cfg.promoteBits)

/-- Mirror entries that promotion has used: the reserved one apart (R48, R49). -/
def promoted (p : Part) : Nat := p.mirror.length - (if p.spare.isSome then 1 else 0)

def putMirror (p : Part) (m : Mirror) : Part :=
  let p := { p with mirror := p.mirror.filter (fun y => !(y.layer == m.layer && y.slot == m.slot)) ++ [m] }
  let r := recOf p m.slot
  setRec p m.slot { r with state := setBit r.state 3 true }

def mirrorFor (p : Part) (slot layer : Nat) (entry : Bool) (nbr : List Nat) : Mirror :=
  { slot := slot, layer := layer, codeVer := (recOf p slot).codeVer, entry := entry, code := (recOf p slot).code, nbr := nbr }

/-- The key between two mirror nodes. -/
def mirrorBack (x : Index) (layer n : Nat) (p : Part) (z : Nat) : Part :=
  match mirrorOf p layer z with
  | none => p
  | some m =>
    if m.nbr.contains n then p
    else if m.nbr.length < 16 then
      putMirror p { m with nbr := ordered ((m.nbr ++ [n]).map (fun c => (c, pairKey x p z c))) }
    else
      let cands := (uniqueSlots (m.nbr ++ [n])).filter (usable p) |>.map (fun c => (c, pairKey x p z c))
      putMirror p { m with nbr := ordered (choose (pairKey x p) 16 cands) }

/-- One layer of a promotion. -/
def promoteLayer (x : Index) (slot top : Nat) (reached : List Mirror) (p : Part) (layer : Nat) : Part :=
  if top < layer then putMirror p (mirrorFor p slot layer false [])
  else
    match reached.find? (fun m => m.layer == layer) with
    | none => putMirror p (mirrorFor p slot layer false [])
    | some m =>
      let first := m.slot :: m.nbr
      let second := (first.map (fun s => ((mirrorOf p layer s).map (·.nbr)).getD [])).flatten
      let cands := (uniqueSlots (first ++ second)).filter (fun s => s != slot && usable p s && (mirrorOf p layer s).isSome)
        |>.map (fun c => (c, pairKey x p slot c))
      let kept := choose (pairKey x p) 16 cands
      let p := putMirror p (mirrorFor p slot layer false (ordered kept))
      (kept.map Prod.fst).foldl (mirrorBack x layer slot) p

/-- R144 step 6 for an occupant that has been linked by a walk of epoch `e`. -/
def promote (x : Index) (p : Part) (slot e : Nat) : Part :=
  let n := promoteLayers x (recOf p slot).extId
  let top := topLayer p
  let had := (entryPoint p).isSome
  if 1 ≤ n ∧ promoted p + n ≤ p.quota - 1 then
    let reached := descent x p (luthierOpers x p slot e)
    let p := ((List.range n).map (fun i => n - i)).foldl (promoteLayer x slot top reached) p
    if top < n then
      { p with mirror := p.mirror.map (fun m => { m with entry := m.slot == slot && m.layer == n }) }
    else if had then p
    else { p with mirror := p.mirror.map (fun m => if m.slot = slot ∧ m.layer = n then { m with entry := true } else m) }
  else if had then p
  else { putMirror p (mirrorFor p slot 1 true []) with spare := some slot }

/-! ### Merge batches (R143, R144) -/

/-- The entries that a merge batch takes from a chain. -/
def batchEntries (x : Index) (c : Chain) (n : Nat) : List SideEntry :=
  ((c.entries.dropWhile (fun e => decide (e.pos < c.merged))).takeWhile (fun e => decide (e.commit ≤ x.current))).take n

/-- The entries of the batch that a chain has in flight. -/
def entriesInFlight (c : Chain) : List SideEntry :=
  c.entries.filter (fun e => decide (c.merged ≤ e.pos ∧ e.pos < c.batch.getD c.merged))

/-- Merge one entry with a walk of epoch `epoch`: stale ones are skipped, deleted ones are not linked (R144). -/
def mergeEntry (x : Index) (pn quality epoch : Nat) (a : Part × Tally) (e : SideEntry) : Part × Tally :=
  let r := recOf a.1 e.slot
  if r.gen ≠ e.gen ∨ !(isLive r) ∨ deletedBy r x.current then a
  else
    let l := linkRecord x pn quality epoch a.1 e.slot
    (promote x l.1 e.slot epoch, addTally a.2 l.2)

/-- Occupants that a mark passes without linking (R147), with their generations. -/
def unlinkedOf (x : Index) (p : Part) (es : List SideEntry) : List (Nat × Nat) :=
  (es.filter (fun e => let r := recOf p e.slot
    r.gen == e.gen && isLive r && deletedBy r x.current)).map (fun e => (e.slot, e.gen))

/-! ### Repair scans (R148) -/

/-- The entries of a repair set whose generation is still their record's: the others are stale (R27). -/
def freshSet (p : Part) (set : List (Nat × Nat)) : List (Nat × Nat) := set.filter (fun t => (recOf p t.1).gen == t.2)

/-- Step 3: remove the mirror entries of D and every mirror edge to them; keep an entry point. Which node of the highest remaining
layer becomes the entry point, and which linked node outside D takes the reserved entry, is unspecified (R49, R148): it is node
`pick` where that one may be chosen, else the first that may. DESIGN CHOICE, log entry 57. -/
def repairMirror (x : Index) (d : List Nat) (pick : Nat) (p : Part) : Part :=
  let lost := d.any (fun s => (p.mirror.any (fun m => m.slot == s && m.entry)))
  let mirror := (p.mirror.filter (fun m => !(d.contains m.slot))).map (fun m =>
    { m with nbr := m.nbr.filter (fun n => !(d.contains n)) })
  let p := { p with mirror := mirror, spare := p.spare.filter (fun s => !(d.contains s)) }
  let p := d.foldl (fun p s => let r := recOf p s; setRec p s { r with state := setBit r.state 3 false }) p
  if !lost then p
  else
    let top := p.mirror.filter (fun m => m.layer == topLayer p)
    match (top.find? (fun m => m.slot == pick)).orElse (fun _ => top.head?) with
    | some m => { p with mirror := p.mirror.map (fun y => if y.slot = m.slot ∧ y.layer = m.layer then { y with entry := true } else y) }
    | none =>
      let may (s : Nat) : Bool := isMerged p s && !(deletedBy (recOf p s) x.current) && !(d.contains s)
      match (pick :: p.recs.map Prod.fst).find? may with
      | some s => { putMirror p (mirrorFor p s 1 true []) with spare := some s }
      | none => p

/-- Step 4 for one record; answers whether it was rewritten. -/
def repairRecord (x : Index) (pn : Nat) (d : List Nat) (p : Part) (slot : Nat) : Part × Bool :=
  let r := recOf p slot
  if !(isLive r) || d.contains slot || !(r.nbr.any (fun n => d.contains n)) then (p, false)
  else
    let removed := r.nbr.filter (fun n => d.contains n)
    let more := (removed.map (fun n => (recOf p n).nbr)).flatten
    let cands := (uniqueSlots (r.nbr ++ more)).filter (fun s => s != slot && !(d.contains s) && usable p s)
      |>.map (fun c => (c, pairKey x p slot c))
    (setNeighbours x pn p slot (ordered (choose (pairKey x p) (degree x.cfg.format) cands)), true)

/-- Steps 3 and 4, with the number of records rewritten. -/
def repairScan (x : Index) (pn : Nat) (d : List Nat) (pick : Nat) (p : Part) : Part × Nat :=
  let p := repairMirror x d pick p
  (p.recs.map Prod.fst).foldl (fun q s =>
    let r := repairRecord x pn d q.1 s
    (r.1, q.2 + (if r.2 then 1 else 0))) (p, 0)

/-! ### Rebuilt records (R395) -/

/-- CODE and CODE_VER from src, and neighbours by R144 where the record has been merged. -/
def rebuild (x : Index) (pn quality : Nat) (p : Part) (slot : Nat) : Part × Tally :=
  let r := recOf p slot
  match verOf x r.codeVer with
  | none => (p, {})
  | some v =>
    let code := (codeOf x.cfg v (srcOf x p slot)).1
    let merged := isMerged p slot
    let p := setRec p slot { r with code := code, codeVer := v.num, nbrCount := 0, nbr := [], sketch := [] }
    let p := { p with poisoned := forget p.poisoned slot }
    let p := withSide p slot r.gen (fun e => { e with code := code, codeVer := v.num })
    if merged then linkRecord x pn quality x.current p slot else (p, {})

end Sys2Proof.Machine
end

