-- ==== Sys2Proof/Machine/Writes.lean ====
section
/-!
DEFINITION. The write path: INSERT, DELETE, UPSERT, acceptance, application, batches and publication; FETCH and snapshot
pins (R134-R138, R152-R153, R177, R206, R207, R212, R215, R477).
-/
namespace Sys2Proof.Machine

/-! ### Admission of writes (R134, R207) -/

/-- The first five rows of R134, before the payload is read; `none` where all pass. -/
def writeCheck (s : State) (slot : Nat) (w : CmdWord) : Option Status :=
  let insert := cOpcode w != 0x11
  if !(reservedOk w) then some .invalid
  else if !(seesIndex s slot (cIndex w)) then some .noIndex
  else
    match indexAt s (cIndex w) with
    | none => some .noIndex
    | some x =>
      if wExtId w = nullId then some .invalid
      else if insert && (if x.cfg.partFn = 1 then decide (x.parts.length ≤ cPartition w) else cPartition w != 0) then some .invalid
      else if insert && (wDims w != x.cfg.vecDims || !(decide (1 ≤ wElemFmt w ∧ wElemFmt w ≤ 5)) || !(aligned (wPayload w) 64)) then
        some .invalid
      else none

/-- A write that its lane admits is checked and waits for its payload and its acceptance. -/
def admitWrite (s : State) (slot seq op : Nat) : Result :=
  match admitting s slot seq op with
  | none => idle s
  | some o =>
    match writeCheck s slot o.word with
    | some st => .next (finishWith s slot seq st)
    | none => .next (nowWaiting s slot seq)

/-- INSERT (R134, R207). -/
def execInsert (slot seq : Nat) (s : State) : Result := admitWrite s slot seq 0x10

/-- DELETE (R134, R207). -/
def execDelete (slot seq : Nat) (s : State) : Result := admitWrite s slot seq 0x11

/-- UPSERT (R134, R207). -/
def execUpsert (slot seq : Nat) (s : State) : Result := admitWrite s slot seq 0x12

/-! ### Acceptance (R54, R134, R215) -/

/-- A write not yet accepted. -/
def isUnaccepted (o : OutCmd) : Bool :=
  laneOf (cOpcode o.word) == .write && (match o.stage with
    | .fetched => true
    | .waiting => true
    | _ => false)

/-- The partition that a write names or hashes to (R42). -/
def writePart (x : Index) (w : CmdWord) : Nat :=
  if x.cfg.partFn = 1 then cPartition w else hashPart (wExtId w) x.parts.length

/-- The payload's elements in FP32. -/
def payloadVec (w : CmdWord) (bs : List Byte) : List FV := vecOf (wElemFmt w) (wDims w) bs

/-- The last rows of R134. -/
def acceptCheck (s : State) (x : Index) (w : CmdWord) (payload : List Byte) : Option Status :=
  let insert := cOpcode w != 0x11
  if insert && x.cfg.metric == 2 && (normSq (unNan (payloadVec w payload)).1).isZero then some .invalid
  else if !(epochsLeft x) then some .capacity
  else if insert && (!(canReserve (x.parts.getD (writePart x w) { mask := 0, perStack := 0, quota := 0 }))
      || decide (idmapEntries s ≤ idmapUsed s)) then some .capacity
  else none

/-- Free entries of the range-lock table that serves a slot: halves in x8 + x8 mode (R198, R215). -/
def rlockFree (s : State) (slot : Nat) : Nat :=
  if twoPorts s then 512 - (s.rlocks.filter (fun l => portOf s l.slot == portOf s slot)).length else 1024 - s.rlocks.length

/-- Take a write into the journal and into the open batch (R53, R134, R136); its ACCEPT_TIME is stamped in NCLK (R22). -/
def accept (s : State) (slot seq : Nat) (o : OutCmd) (x : Index) (payload : List Byte) (off lag : Nat) : State :=
  let w := o.word
  let i := cIndex w
  let insert := cOpcode w != 0x11
  let b := batchNow s x
  let len := 64 + roundUp payload.length 64
  let e : JEntry :=
    { off := off, len := len, word := w, slot := slot, gen := (chan s slot).gen, seq := seq, ord := o.ord, index := i,
      epoch := b.epoch, acceptTime := seenTime s lag, payload := payload }
  let r := ringOf s i
  let s := setRing s i { tail := off + len, entries := r.entries ++ [e] }
  let s := withIndex s i (fun x => { x with
    open_ := some { b with writes := b.writes + 1 },
    parts := if insert then x.parts.modify (writePart x w) (fun p => { p with reserved := p.reserved + 1 }) else x.parts })
  let l : RLock := { slot := slot, gen := (chan s slot).gen, seq := seq, ord := o.ord, index := i, id := wExtId w }
  let s := { s with rlocks := s.rlocks ++ [l] }
  let s := if ctl s 0x680002 ≤ b.writes + 1 then closeBatch s i else s
  let s := withCmd s slot seq (fun o => { o with accepted := true })
  if cVisible w then setStage s slot seq .running else finishWith s slot seq .ok

/-- WRITE_ACCEPT: the next write of its channel is accepted once its payload is read, its checks pass, and a range-lock
entry and ring room stand free (R54, R134, R207, R212, R213, R215). -/
def execWriteAccept (slot seq lag : Nat) (s : State) : Result :=
  match outCmd s slot seq with
  | none => idle s
  | some o =>
    let w := o.word
    let ready := isUnaccepted o && !(isFetched o) && !((earlier (chan s slot) seq).any isUnaccepted)
    let payload := if cOpcode w = 0x11 then some [] else (bufOf o .payload).bind id
    match payload with
    | none => idle s
    | some bytes =>
      if !ready then idle s
      else if !(seesIndex s slot (cIndex w)) then .next (finishWith s slot seq .noIndex)
      else
        match indexAt s (cIndex w) with
        | none => .next (finishWith s slot seq .noIndex)
        | some x =>
          match acceptCheck s x w bytes with
          | some st => .next (finishWith s slot seq st)
          | none =>
            if rlockFree s slot = 0 then
              if o.counted then idle s else .next (bump (withCmd s slot seq (fun o => { o with counted := true })) 0x42 1)
            else
              match ringPlace s (ringOf s (cIndex w)) (64 + roundUp bytes.length 64) with
              | none => idle s
              | some off => .next (accept s slot seq o x bytes off lag)

/-! ### Application (R135, R153, R177, R180, R184, R187) -/

/-- Bytes of the luthier work area that retunes may hold, those held, and those that a retune needs (R57, R181). -/
def retuneOpen (s : State) : Nat := workArea s - 2 ^ 30
def retuneHeld (s : State) : Nat := sumOf (s.indexes.map (fun x => x.2.retune.space))
def retuneNeeds (s : State) (x : Index) (sampled : Bool) : Nat :=
  sumOf (x.parts.map totalSlots) * (if x.cfg.format = .w then 8 else 4)
    + (if sampled then ctl s 0x68000D * (4 * codeElems x.cfg + rrStride x.cfg) else 0)
def retuneFits (s : State) (x : Index) (sampled : Bool) : Bool := decide (retuneHeld s + retuneNeeds s x sampled ≤ retuneOpen s)

/-- A retune begins (R183): sampling, or the fit of a supplied version. `start` is its RETUNE_START. -/
def beginRetune (s : State) (x : Index) (start : Option (Nat × Nat)) (supplied : Option CodeVer) : Retune :=
  { state := if supplied.isSome then .fit else .sample, supplied := supplied.isSome, since := s.time.tick,
    par := { samples := ctl s 0x68000D, stride := ctl s 0x68000E, time := ctl s 0x68000F, gain := ctl s 0x680010,
             auto := ctl s 0x680011 == 1, quantile := ctl s 0x680014, clip := ctl s 0x700001 },
    shadow := supplied, space := retuneNeeds s x supplied.isNone, start := start,
    shadowEpoch := x.retune.shadowEpoch, switchEpoch := x.retune.switchEpoch, mseShadow := x.retune.mseShadow }

/-- Add one application to the drift window; at its end an event may be raised and a retune started (R177, R183). The errors are
added in FP32 and divided by the applications (DESIGN CHOICE, log entry 129). -/
def noteDrift (s : State) (i : Nat) (clamped : Nat) (err : Option FV) (nan : Bool) : State :=
  match indexAt s i with
  | none => s
  | some x =>
    let d := x.drift
    let sat (a b : Nat) : Nat := min 0xFFFFFFFF (a + b)
    let d := { d with
      applications := d.applications + 1, clamped := d.clamped + clamped,
      errSum := match err with
        | some e => e32 (add32 (d32 d.errSum) e)
        | none => d.errSum,
      insertClamp := sat d.insertClamp clamped, insertNan := sat d.insertNan (if nan then 1 else 0) }
    if d.applications < ctl s 0x680015 then withIndex s i (fun x => { x with drift := d })
    else
      let mean := div32 (d32 d.errSum) (ofInt d.applications)
      let live := ((newestLive x).map (·.mse)).getD 0
      let elems := d.applications * codeElems x.cfg
      let drift := decide (ctl s 0x680016 * elems < d.clamped * 1000000)
        || flt (mul32 (ofInt (ctl s 0x680017)) (d32 live)) mean
      let d' := { d with applications := 0, clamped := 0, errSum := 0 }
      if !drift then withIndex s i (fun x => { x with drift := d' })
      else
        let ppm := d.clamped * 1000000 / max 1 elems
        let s := raise s 0x0304 1 (index := i) (args := [ppm, (e32 mean).toNat])
        withIndex s i (fun x =>
          let x := { x with drift := { d' with events := sat d.events 1 } }
          if ctl s 0x680012 = 1 ∧ x.retune.state = .idle ∧ x.vers.length = 1 ∧ retuneFits s x true then
            { x with retune := beginRetune s x none none }
          else x)

/-- Keep every RETUNE_STRIDE-th application as a sample (R184). -/
def noteSample (s : State) (i : Nat) (p : List FV) (rr : List Nat) : State :=
  withIndex s i (fun x =>
    if x.retune.state ≠ .sample ∨ x.luthier = .quiet then x
    else
      let t := x.retune
      let n := t.inserts + 1
      let smp : Sample := { p := p.map e32, rr := (storedVec x.cfg.rrFmt rr).map e32 }
      let t := { t with inserts := n, samples := if n % t.par.stride = 0 then t.samples ++ [smp] else t.samples }
      { x with retune := { t with state := if t.par.samples ≤ t.samples.length then .fit else t.state } })

/-- Mark the present occupants of an identifier deleted at an epoch (R31, R46, R76, R135). -/
def deletePresent (x : Index) (ext epoch : Nat) : Index :=
  (presentSlots x ext).foldl (fun x t =>
    { x with parts := x.parts.modify t.1 (fun p =>
        let r := recOf p t.2
        let st := setBit (setBit r.state 6 true) 5 x.route
        let p := setRec p t.2 { r with delete := epoch, state := st }
        if isInSide r then withSide p t.2 r.gen (fun e => { e with delete := epoch, state := st }) else p) }) x

/-- Write a new occupant into a slot (R135 steps 3 to 7); a full chain takes chunk `chunk` (R45). -/
def putOccupant (x : Index) (pn stack slot epoch : Nat) (w : CmdWord) (v : CodeVer) (code : Nat) (rr : List Nat)
    (chunk : Nat) : Index :=
  { x with
    parts := x.parts.modify pn (fun p =>
      let old := recOf p slot
      let st : BitVec 8 := 0x90
      let r : Rec := { extId := wExtId w, filterTag := wFilterTag w, commit := epoch, state := st, gen := (old.gen + 1) % 256,
                       delete := noEpoch, codeVer := v.num, nbrCount := 0, code := code, sketch := [], nbr := [] }
      let p := setRec p slot r
      let e : SideEntry := { pos := 0, slot := slot, extId := wExtId w, filterTag := wFilterTag w, commit := epoch, state := st,
                             gen := r.gen, delete := noEpoch, codeVer := v.num, code := code }
      let p := setChain p stack (chainAppend x.cfg.format (chainOf p stack) e chunk)
      { p with
        rerank := if x.cfg.rrFmt = 0 then p.rerank else keep slot rr p.rerank, rerankBad := p.rerankBad.filter (· != slot),
        poisoned := forget p.poisoned slot, reserved := p.reserved - 1 })
    retune :=
      if x.retune.state = .pass1 ∨ x.retune.state = .pass2 then
        { x.retune with table := x.retune.table.filter (fun t => !(t.part == pn && t.slot == slot)) ++
            [{ part := pn, slot := slot, sketch := sketchOf x.cfg v code,
               gen := ((recOf (x.parts.getD pn { mask := 0, perStack := 0, quota := 0 }) slot).gen + 1) % 256 }] }
      else x.retune }

/-- The batch of an epoch has one more write applied. -/
def noteApplied (s : State) (i epoch : Nat) : State :=
  withIndex s i (fun x =>
    let f (b : Batch) : Batch := if b.epoch = epoch then { b with applied := b.applied + 1 } else b
    { x with open_ := x.open_.map f, closed := x.closed.map f })

/-- A DELETE's application, and the delete part of an UPSERT. -/
def applyDelete (s : State) (i : Nat) (x : Index) (e : JEntry) (isDelete : Bool) : State :=
  let s := withIndex s i (fun x => deletePresent x (wExtId e.word) e.epoch)
  if isDelete && presentSlots x (wExtId e.word) == [] then bump s 0x32 1 else s

/-- The insert part of an INSERT or UPSERT, into a slot that has been chosen. -/
def applyInsert (s : State) (i : Nat) (x : Index) (e : JEntry) (pn stack slot : Nat) : State :=
  match insertVer x e.epoch with
  | none => s
  | some v =>
    let vec := payloadVec e.word e.payload
    let pr := project x.cfg x.proj vec
    let cd := codeOf x.cfg v pr.1
    let rr := rerankVec x.cfg.rrFmt vec
    let s := withIndex s i (fun x => putOccupant x pn stack slot e.epoch e.word v cd.1 rr ((freeChunk s stack).getD 0))
    let s := noteDrift s i cd.2 (relErr x.cfg v pr.1) pr.2
    let s := noteSample s i pr.1 (if x.cfg.rrFmt = 0 then [] else rr)
    pressCheck s stack

/-- Some stack of a partition's set can take a new occupant: it has room for its side-list entry and a free slot (R135, R153). A
stack with room and no free slot takes none, so a write that finds only such stacks waits as R153 says: DEDUCED, log entry 100. -/
def canTake (s : State) (x : Index) (p : Part) : Bool :=
  let used (m : Nat) : Nat := (p.recs.filter (fun r => isLive r.2 && stackOfSlot p r.1 == m)).length
  (stacksOf p).any (fun m => sideRoom s x.cfg.format p m && decide (used m < p.perStack))

/-- The write at the head of an index's application no longer waits for side-list room (R154). -/
def headMoves (s : State) (i : Nat) : State :=
  withIndex s i (fun x => { x with waiting := false, luthier := if x.luthier = .full then .press else x.luthier })

/-- WRITE_APPLY: the oldest accepted, unapplied write of an index is applied, fails, or waits for side-list room. `pick` is
the free slot chosen on `stack`; `payloadOk` says whether the payload reads correctly (R135, R153, R154). -/
def execWriteApply (i stack pick : Nat) (payloadOk : Bool) (s : State) : Result :=
  match indexAt s i, (entriesOf s i).find? (fun e => e.state == 1) with
  | some x, some e =>
    let op := cOpcode e.word
    let pn := writePart x e.word
    let mark (s : State) (slot : Option Nat) (gen : Nat) : State :=
      noteApplied (withEntries s i (sameWrite e) (fun e => { e with state := 2, slotId := slot, slotGen := gen })) i e.epoch
    if x.dropping.isSome then idle s
    else if op = 0x11 then
      let t := (presentSlots x (wExtId e.word)).head?
      .next (mark (applyDelete s i x e true) (t.map (fun t => slotId t.1 t.2))
        ((t.bind (fun t => (partAt x t.1).map (fun p => (recOf p t.2).gen))).getD 0))
    else if op = 0x10 ∧ presentSlots x (wExtId e.word) ≠ [] then .next (retire (failWrite (headMoves s i) e .invalid) i)
    else if !payloadOk then .next (retire (failWrite (headMoves s i) e .partialPoison) i)
    else
      match partAt x pn with
      | none => idle s
      | some p =>
        if !(canTake s x p) then
          if x.waiting then idle s
          else
            let s := raise (bump s 0x37 1) 0x0302 2 3 ((stacksOf p).headD 0) (index := i) (args := [(stacksOf p).headD 0])
            .next (withIndex s i (fun x => { x with waiting := true, luthier := if x.luthier = .press then .full else x.luthier }))
        else if !(sideRoom s x.cfg.format p stack) || !(slotFree p pick) || stackOfSlot p pick != stack
            || !((stacksOf p).contains stack) then idle s
        else
          let s := headMoves s i
          let s := if op = 0x12 then applyDelete s i x e false else s
          .next (mark (applyInsert s i x e pn stack pick) (some (slotId pn pick)) (((recOf p pick).gen + 1) % 256))
  | _, _ => idle s

/-! ### Batches and publication (R136, R137) -/

/-- A MERGE_NOW of an index waits. -/
def mergeNowWaits (s : State) (i : Nat) : Bool :=
  s.chans.any (fun c => c.2.cmds.any (fun o => cOpcode o.word == 0x88 && cIndex o.word == i && (match o.stage with
    | .running => true
    | _ => false)))

/-- BATCH_CLOSE: the open batch closes by COMMIT_INTERVAL, by COMMIT_BATCH_MAX, or where a MERGE_NOW, a DROP_INDEX or a
power-state entry requires it (R136). -/
def execBatchClose (i : Nat) (s : State) : Result :=
  match indexAt s i with
  | none => idle s
  | some x =>
    match x.open_ with
    | none => idle s
    | some b =>
      if b.opened + ctl s 0x680001 ≤ s.time.tick ∨ ctl s 0x680002 ≤ b.writes ∨ mergeNowWaits s i ∨ x.luthier = .quiet
          ∨ x.dropping.isSome then .next (closeBatch s i)
      else idle s

/-- The entries of a MERGE_NOW's target chain are all merged, and their marks published (R146). -/
def targetMerged (x : Index) (t : Nat × Nat × Nat) : Bool :=
  match partAt x t.1 with
  | none => true
  | some p => (chainOf p t.2.1).entries.all (fun e => decide (t.2.2 ≤ e.pos) || (mergeEpoch (chainOf p t.2.1) e.pos).isSome)

/-- Complete the commands of a channel list that satisfy a test. -/
def finishAll (s : State) (p : OutCmd → Bool) (c : OutCmd → Compl) : State :=
  s.chans.foldl (fun s ch => (ch.2.cmds.filter p).foldl (fun s o => finish s ch.1 o.seq (c o)) s) s

def isRunning (o : OutCmd) : Bool :=
  match o.stage with
  | .running => true
  | _ => false

/-- Every MERGE_NOW of the index whose targets are merged completes (R146). -/
def mergeNowDone (s : State) (i : Nat) : State :=
  match indexAt s i with
  | none => s
  | some x => finishAll s (fun o => cOpcode o.word == 0x88 && cIndex o.word == i && isRunning o && o.targets.all (targetMerged x))
      (fun _ => { status := .ok })

/-- A mark is published (R143, R158). -/
def publishMark (s : State) (i pn stack pos epoch : Nat) : State :=
  match (indexAt s i).bind (fun x => partAt x pn) with
  | none => s
  | some p =>
    let c := chainOf p stack
    let before := match c.marks.getLast? with
      | some m => m.1
      | none => (c.entries.head?.map (·.pos)).getD pos
    bump (withPart s i pn (fun p => setChain p stack { chainOf p stack with marks := (chainOf p stack).marks ++ [(pos, epoch)] }))
      0x34 (pos - before)

/-- The version change is published: the shadow version is live, RETUNE_START completes (R179, R181, R183). -/
def publishVersion (s : State) (i epoch : Nat) : State :=
  match indexAt s i with
  | none => s
  | some x =>
    let s := withIndex s i (fun x => { x with retune := { x.retune with
      state := .armed, published := true, shadowEpoch := epoch, start := none } })
    match x.retune.start with
    | some t => finish s t.1 t.2 { status := .ok }
    | none => s

/-- The switch is published: the older version ends, every waiting RETUNE_COMMIT completes (R179, R182, R183). -/
def publishSwitch (s : State) (i epoch : Nat) : State :=
  match indexAt s i with
  | none => s
  | some x =>
    let s := withIndex s i (fun x => { x with
      vers := x.vers.zipIdx.map (fun v => if v.2 = 0 then { v.1 with eOff := some epoch } else v.1),
      retune := { x.retune with state := .switched, switching := false, switchEpoch := epoch, waiters := [] } })
    x.retune.waiters.foldl (fun s t => finish s t.1 t.2 { status := .ok }) s

def publishWork (i epoch : Nat) (s : State) (w : Work) : State :=
  match w with
  | .mark pn stack pos => publishMark s i pn stack pos epoch
  | .scan pn => withPart s i pn (fun p => { p with scan := none })
  | .version => publishVersion s i epoch
  | .switch => publishSwitch s i epoch
  | .rebuild _ _ => s

/-- Occupants committed and deleted at an epoch (R158). -/
def countRecs (x : Index) (f : Rec → Bool) : Nat := sumOf (x.parts.map (fun p => (p.recs.filter (fun r => f r.2)).length))

/-- EPOCH_PUBLISH: the oldest closed batch is published once its writes are applied, at most one per microsecond (R136,
R137, R158, R215). The publication is stamped in NCLK (R22). -/
def execEpochPublish (i lag : Nat) (s : State) : Result :=
  match indexAt s i with
  | none => idle s
  | some x =>
    match x.closed with
    | [] => idle s
    | b :: rest =>
      if x.dropping.isSome || decide (b.applied < b.writes) || (x.lastPub.any (fun t => decide (s.time.tick < t + 1000))) then idle s
      else
        let done := (entriesOf s i).filter (fun e => e.epoch == b.epoch && e.state == 2)
        let held := x.pubs.filter (fun q => (unmerged x).any (fun e => e.commit == q.1)) ++ [(b.epoch, seenTime s lag)]
        let s := withIndex s i (fun x => { x with current := b.epoch, closed := rest, lastPub := some s.time.tick, pubs := held })
        let s := bump s 0x30 (countRecs x (fun r => isLive r && r.commit == b.epoch))
        let s := bump s 0x31 (countRecs x (fun r => isLive r && r.delete == b.epoch))
        let s := withIndex s i (fun x => { x with parts := x.parts.map (fun p => { p with
          deletedAt := (p.recs.filter (fun r => isLive r.2 && r.2.delete == b.epoch)).foldl
            (fun l r => keep r.1 s.time.tick l) p.deletedAt }) })
        let s := withEntries s i (fun e => e.index == i && e.epoch == b.epoch && e.state == 2) (fun e => { e with state := 3 })
        let s := b.works.foldl (publishWork i b.epoch) s
        let s := done.foldl (fun s e =>
          let s := unlock s e
          match writeCmd s e with
          | some o => if cVisible e.word then finish s e.slot o.seq { status := .ok, epoch := b.epoch } else s
          | none => s) s
        .next (mergeNowDone (retire s i) i)

/-! ### FETCH (R206, R215, R477) -/

/-- The admission checks of R477. -/
def fetchCheck (s : State) (slot : Nat) (w : CmdWord) : Option Status :=
  if !(reservedOk w) then some .invalid
  else if !(seesIndex s slot (cIndex w)) then some .noIndex
  else if !(decide (fIdLo w ≤ fIdHi w ∧ fIdHi w - fIdLo w ≤ 4095)) then some .invalid
  else if !(aligned (sResultAddr w) 64) then some .invalid
  else if cPinValid w && (pinOf s (sPin w) (cIndex w)).isNone then some .invalid
  else none

/-- An earlier write of the channel holds the FETCH (R215). -/
def fetchHeld (s : State) (slot : Nat) (o : OutCmd) : Bool :=
  let w := o.word
  let hits (id : Nat) : Bool := decide (fIdLo w ≤ id ∧ id ≤ fIdHi w)
  (earlier (chan s slot) o.seq).any (fun b => isUnaccepted b && cIndex b.word == cIndex w && hits (wExtId b.word))
    || (!(cPinValid w) && s.rlocks.any (fun l => l.slot == slot && l.gen == (chan s slot).gen && decide (l.ord < o.ord) && l.index == cIndex w && hits l.id))

/-- One entry of the fetch buffer: its bytes, whether an occupant was observed, and whether its vector was lost (R206). -/
def fetchEntry (x : Index) (e id : Nat) : List Byte × Bool × Bool :=
  let v := if x.cfg.rrFmt = 0 then codeBits x.cfg.format / 8 else rrStride x.cfg
  let found := (x.parts.map (fun p => (p.recs.filter (fun r => observed r.2 e && r.2.extId == id)).map (fun r => (p, r.1, r.2)))).flatten
  match found.head? with
  | none => (List.replicate (16 + v) 0, false, false)
  | some f =>
    let p := f.1
    let bad := if x.cfg.rrFmt = 0 then (look p.poisoned f.2.1).isSome else p.rerankBad.contains f.2.1
    let body := if bad then List.replicate v 0
                else if x.cfg.rrFmt = 0 then leBytes v f.2.2.code
                else storedBytes x.cfg.rrFmt ((look p.rerank f.2.1).getD [])
    (leBytes 8 (if bad then 2 else 1) ++ leBytes 8 f.2.2.filterTag ++ body, true, bad)

/-- Buffer entries laid one behind another from an address. -/
def placed (addr : Nat) : List (List Byte) → List (Nat × List Byte)
  | [] => []
  | b :: r => (addr, b) :: placed (addr + b.length) r

/-- Read the range at the admission epoch; the entries wait to be written with the completion. -/
def runFetch (s : State) (slot : Nat) (o : OutCmd) (x : Index) : State :=
  let w := o.word
  let e := if cPinValid w then ((pinOf s (sPin w) (cIndex w)).map (·.epoch)).getD x.current else x.current
  let es := (List.range (fIdHi w - fIdLo w + 1)).map (fun k => fetchEntry x e (fIdLo w + k))
  let poison := es.any (fun t => t.2.2)
  let s := withCmd s slot o.seq (fun o => { o with epoch := e, xlat := if (port s (portOf s slot)).atsOn then .asked else .present })
  finish s slot o.seq
    { status := if poison then .partialPoison else .ok, cause := { poison := poison }, epoch := e,
      count := (es.filter (fun t => t.2.1)).length, writes := placed (sResultAddr w) (es.map Prod.fst) }

/-- FETCH: checked at admission; read at once, or held by an earlier write of its channel (R215, R477). -/
def execFetch (slot seq : Nat) (s : State) : Result :=
  match admitting s slot seq 0x03 with
  | none => idle s
  | some o =>
    match fetchCheck s slot o.word, indexAt s (cIndex o.word) with
    | some st, _ => .next (finishWith s slot seq st)
    | none, none => .next (finishWith s slot seq .noIndex)
    | none, some x =>
      if fetchHeld s slot o then .next (bump (setStage s slot seq .waiting) 0x43 1) else .next (runFetch s slot o x)

/-- FETCH_ADMIT: a FETCH that waited is admitted when no earlier write holds it (R215), after the checks of R477 as they stand then. -/
def execFetchAdmit (slot seq : Nat) (s : State) : Result :=
  match outCmd s slot seq with
  | none => idle s
  | some o =>
    let waits := cOpcode o.word == 0x03 && (match o.stage with
      | .waiting => true
      | _ => false)
    if !waits || fetchHeld s slot o then idle s
    else
      match fetchCheck s slot o.word, indexAt s (cIndex o.word) with
      | some st, _ => .next (finishWith s slot seq st)
      | none, none => .next (finishWith s slot seq .noIndex)
      | none, some x => .next (runFetch s slot o x)

/-! ### Snapshot pins (R152) -/

/-- SNAPSHOT_PIN: a free pin slot, chosen by `pick`, holds CURRENT_EPOCH. -/
def execSnapshotPin (slot seq pick : Nat) (s : State) : Result :=
  match admitting s slot seq 0x41 with
  | none => idle s
  | some o =>
    let i := cIndex o.word
    if !(reservedOk o.word) then .next (finishWith s slot seq .invalid)
    else if !(seesIndex s slot i) then .next (finishWith s slot seq .noIndex)
    else
      match indexAt s i with
      | none => .next (finishWith s slot seq .noIndex)
      | some x =>
        if ctl s 0x68000B ≤ (s.pinSlots.filter (fun p => p.2.live)).length then .next (finishWith s slot seq .capacity)
        else if ((look s.pinSlots pick).any (·.live)) || decide (ctl s 0x68000B ≤ pick) then idle s
        else
          let gen := match look s.pinSlots pick with
            | some p => (p.gen + 1) % 4096
            | none => 0
          let p : PinSlot := { gen := gen, live := true, index := i, epoch := x.current, since := s.time.tick }
          .next (finish { s with pinSlots := keep pick p s.pinSlots } slot seq
            { status := .ok, result := pinId pick p, epoch := x.current })

/-- SNAPSHOT_RELEASE: the pin ends. -/
def execSnapshotRelease (slot seq : Nat) (s : State) : Result :=
  match admitting s slot seq 0x42 with
  | none => idle s
  | some o =>
    let id := fld o.word 191 160
    if !(reservedOk o.word) then .next (finishWith s slot seq .invalid)
    else
      match pinOf s id (bits id 19 12) with
      | none => .next (finishWith s slot seq .invalid)
      | some p => .next (finishWith { s with pinSlots := keep (id % 4096) { p with live := false } s.pinSlots } slot seq .ok)

/-- PIN_EXPIRE: a pin reaches PIN_MAX_AGE. -/
def execPinExpire (n : Nat) (s : State) : Result :=
  match look s.pinSlots n with
  | none => idle s
  | some p =>
    let age := ctl s 0x68000A
    if !p.live || age == 0 || decide (s.time.tick < p.since + age * 1000000) then idle s
    else
      let s := { s with pinSlots := keep n { p with live := false } s.pinSlots }
      .next (raise (bump s 0x39 1) 0x0303 1 (index := p.index) (args := [pinId n p]))

end Sys2Proof.Machine
end

