-- ==== Sys2Proof/Machine/Luthier.lean ====
section
/-!
DEFINITION. CREATE_INDEX, DROP_INDEX, MERGE_NOW and the luthier's own steps: merge batches, repair scans, release,
reclamation, rebuilt records (R40-R52, R98, R143-R155, R210, R211, R395).
-/
namespace Sys2Proof.Machine

/-! ### CREATE_INDEX (R40, R98, R170, R210, R211) -/

def ciParts (w : CmdWord) : Nat := fld w 135 128
def ciFormat (w : CmdWord) : Format := if fld w 71 64 = 0 then .w else .c

/-- The index that a command describes. -/
def ciCfg (w : CmdWord) : IndexCfg :=
  { format := ciFormat w, codeType := fld w 79 72, metric := fld w 87 80, partFn := fld w 127 120, rrFmt := fld w 95 88,
    rrDims := fld w 111 96, kernel := fld w 119 112, promoteBits := fld w 143 136, vecDims := fld w 63 48, owner := fld w 151 144 }

/-- Check 2 of R211. -/
def ciFieldsOk (w : CmdWord) : Bool :=
  let c := ciCfg w
  decide (fld w 71 64 ≤ 1 ∧ c.codeType ≤ 2 ∧ c.partFn ≤ 1 ∧ c.rrFmt ≤ 5 ∧ fld w 159 152 ≤ 9)
    && decide (1 ≤ c.promoteBits ∧ c.promoteBits ≤ 16 ∧ 1 ≤ c.vecDims ∧ c.vecDims ≤ 4096)
    && (if c.rrFmt = 0 then c.rrDims == 0
        else decide (64 ≤ c.rrDims ∧ c.rrDims ≤ 4096) && aligned c.rrDims 64 && c.rrDims == c.vecDims)
    && decide (1 ≤ ciParts w ∧ ciParts w ≤ 64)
    && aligned (fld w 319 256) 16 && aligned (fld w 255 192) 64

/-- Entry `i` of a partition table. -/
def tableEntry (bs : List Byte) (i : Nat) : Nat := numAt bs (16 * i) 16
def tablePart (bs : List Byte) (i : Nat) : Part :=
  let e := tableEntry bs i
  { mask := bits e 15 0, perStack := bits e 63 32, quota := bits e 127 96 }

/-- The lowest free index number. -/
def freeIndex (s : State) : Option Nat := lowestFrom (fun i => (indexAt s i).isNone) 0 256

/-- Checks 4 and 5 of R211: the partition table, placement and quotas. -/
def ciPlace (s : State) (c : IndexCfg) (table : List Byte) (n : Nat) : Except Status (List Part) :=
  let parts := (List.range n).map (tablePart table)
  if !((List.range n).all (fun i => bits (tableEntry table i) 95 64 == 0 && bits (tableEntry table i) 31 16 == 0)) then .error .invalid
  else if !(parts.all (fun p => [1, 2, 4, 8, 16].contains (stacksOf p).length)) then .error .invalid
  else if !(parts.all (fun p => decide (1024 ≤ p.perStack))) then .error .invalid
  else if !(parts.all (fun p => decide (totalSlots p ≤ 67108863))) then .error .invalid
  else if !(parts.all (fun p => decide (1 ≤ p.quota))) then .error .invalid
  else
    match placeAll s c.format [] parts with
    | none => .error .capacity
    | some parts =>
      match (if c.rrFmt = 0 then some parts else placeRerank s c [] parts) with
      | none => .error .capacity
      | some parts =>
        if !(quotaFits s c.format parts) then .error .capacity
        else if (freeIndex s).isNone then .error .capacity
        else .ok parts

/-- Check 6 of R211 (R98). -/
def ciMetricOk (s : State) (c : IndexCfg) : Bool :=
  decide (c.metric ≤ 3) && decide (c.kernel ≤ 15) && (c.rrFmt != 0 || c.kernel == 0)
    && (c.kernel == 0 || ((look s.kernels c.kernel).getD {}).valid)

/-- The command's buffers have been read: the rest of the checks, and the index is created. -/
def createIndexEnd (s : State) (slot seq : Nat) (w : CmdWord) (table image : List Byte) : State :=
  let c := ciCfg w
  match ciPlace s c table (ciParts w), freeIndex s with
  | .error st, _ => finishWith s slot seq st
  | .ok _, none => finishWith s slot seq .capacity
  | .ok parts, some i =>
    if !(ciMetricOk s c) || !(codeSetOk c true image) then finishWith s slot seq .invalid
    else
      let x : Index :=
        { cfg := c, parts := parts, quality := fld w 159 152, route := bit w.toNat 160,
          vers := [imageVersion c 0 1 image], proj := imgRows image (codeElems c) c.vecDims }
      finish { s with indexes := keep i x s.indexes } slot seq { status := .ok, result := i }

/-- CREATE_INDEX: checks 1 and 2; then its table and its image are read (R211). -/
def execCreateIndex (slot seq : Nat) (s : State) : Result :=
  match admitting s slot seq 0x83 with
  | none => idle s
  | some o => if !(reservedOk o.word) || !(ciFieldsOk o.word) then .next (finishWith s slot seq .invalid)
      else .next (nowWaiting s slot seq)

/-! ### DROP_INDEX (R155) -/

/-- Complete a command that still runs under an opcode. -/
def finishOp (s : State) (slot seq op : Nat) (c : Compl) : State :=
  match outCmd s slot seq with
  | some o => if cOpcode o.word = op ∧ isRunning o then finish s slot seq c else s
  | none => s

/-- No luthier work of a partition is in flight. -/
def stopLuthier (p : Part) : Part := { p with chains := p.chains.map (fun c => (c.1, { c.2 with batch := none, walk := none })) }

/-- Steps 1 to 3 of R155. -/
def beginDrop (s : State) (i slot seq : Nat) : State :=
  let start := (indexAt s i).bind (fun x => x.retune.start)
  let waiters := ((indexAt s i).map (fun x => x.retune.waiters)).getD []
  let s := withIndex s i (fun x => { x with
    dropping := some (slot, seq), luthier := .drop, waiting := false, parts := x.parts.map stopLuthier, retune := { space := x.retune.space } })
  let s := { s with pinSlots := s.pinSlots.map (fun p => if p.2.index = i then (p.1, { p.2 with live := false }) else p) }
  let s := finishAll s (fun o => cOpcode o.word == 0x88 && cIndex o.word == i && isRunning o) (fun _ => { status := .noIndex })
  let s := waiters.foldl (fun s t => finishOp s t.1 t.2 0x8A { status := .noIndex }) s
  let s := match start with
    | some t => finishOp s t.1 t.2 0x89 { status := .noIndex }
    | none => s
  let s := ((entriesOf s i).filter (fun e => e.state == 1 || e.state == 2)).foldl (fun s e => failWrite s e .noIndex) s
  retire (withIndex s i (fun x => { x with open_ := none, closed := [] })) i

/-- DROP_INDEX. -/
def execDropIndex (slot seq : Nat) (s : State) : Result :=
  match admitting s slot seq 0x84 with
  | none => idle s
  | some o =>
    if !(reservedOk o.word) then .next (finishWith s slot seq .invalid)
    else if !(seesIndex s slot (cIndex o.word)) then .next (finishWith s slot seq .noIndex)
    else .next (beginDrop (setStage s slot seq .running) (cIndex o.word) slot seq)

/-- Subindices of the shard window (R353). -/
def shardKeys : List Nat := [0x811001, 0x811002, 0x811003, 0x811004, 0x811005, 0x811006, 0x811007]

/-- DROP_INDEX_FINISH: no search or fetch of the index is in flight: everything it holds is freed, and the side-list condition of
the other indexes on its stacks is tested (R154, R155 steps 3 to 5). -/
def execDropIndexFinish (i : Nat) (s : State) : Result :=
  match (indexAt s i).bind (·.dropping) with
  | none => idle s
  | some t =>
    if epochsHeld s i ≠ [] then idle s
    else
      let mask := ((indexAt s i).map indexStacks).getD []
      let s := { s with
        indexes := forget s.indexes i
        strums := s.strums.filter (fun u => u.index != i)
        bridges := s.bridges.map (fun b => (b.1, { b.2 with
          reqs := b.2.reqs, orders := b.2.orders.filter (fun o => o.index != i),
          sweep := b.2.sweep.filter (fun w => w.order.index != i), cache := b.2.cache.filter (fun c => c.1 != i) })) }
      let s := shardKeys.foldl (fun s k => setCtl s k i (defaultOf k)) s
      let s := mask.foldl pressCheck s
      .next (finishOp s t.1 t.2 0x84 { status := .ok })

/-! ### MERGE_NOW (R146) -/

/-- Every chain with committed entries: partition, stack, and the position after the last of them. -/
def committedTails (x : Index) : List (Nat × Nat × Nat) :=
  (x.parts.zipIdx.map (fun p => p.1.chains.filterMap (fun c =>
    (c.2.entries.filter (fun e => decide (e.commit ≤ x.current))).getLast?.map (fun e => (p.2, c.1, e.pos + 1))))).flatten

/-- MERGE_NOW: completes once every entry committed at its admission is merged and published. -/
def execMergeNow (slot seq : Nat) (s : State) : Result :=
  match admitting s slot seq 0x88 with
  | none => idle s
  | some o =>
    let i := cIndex o.word
    if !(reservedOk o.word) then .next (finishWith s slot seq .invalid)
    else if !(seesIndex s slot i) then .next (finishWith s slot seq .noIndex)
    else
      match indexAt s i with
      | none => .next (finishWith s slot seq .noIndex)
      | some x =>
        .next (mergeNowDone (withCmd s slot seq (fun o => { o with stage := .running, targets := committedTails x })) i)

/-! ### Merging (R143, R144) -/

/-- The luthier may work on an index: not dropped, epochs left, and in QUIET only what a waiting write needs
(R137, R154). -/
def luthierMay (x : Index) : Bool := x.dropping.isNone && epochsLeft x && (x.luthier != .quiet || x.waiting)

/-- Marks of a chain, those that wait for publication included (R143). -/
def marksOf (x : Index) (pn stack : Nat) (c : Chain) : Nat :=
  let pending (b : Batch) : Nat := (b.works.filter (fun w => match w with
    | .mark p m _ => p == pn && m == stack
    | _ => false)).length
  c.marks.length + sumOf (x.closed.map pending) + ((x.open_.map pending).getD 0)

/-- The contexts that a core of a permitted die can give to a luthier walk (R145). -/
def placeLuthier (s : State) (mask g core : Nat) : Option Nat :=
  let d := core / 64
  if (diesOfMask mask).contains d ∧ walkCore s core ∧ admitsWalks s d then freeBlock s core g else none

/-- A chain's luthier walk takes contexts of `core`. -/
def takeContexts (s : State) (i pn stack epoch core ctx g : Nat) : State :=
  withPart s i pn (fun p => setChain p stack { chainOf p stack with
    walk := some { epoch := epoch, core := some core, ctx := ctx, g := g } })

/-- MERGE_BATCH_START: a batch of up to MERGE_BATCH committed entries of a chain begins; its luthier walks are admitted at
CURRENT_EPOCH and hold contexts of `core` (R144, R145, R149). A batch whose core was fenced takes contexts of another and begins
its walks again at their epoch (R85, R145). -/
def execMergeBatchStart (i pn stack core : Nat) (s : State) : Result :=
  match indexAt s i with
  | none => idle s
  | some x =>
    match partAt x pn with
    | none => idle s
    | some p =>
      let c := chainOf p stack
      let g := luthierWidth x.cfg.format (ctl s 0x680004)
      match placeLuthier s p.mask g core, c.walk with
      | none, _ => idle s
      | some a, some w =>
        if w.core.isSome || x.dropping.isSome then idle s
        else .next (takeContexts s i pn stack w.epoch core a g)
      | some a, none =>
        let es := batchEntries x c (ctl s 0x680003)
        if !(luthierMay x) || c.batch.isSome || es == [] || decide (16 ≤ marksOf x pn stack c) then idle s
        else
          let last := (es.getLast?.map (·.pos)).getD 0
          let s := withPart s i pn (fun p => setChain p stack { chainOf p stack with batch := some (last + 1) })
          .next (takeContexts s i pn stack x.current core a g)

/-- The counts of luthier walks join the search counters (R89). -/
def noteTally (s : State) (t : Tally) : State := bump (bump (bump s 0x22 t.issued) 0x24 t.miss) 0x25 t.ends

/-- MERGE_BATCH_DONE: the walks of the batch have run and every write of it has completed; its mark joins the open batch, and its
contexts are free again (R144, R145, R147). The walks and writes act here, at once: DESIGN CHOICE, log entry 17. -/
def execMergeBatchDone (i pn stack : Nat) (s : State) : Result :=
  match indexAt s i with
  | none => idle s
  | some x =>
    match partAt x pn with
    | none => idle s
    | some p =>
      let c := chainOf p stack
      match c.batch, c.walk with
      | some pos, some w =>
        if x.dropping.isSome || w.core.isNone || !(epochsLeft x) then idle s
        else
          let e := (batchNow s x).epoch
          let es := entriesInFlight c
          let m := es.foldl (mergeEntry x pn (ctl s 0x680004) w.epoch) (p, {})
          let q := setChain m.1 stack { chainOf m.1 stack with batch := none, walk := none, merged := pos }
          let q := { q with repair := (unlinkedOf x p es).foldl (fun l n => keep n.1 (e, n.2) l) q.repair }
          .next (joinBatch (noteTally (withPart s i pn (fun _ => q)) m.2) i (.mark pn stack pos))
      | _, _ => idle s

/-! ### Repair and reclamation (R147, R148, R151) -/

/-- A scan is due (R148). -/
def scanDue (s : State) (x : Index) (p : Part) : Bool :=
  let d := repairSet x p
  d != [] && (decide (ctl s 0x680008 * totalSlots p ≤ d.length * 1000)
    || d.any (fun n => (look p.deletedAt n.1).any (fun t => decide (t + ctl s 0x680009 * 1000000 ≤ s.time.tick))))

/-- REPAIR_SCAN_START: the repair set closes (R148 step 1). -/
def execRepairScanStart (i pn : Nat) (s : State) : Result :=
  match indexAt s i with
  | none => idle s
  | some x =>
    match partAt x pn with
    | none => idle s
    | some p =>
      if !(luthierMay x) || p.scan.isSome || !(scanDue s x p) then idle s
      else .next (withPart s i pn (fun q => { q with scan := some { set := repairSet x p } }))

/-- REPAIR_SCAN_DONE: mirror entries and records lose every edge to the set, and the scan joins the open batch (R148 steps
2 to 5); `pick` names the node that the luthier would make the entry point. -/
def execRepairScanDone (i pn pick : Nat) (s : State) : Result :=
  match indexAt s i with
  | none => idle s
  | some x =>
    match partAt x pn with
    | none => idle s
    | some p =>
      match p.scan with
      | none => idle s
      | some sc =>
        if x.dropping.isSome || sc.epoch.isSome || !(epochsLeft x) then idle s
        else
          let e := (batchNow s x).epoch
          let set := freshSet p sc.set
          let r := repairScan x pn (set.map Prod.fst) pick p
          let q := { r.1 with
            scan := some { sc with epoch := some e }, repair := set.foldl (fun l n => keep n.1 (e, n.2) l) r.1.repair }
          .next (joinBatch (bump (withPart s i pn (fun _ => q)) 0x35 r.2) i (.scan pn))

/-- LOW_WATER_UPDATE (R149). -/
def execLowWaterUpdate (i : Nat) (s : State) : Result :=
  match indexAt s i with
  | none => idle s
  | some x => .next (withIndex s i (fun y => { y with lowWater := trueLowWater s i x }))

/-- Clear IN_SIDE in the records of released entries. -/
def clearSideBits (p : Part) (es : List SideEntry) : Part :=
  es.foldl (fun p e =>
    let r := recOf p e.slot
    if r.gen = e.gen then setRec p e.slot { r with state := setBit r.state 4 false } else p) p

/-- ENTRY_RELEASE: entries whose merge epoch is at or below the low-water epoch leave their chain (R150). -/
def execEntryRelease (i pn stack : Nat) (s : State) : Result :=
  match indexAt s i with
  | none => idle s
  | some x =>
    match partAt x pn with
    | none => idle s
    | some p =>
      let c := chainOf p stack
      match (c.marks.filter (fun m => decide (m.2 ≤ x.lowWater))).getLast? with
      | none => idle s
      | some m =>
        if !(luthierMay x) then idle s
        else
          let out := c.entries.filter (fun e => decide (e.pos < m.1))
          let rest := c.entries.filter (fun e => !(decide (e.pos < m.1)))
          let skipped := sumOf (c.chunks.map Prod.snd) - c.entries.length
          let c := { c with
            entries := rest, marks := c.marks.filter (fun y => !(decide (y.2 ≤ x.lowWater))),
            chunks := dropChunks (skipped + out.length) c.chunks }
          .next (pressCheck (withPart s i pn (fun p => setChain (clearSideBits p out) stack c)) stack)

/-- SLOT_RECLAIM: a repaired slot that no search can reach returns to the free pool (R151). -/
def execSlotReclaim (i pn slot : Nat) (s : State) : Result :=
  match indexAt s i with
  | none => idle s
  | some x =>
    match partAt x pn with
    | none => idle s
    | some p =>
      let r := recOf p slot
      match look p.repair slot with
      | none => idle s
      | some (e, gen) =>
        if !(luthierMay x) || !(isLive r) || r.gen != gen || !(deletedBy r x.current)
            || decide (x.current < e) || decide (x.lowWater < e) || isInSide r || p.mirror.any (fun m => m.slot == slot) then idle s
        else
          let q := setRec p slot { r with
            extId := nullId, filterTag := 0, commit := noEpoch, state := 0, delete := noEpoch, codeVer := 0, nbrCount := 0,
            nbr := [], sketch := [] }
          .next (bump (withPart s i pn (fun _ =>
            { q with repair := forget q.repair slot, deletedAt := forget q.deletedAt slot })) 0x36 1)

/-- Some die of the mask admits a luthier walk of `g` contexts (R50, R145). -/
def roomForLuthier (s : State) (mask g : Nat) : Bool :=
  (diesOfMask mask).any (fun d => admitsWalks s d && (walkCores s d).any (fun c => (freeBlock s c g).isSome))

/-- RECORD_REBUILD: an unreadable record whose header and rerank vector read correctly is written anew; the luthier walk of a merged
one needs a die that admits it (R50, R395). -/
def execRecordRebuild (i pn slot : Nat) (s : State) : Result :=
  match indexAt s i with
  | none => idle s
  | some x =>
    match partAt x pn with
    | none => idle s
    | some p =>
      if !((look p.poisoned slot).getD false) || x.cfg.rrFmt == 0 || p.rerankBad.contains slot || !(isLive (recOf p slot))
          || !(luthierMay x)
          || (isMerged p slot && !(roomForLuthier s p.mask (luthierWidth x.cfg.format (ctl s 0x680004)))) then idle s
      else
        let merged := isMerged p slot
        let r := rebuild x pn (ctl s 0x680004) p slot
        let s := noteTally (withPart s i pn (fun _ => r.1)) r.2
        .next (if merged then joinBatch s i (.rebuild pn slot) else s)

end Sys2Proof.Machine
end

