-- ==== Sys2Proof/Machine/Retune.lean ====
section
/-!
DEFINITION. Retune: RETUNE_START, RETUNE_COMMIT and the retune state machine (R179-R188).
-/
namespace Sys2Proof.Machine

/-- A retune is over: its space is free, the epochs and the shadow's error stay readable (R183, R190). -/
def idleRetune (t : Retune) : Retune :=
  { shadowEpoch := t.shadowEpoch, switchEpoch := t.switchEpoch, mseShadow := t.mseShadow }

/-- The retune ends before a shadow version is published: RETUNE_START completes as `c`, waiting RETUNE_COMMITs with
ABORTED (R181, R182). -/
def endRetune (s : State) (i : Nat) (c : Compl) : State :=
  match indexAt s i with
  | none => s
  | some x =>
    let s := withIndex s i (fun x => { x with retune := idleRetune x.retune })
    let s := match x.retune.start with
      | some t => finishOp s t.1 t.2 0x89 c
      | none => s
    x.retune.waiters.foldl (fun s t => finishOp s t.1 t.2 0x8A { status := .aborted }) s

/-- The retune state is IDLE and the index holds one version (R181). -/
def retuneFree (x : Index) : Bool := x.retune.state == .idle && decide (x.vers.length = 1)

def rsMode (w : CmdWord) : Nat := fld w 55 48

/-- The supplied image has been read: the rest of the checks of R181, and the retune begins. -/
def retuneStartEnd (s : State) (slot seq : Nat) (w : CmdWord) (image : List Byte) : State :=
  let i := cIndex w
  match indexAt s i with
  | none => finishWith s slot seq .noIndex
  | some x =>
    if !(seesIndex s slot i) then finishWith s slot seq .noIndex
    else if !(retuneFree x) then finishWith s slot seq .invalid
    else if rsMode w = 1 ∧ !(codeSetOk x.cfg false image) then finishWith s slot seq .invalid
    else if !(retuneFits s x (rsMode w == 0)) then finishWith s slot seq .capacity
    else
      let num := (((newestVer x).map (·.num)).getD 0 + 1) % 256
      let v := if rsMode w = 1 then some (imageVersion x.cfg num 0 image) else none
      setStage (withIndex s i (fun y => { y with retune := beginRetune s x (some (slot, seq)) v })) slot seq .running

/-- RETUNE_START (R181). -/
def execRetuneStart (slot seq : Nat) (s : State) : Result :=
  match admitting s slot seq 0x89 with
  | none => idle s
  | some o =>
    let w := o.word
    if !(reservedOk w) then .next (finishWith s slot seq .invalid)
    else if !(seesIndex s slot (cIndex w)) then .next (finishWith s slot seq .noIndex)
    else if 1 < rsMode w then .next (finishWith s slot seq .invalid)
    else if !((indexAt s (cIndex w)).any retuneFree) then .next (finishWith s slot seq .invalid)
    else if rsMode w = 1 then .next (nowWaiting s slot seq)
    else .next (retuneStartEnd s slot seq w [])

/-- Pass 2 on one record, its side-list entry and its mirror entries. -/
def passTwoRec (x : Index) (b : CodeVer) (pn : Nat) (p : Part) (slot : Nat) : Part :=
  let r := recOf p slot
  if !(isLive r) || r.codeVer == b.num then p
  else
    let code := codeUnder x p slot b
    let p1 := setRec p slot { r with code := code, codeVer := b.num, sketch := r.nbr.map (fun n => sketchUnder x pn p n b) }
    let p2 := if isInSide r then withSide p1 slot r.gen (fun e => { e with code := code, codeVer := b.num }) else p1
    { p2 with mirror := p2.mirror.map (fun m => if m.slot = slot then { m with code := code, codeVer := b.num } else m) }

/-- Pass 2 over the slots of a partition that it wants. -/
def passTwo (x : Index) (b : CodeVer) (want : Nat → Bool) (pn : Nat) (p : Part) : Part :=
  ((p.recs.map Prod.fst).filter want).foldl (passTwoRec x b pn) p

/-- A batch of the index carries the version change. -/
def versionJoined (x : Index) : Bool := (x.open_.toList ++ x.closed).any (fun b => b.works.contains .version)

/-- A version change that is not published leaves the batches: an open batch that holds nothing more is no batch (R136), the shadow
version is no longer held, and an occupant already encoded under it is encoded again under the live one (R182; DESIGN CHOICE, log
entry 105). -/
def dropVersion (x : Index) : Index :=
  let out (b : Batch) : Batch := { b with works := b.works.filter (fun w => w != .version) }
  let parts := match newestLive x with
    | some a => x.parts.zipIdx.map (fun p => passTwo x a (fun _ => true) p.2 p.1)
    | none => x.parts
  { x with
    open_ := (x.open_.map out).filter (fun b => b.writes != 0 || b.works != []), closed := x.closed.map out,
    vers := x.vers.filter (fun v => decide (v.eOn ≤ x.current)), parts := parts }

/-- The switch joins the open batch (R183). -/
def joinSwitch (s : State) (i : Nat) : State :=
  joinBatch (withIndex s i (fun x => { x with retune := { x.retune with switching := true } })) i .switch

/-- RETUNE_COMMIT (R182). -/
def execRetuneCommit (slot seq : Nat) (s : State) : Result :=
  match admitting s slot seq 0x8A with
  | none => idle s
  | some o =>
    let i := cIndex o.word
    if !(reservedOk o.word) then .next (finishWith s slot seq .invalid)
    else if !(seesIndex s slot i) then .next (finishWith s slot seq .noIndex)
    else
      match indexAt s i with
      | none => .next (finishWith s slot seq .noIndex)
      | some x =>
        let wait (s : State) : State :=
          setStage (withIndex s i (fun x => { x with retune := { x.retune with waiters := x.retune.waiters ++ [(slot, seq)] } }))
            slot seq .running
        if x.retune.state = .idle then .next (finishWith s slot seq .invalid)
        else if cDiscard o.word then
          if x.retune.state = .sample ∨ x.retune.state = .fit then
            .next (finishWith (endRetune (withIndex s i dropVersion) i { status := .aborted }) slot seq .ok)
          else .next (finishWith s slot seq .invalid)
        else if x.retune.state = .switched then .next (finishWith s slot seq .ok)
        else if x.retune.state = .ready ∧ !x.retune.switching ∧ epochsLeft x then .next (wait (joinSwitch s i))
        else .next (wait s)

/-! ### Sampling and the fit (R183-R186) -/

/-- Committed, undeleted occupants of an index in ascending slot order. -/
def occupants (x : Index) : List (Nat × Nat) :=
  (x.parts.zipIdx.map (fun p => (p.1.recs.filter (fun r => observed r.2 x.current)).map (fun r => (p.2, r.1)))).flatten

/-- The remainder of the samples, drawn from the occupants (R184). -/
def drawSamples (x : Index) (n : Nat) : List Sample :=
  let l := occupants x
  let start := mix64 x.current % max 1 l.length
  ((l.drop start ++ l.take start).take n).map (fun t =>
    let p := x.parts.getD t.1 { mask := 0, perStack := 0, quota := 0 }
    { p := (srcOf x p t.2).map e32,
      rr := if x.cfg.rrFmt = 0 then [] else (storedVec x.cfg.rrFmt ((look p.rerank t.2).getD [])).map e32 })

/-- RETUNE_SAMPLE_TIMEOUT: RETUNE_SAMPLE_TIME has passed: the remainder is drawn, or the retune ends with outcome 1
(R184). -/
def execRetuneSampleTimeout (i : Nat) (s : State) : Result :=
  match indexAt s i with
  | none => idle s
  | some x =>
    let t := x.retune
    if t.state ≠ .sample ∨ x.luthier = .quiet ∨ s.time.tick < t.since + t.par.time * 1000000 then idle s
    else
      let all := t.samples ++ drawSamples x (t.par.samples - t.samples.length)
      if occupants x = [] ∧ all.length < 4096 then .next (endRetune s i { status := .ok, result := 1 })
      else .next (withIndex s i (fun x => { x with retune := { x.retune with state := .fit, samples := all } }))

/-- The shadow version's change joins the open batch (R183, R186). -/
def joinVersion (s : State) (i : Nat) (v : CodeVer) : State :=
  joinBatch (withIndex s i (fun x => { x with retune := { x.retune with shadow := some v } })) i .version

/-- RETUNE_FIT_DONE: the fit is measured; with the gain met, or for a supplied version, the version change joins the open
batch (R183, R185). -/
def execRetuneFitDone (i : Nat) (s : State) : Result :=
  match indexAt s i with
  | none => idle s
  | some x =>
    let t := x.retune
    if t.state ≠ .fit ∨ versionJoined x ∨ x.luthier = .quiet ∨ !(epochsLeft x) then idle s
    else
      match t.supplied, t.shadow, newestVer x with
      | true, some v, _ => .next (joinVersion s i v)
      | false, _, some a =>
        let ps := t.samples.map (fun y => y.p.map d32)
        let rrs := t.samples.map (fun y => y.rr.map d32)
        let fit := fitVersion x.cfg ((a.num + 1) % 256) t.par.clip t.par.quantile ps rrs
        let live := meanErr x.cfg a ps
        let s := if fit.2 then raise s 0x0306 1 (index := i) (args := [fit.1.num]) else s
        let s := withIndex s i (fun x => { x with retune := { x.retune with mseShadow := fit.1.mse } })
        if fle (fmul (d32 fit.1.mse) (ofInt 100)) (fmul (d32 live) (ofInt (100 - t.par.gain))) then
          .next (joinVersion s i fit.1)
        else
          .next (endRetune (raise s 0x0305 0 (index := i) (args := [live.toNat, fit.1.mse.toNat])) i { status := .ok, result := 1 })
      | _, _, _ => idle s

/-- RETUNE_ARM: the low-water epoch has reached the shadow epoch: pass 1 starts (R183, R188). -/
def execRetuneArm (i : Nat) (s : State) : Result :=
  match indexAt s i with
  | none => idle s
  | some x =>
    if x.retune.state ≠ .armed ∨ x.luthier = .quiet ∨ epochsLeft x = false ∨ x.lowWater < x.retune.shadowEpoch then idle s
    else .next (withIndex s i (fun x => { x with retune := { x.retune with state := .pass1, since := s.time.tick, passed := 0 } }))

/-! ### Passes (R187) -/

/-- Pass 1 over the slots of a partition that it wants: every occupied one without an entry of its present generation gets one. -/
def passOne (x : Index) (b : CodeVer) (want : Nat → Bool) (table : List SketchEntry) (pn : Nat) (p : Part) : List SketchEntry :=
  (p.recs.filter (fun r => isLive r.2 && want r.1)).foldl (fun t r =>
    if t.any (fun e => e.part == pn && e.slot == r.1 && e.gen == r.2.gen) then t
    else
      t.filter (fun e => !(e.part == pn && e.slot == r.1)) ++
        [{ part := pn, slot := r.1, sketch := sketchOf x.cfg b (codeUnder x p r.1 b), gen := r.2.gen }]) table

/-- The slots of an index with numbers from `lo` below `hi`, counted through its partitions in order, take the pass that is under
way. -/
def passSlots (x : Index) (b : CodeVer) (lo hi : Nat) : Index :=
  let want (pn slot : Nat) : Bool :=
    let n := sumOf ((x.parts.take pn).map totalSlots) + slot
    decide (lo ≤ n ∧ n < hi)
  match x.retune.state with
  | .pass1 =>
    { x with retune := { x.retune with table := x.parts.zipIdx.foldl (fun t p => passOne x b (want p.2) t p.2 p.1) x.retune.table } }
  | .pass2 => { x with parts := x.parts.zipIdx.map (fun p => passTwo x b (want p.2) p.2 p.1) }
  | _ => x

/-- An index takes the slots that its pass reaches between the times of two states. -/
def runPass (s t : State) (x : Index) : Index :=
  match x.retune.shadow with
  | none => x
  | some b =>
    if inPass x.retune && epochsLeft x then passSlots x b (passUnits s x / 1000000000) (passUnits t x / 1000000000) else x

/-- `t` with the slots that the passes reach since `s`. -/
def runPasses (s t : State) : State := { t with indexes := t.indexes.map (fun x => (x.1, runPass s t x.2)) }

/-- A pass has gone over every slot. -/
def passElapsed (s : State) (x : Index) : Bool := decide (indexSlots x * 1000000000 ≤ passUnits s x)

/-- RETUNE_PASS_DONE: pass 1 or pass 2 has covered every occupied slot (R183, R187). Each slot took the pass in the ACLK
cycle that reached it (log entry 17); those that have come into use since take it here. -/
def execRetunePassDone (i : Nat) (s : State) : Result :=
  match indexAt s i with
  | none => idle s
  | some x =>
    match x.retune.shadow with
    | none => idle s
    | some b =>
      if x.luthier = .quiet ∨ epochsLeft x = false ∨ !(passElapsed s x) then idle s
      else
        match x.retune.state with
        | .pass1 =>
          let table := x.parts.zipIdx.foldl (fun t p => passOne x b (fun _ => true) t p.2 p.1) x.retune.table
          .next (withIndex s i (fun x => { x with retune := { x.retune with
            state := .pass2, table := table, since := s.time.tick, passed := 0 } }))
        | .pass2 =>
          let s := withIndex s i (fun y => { y with
            parts := x.parts.zipIdx.map (fun p => passTwo x b (fun _ => true) p.2 p.1)
            retune := { y.retune with state := .ready, passed := indexSlots x * 1000000000 } })
          if (x.retune.par.auto ∨ x.retune.waiters ≠ []) ∧ epochsLeft x then .next (joinSwitch s i) else .next s
        | _ => idle s

/-- RETUNE_RETIRE: the low-water epoch has reached the switch epoch: the older version is retired (R100, R179, R183). -/
def execRetuneRetire (i : Nat) (s : State) : Result :=
  match indexAt s i with
  | none => idle s
  | some x =>
    if x.retune.state ≠ .switched ∨ x.lowWater < x.retune.switchEpoch then idle s
    else
      let old := (x.vers.head?.map (·.num)).getD 256
      let s := withIndex s i (fun x => { x with vers := x.vers.drop 1, retune := idleRetune x.retune })
      .next { s with bridges := s.bridges.map (fun b => (b.1, { b.2 with cache := b.2.cache.filter (fun c => c != (i, old)) })) }

end Sys2Proof.Machine
end

