-- ==== Sys2Proof/Machine/Clock.lean ====
section
/-!
DEFINITION. The passage of time. The slots that a retune pass reaches take it as time goes by (R187); every other timer compares
`tick` or `base` with the value it recorded (R8, R20, R22).
-/
namespace Sys2Proof.Machine

/-- Time goes by. -/
def passTime (s : State) (t : TimeBase) : State := runPasses s { s with time := t }

/-- One ACLK cycle of 40 ns (R20), while auxiliary power keeps the always-on island running. DESIGN CHOICE, log entry 1. -/
def tickAclk (s : State) : State :=
  if s.pins.aux then passTime s { s.time with base := s.time.base + 40, tick := s.time.tick + 40 } else s

end Sys2Proof.Machine
end

