-- ==== Sys2Proof/Machine/Search.lean ====
section
/-!
DEFINITION. Search commands: admission, start, registration, walks, expansion, sweeps, merging, rerank and cut (R63-R91,
R128-R130, R139-R141, R205, R418).
-/
namespace Sys2Proof.Machine

/-! ### Admission (R79, R86, R205) -/

def inRange (v lo hi : Nat) : Bool := decide (lo ≤ v ∧ v ≤ hi)

/-- The fourth check of R79: explicit parameters, FILTER_OP, LEVEL, Q_FMT, alignment, the pin, and PARTITION of a
SEARCH_EXACT. -/
def searchFieldsOk (s : State) (x : Index) (w : CmdWord) (exact : Bool) : Bool :=
  (sCand w == 0 || inRange (sCand w) 16 1024) && (sHop w == 0 || inRange (sHop w) 16 65535)
    && (sPrefetch w == 0xFF || decide (sPrefetch w ≤ 7)) && (sRerank w == 0xFFFF || decide (sRerank w ≤ 1024))
    && (sSlack w == 0xFFFF || decide (sSlack w ≤ 1023)) && decide (sFilterOp w ≤ 4) && decide (sLevel w ≤ 9)
    && inRange (sQFmt w) 1 5 && aligned (sQueryAddr w) 64 && aligned (sResultAddr w) 8
    && (!(cPinValid w) || (pinOf s (sPin w) (cIndex w)).isSome)
    && (!exact || decide (cPartition w < x.parts.length))

/-- The checks of R79 at module time `t`; `none` where all pass. -/
def searchCheck (s : State) (slot : Nat) (w : CmdWord) (exact : Bool) (t : Nat) : Option Status :=
  if !(reservedOk w) then some .invalid
  else if !(seesIndex s slot (cIndex w)) then some .noIndex
  else
    match indexAt s (cIndex w) with
    | none => some .noIndex
    | some x =>
      if !(inRange (sK w) 1 1024) then some .invalid
      else if !(searchFieldsOk s x w exact) then some .invalid
      else if x.cfg.rrFmt == 0 && sRerank w != 0xFFFF && sRerank w != 0 then some .invalid
      else if sDeadline w ≤ t then some .tooLate
      else if !(inRange (sDeadline w) (t + 10000) (t + 1000000000)) then some .invalid
      else none

/-- One parameter: explicit, from the level of the command or of the index, from a default of 0x5000, or from
QUALITY_DEFAULT (R86, R87). -/
def pick1 (explicit : Option Nat) (level : Option Nat) (default : Option Nat) (last : Nat) : Nat :=
  (explicit.orElse (fun _ => level.orElse (fun _ => default))).getD last

/-- A value that is not the one that stands for "not given". -/
def given (v unset : Nat) : Option Nat := if v = unset then none else some v

/-- The resolved parameters of a search (R86, R87). -/
def resolve (s : State) (x : Index) (w : CmdWord) : Params :=
  let lv := if sLevel w ≠ 0 then some (levelParams (sK w) (sLevel w))
            else if x.quality ≠ 0 then some (levelParams (sK w) x.quality) else none
  let last := levelParams (sK w) (ctl s 0x500001)
  let rr := pick1 (given (sRerank w) 0xFFFF) (lv.map (·.rerank)) (given (ctl s 0x500005) 0xFFFF) last.rerank
  { k := sK w
    cw := pick1 (given (sCand w) 0) (lv.map (·.cw)) (given (ctl s 0x500002) 0) last.cw
    hop := pick1 (given (sHop w) 0) (lv.map (·.hop)) (given (ctl s 0x500003) 0) last.hop
    pf := pick1 (given (sPrefetch w) 0xFF) (lv.map (·.pf)) (given (ctl s 0x500004) 0xFF) last.pf
    rerank := if x.cfg.rrFmt = 0 then 0 else rr
    slack := pick1 (given (sSlack w) 0xFFFF) (lv.map (·.slack)) (given (ctl s 0x500006) 0xFFFF) last.slack }

/-- Take an admitted query into the module: it is stamped, reserves its cut where a bin has room, joins the strum of its
index unless it is a SEARCH_EXACT, and waits to start (R63, R80, R138, R139). -/
def enterQuery (s : State) (q : Query) : State :=
  let s := reserveCut { s with queries := s.queries ++ [q] } q.tag
  if q.exact.isSome then s else joinStrum s q.index q.tag

/-- The admission epoch of a command (R138, R152). -/
def admitEpoch (s : State) (x : Index) (w : CmdWord) : Nat :=
  if cPinValid w then ((pinOf s (sPin w) (cIndex w)).map (·.epoch)).getD x.current else x.current

/-- Admit a host command whose search fields are `w`; the vector comes from host memory, or from an encoder (R208). The
result buffer's translation is asked for beside it (R229). -/
def admitQuery (s : State) (slot seq : Nat) (w : CmdWord) (exact fromHost : Bool) (t : Nat) : State :=
  match indexAt s (cIndex w) with
  | none => finishWith s slot seq .noIndex
  | some x =>
    let e := admitEpoch s x w
    let q : Query := { tag := hostTag slot seq, origin := .host slot seq, index := cIndex w,
                       exact := if exact then some (cPartition w) else none, epoch := e, admitted := t,
                       deadline := sDeadline w, origD := sDeadline w, resultAddr := sResultAddr w,
                       params := resolve s x w, qfmt := sQFmt w, vectorFrom := fromHost,
                       filter := { op := sFilterOp w, mask := sFilterMask w, value := sFilterValue w } }
    let s := withCmd s slot seq (fun o => { o with
      stage := .running, epoch := e, admitTick := s.time.tick,
      xlat := if (port s (portOf s slot)).atsOn then .asked else .present })
    enterQuery s q

/-- Admission of SEARCH and SEARCH_EXACT. -/
def admitSearch (slot seq op lag : Nat) (exact : Bool) (s : State) : Result :=
  match admitting s slot seq op with
  | none => idle s
  | some o =>
    let t := seenTime s lag
    match searchCheck s slot o.word exact t with
    | some st => .next (finishWith s slot seq st)
    | none => .next (admitQuery s slot seq o.word exact true t)

/-- SEARCH: checked, stamped and queued to start (R79). -/
def execSearch (slot seq lag : Nat) (s : State) : Result := admitSearch slot seq 0x01 lag false s

/-- SEARCH_EXACT: checked, stamped and queued to start (R79, R91). -/
def execSearchExact (slot seq lag : Nat) (s : State) : Result := admitSearch slot seq 0x02 lag true s

/-! ### Start and encoding (R63, R101, R343) -/

/-- The home core encodes the query under every code version that is live at its epoch (R63, R101); then a QUERY frame goes
to each child. -/
def encodeQuery (s : State) (tag : Nat) : State :=
  match queryOf s tag with
  | none => s
  | some q =>
    match q.qvec, indexAt s q.index with
    | some bs, some x =>
      if q.home.isNone || q.encoded then s
      else
        let pr := project x.cfg x.proj (vecOf q.qfmt x.cfg.vecDims bs)
        let cs := (liveVers x q.epoch).map (fun v => (v, codeOf x.cfg v pr.1))
        let opers := cs.map (fun c => ({ ver := c.1.num, code := c.2.1, sketch := sketchOf x.cfg c.1 c.2.1 } : Operand))
        let s := if cs.any (fun c => decide (0 < c.2.2)) then bump s 0x26 1 else s
        let s := if pr.2 then bump s 0x27 1 else s
        sendChildren (withQuery s tag (fun q => { q with
          encoded := true, opers := opers, phase := if q.exact.isSome then .registered else q.phase })) tag
    | _, _ => s

/-- The query vector has arrived (R228). -/
def takeVector (s : State) (tag : Nat) (bs : List Byte) : State :=
  let t := withQuery (endReqs s (.vector tag)) tag (fun q => { q with qvec := some bs })
  encodeQuery (if lostRanges s (.vector tag) = [] then t else markCause t tag setPoison) tag

def isWaiting (q : Query) : Bool := q.phase == .waiting

/-- Everything that a waiting search needs to start is free, apart from the choice of its core (R63, R126, R208). -/
def startable (s : State) (q : Query) : Bool :=
  isWaiting q && q.cut.isSome && (q.vectorFrom || q.qvec.isSome) &&
    (match indexAt s q.index with
     | none => false
     | some x =>
       storeRoom s x q &&
         (match q.exact with
          | none => placeable s ((partAt x 0).map (·.mask) |>.getD 0) (walkWidth q)
          | some _ => (members (queryMask x q) 16).all (fun m => placeable s (stackMask m) 1)))

/-- The die merge stages of a query, with their contributors (R127). -/
def newStages (x : Index) (q : Query) (core : Nat) : List (Nat × MergeStage) :=
  (queryDies x q).map (fun d =>
    let ms := (members (queryMask x q) 16).filter (fun m => m / 2 == d)
    let exp : List Contributor := match q.exact with
      | some _ => ms.map .exact
      | none => ms.map .sweep ++ (if core / 64 = d then [.walk 0] else [])
    (d, { expected := exp }))

/-- Requests of a query's vector in host memory (R205, R321). -/
def vectorReqs (s : State) (x : Index) (q : Query) : List (Nat × Nat) :=
  match q.origin with
  | .host slot seq =>
    if q.vectorFrom && q.qvec.isNone then
      ((outCmd s slot seq).map (fun o => reqRuns (fld o.word 319 256) (x.cfg.vecDims * rrSize q.qfmt))).getD []
    else []
  | .child _ _ _ _ => []

/-- Start a query on its home core (R63), which reads the vector where it has not arrived yet (R321). -/
def startQuery (s : State) (x : Index) (q : Query) (core : Nat) : Option State :=
  let set (s : State) : State := withQuery (beginReqs s core (.vector q.tag) (vectorReqs s x q)) q.tag (fun q => { q with
    phase := .started, home := some core, dies := newStages x q core, hub := { expected := (queryDies x q).map .die } })
  match q.exact with
  | some _ =>
    let ms := members (queryMask x q) 16
    if (ms.map (· / 2)).contains (core / 64) then
      (placeExact core ms s q.tag).map (fun s => encodeQuery (sealStages (set s) q.tag) q.tag)
    else none
  | none =>
    (placeOn s ((partAt x 0).map (·.mask) |>.getD 0) (walkWidth q) core).map (fun a =>
      let s := withQuery s q.tag (fun q => { q with
        walks := [{ part := 0, core := core, ctx := a, g := walkWidth q }], unplaced := (List.range x.parts.length).drop 1 })
      encodeQuery (sealStages (set s) q.tag) q.tag)

/-- SEARCH_START: a waiting search that holds its cut reservation obtains merge-store room and contexts on `core`, its home
core; an earlier search that could start goes first; below level 64 it draws a token (R63, R126, R418). -/
def execSearchStart (tag core lag : Nat) (s : State) : Result :=
  match queryOf s tag with
  | none => idle s
  | some q =>
    let first := (s.queries.takeWhile (fun y => y.tag != tag)).all (fun y => !(startable s y))
    let inTime := q.cut.all (fun t => decide (seenTime s lag < t))
    let metered := decide (s.power.thr.meter < 64)
    if !(startable s q) || !first || !inTime || (metered && s.power.tokens == 0) then idle s
    else
      match (indexAt s q.index).bind (fun x => startQuery s x q core) with
      | none => idle s
      | some s => .next (if metered then drawToken s else s)

/-- QUERY_REGISTRATION_DONE: query-table entries are granted and written on every stack at once, in admission order, with
their parameter blocks in the caches; the walk of partition 0 may begin (R63, R64, R100). -/
def execQueryRegistrationDone (tag : Nat) (s : State) : Result :=
  match queryOf s tag with
  | none => idle s
  | some q =>
    match indexAt s q.index with
    | none => idle s
    | some x =>
      let asks (y : Query) : Bool := y.phase == .started && y.encoded && y.exact.isNone && !y.cutDone
      let first := (s.queries.takeWhile (fun y => y.tag != tag)).all (fun y => !(asks y))
      let ms := indexStacks x
      let room := ms.all (fun m => decide (entriesOn s m < 7168))
      let caches := ms.map (fun m => (loadBlocks s m (blocksOf_ q)).map (fun c => (m, c)))
      if !(asks q) || !first || !room || caches.any Option.isNone || !(q.cut.all (notPast s)) then idle s
      else
        let entries := ms.map (fun m => (m, freeEntry s m))
        let s := (caches.filterMap id).foldl (fun s c => setBridge s c.1 { bridge s c.1 with cache := c.2 }) s
        .next (withQuery s tag (fun q => { q with
          phase := .registered, qtab := entries
          walks := q.walks.map (fun w => { w with descent := descentFree s w.core }) }))

/-! ### Walks (R63, R66-R74) -/

/-- WALK_PLACE: a further walk finds g free contexts on a permitted die (R63); a walk that lost its core stays the
contributor that it was (R127). -/
def execWalkPlace (tag part core : Nat) (s : State) : Result :=
  match queryOf s tag with
  | none => idle s
  | some q =>
    match indexAt s q.index with
    | none => idle s
    | some x =>
      let exact := q.exact.isSome
      let mask := if exact then stackMask part else ((partAt x part).map (·.mask)).getD 0
      let g := if exact then 1 else walkWidth q
      let c : Contributor := if exact then .exact part else .walk part
      if q.phase ≠ .registered || !(q.unplaced.contains part) || q.cutDone || !(q.cut.all (notPast s)) then idle s
      else
        match placeOn s mask g core with
        | none => idle s
        | some a =>
          let s := withQuery s tag (fun q => { q with
            unplaced := q.unplaced.erase part
            walks := q.walks ++ [{ part := part, core := core, ctx := a, g := g, descent := !exact && descentFree s core }]
            dies := if (stageOf q c).isSome then q.dies
              else alter q.dies (core / 64) (fun st => { st with expected := st.expected ++ [c] }) })
          .next (sealStages s tag)

/-- WALK_DESCENT: the walk descends the mirror layers to its first fret of layer 0, or ends with an empty list where the
partition has no entry point (R66). It needs a descent slot of its core: the one that it holds since its start, or one that is
free now; it holds none afterwards (R106). -/
def execWalkDescent (tag part : Nat) (s : State) : Result :=
  match queryOf s tag with
  | none => idle s
  | some q =>
    match walkOf q part, (indexAt s q.index).bind (fun x => (partAt x part).map (fun p => (x, p))) with
    | some w, some xp =>
      if w.stage ≠ .placed || q.phase ≠ .registered || q.exact.isSome || q.cutDone || !(q.cut.all (notPast s))
          || !(w.descent || descentFree s w.core) then idle s
      else
        match firstFret xp.1 xp.2 q.opers with
        | none => .next (endWalk s tag part false)
        | some f =>
          let s := withWalk s tag part (fun w => { w with
            stage := .walking, descent := false, frets := [f], visited := visit w.g [] f.slot })
          .next (driveWalk s tag part true)
    | _, _ => idle s

/-- EXPAND_REQUEST: the bridge filter of a stack takes the oldest request, reads the record and answers the walk (R68);
`outcome` says how the read ends (R392, R395). -/
def execExpandRequest (stack : Nat) (outcome : ReadOutcome) (s : State) : Result :=
  let b := bridge s stack
  match b.reqs with
  | [] => idle s
  | r :: rest =>
    let s0 := s
    let s := setBridge s stack { b with reqs := rest }
    match (queryOf s r.tag).bind (fun q => (indexAt s q.index).bind (fun x => (partAt x r.part).map (fun p => (q, x, p)))) with
    | none => .next s
    | some (q, x, p) =>
      let now := outcome != .good
      let bad := now || r.bad || (look p.poisoned r.slot).isSome || b.badTags.contains r.tag
      let a := expand x p q.opers q.epoch q.filter r.slot r.bound bad r.expTag
      let s := if now then recordBad s q.index r.part r.slot (outcome == .badTail) else s
      let s := if a.2 then
          let rec_ := recOf p r.slot
          raise s 0x0106 1 3 stack (index := q.index)
            (args := [slotId r.part r.slot, Config.recordStateArg rec_.state.toNat rec_.nbrCount])
        else s
      let s := withWalk s r.tag r.part (fun w => { w with inbox := w.inbox ++ [{ a.1 with qtab := r.qtab, context := r.context, since := r.since }] })
      .next (retryHeld s0 s)

/-- EXPAND_RESPONSE: the walk engine applies a response (R73). One that the walk sees after its cut time is dropped; in the
same cycle it is applied, and nothing is issued after it (R82). -/
def execExpandResponse (tag part pick lag : Nat) (s : State) : Result :=
  match queryOf s tag with
  | none => idle s
  | some q =>
    match walkOf q part with
    | none => idle s
    | some w =>
      match w.inbox[pick]? with
      | none => idle s
      | some a =>
        let seen := seenTime s lag
        let t := q.cut.getD 0
        let s0 := s
        let s := withWalk s tag part (fun w => { w with inbox := w.inbox.eraseIdx pick })
        let s := if a.verMiss then bump s 0x24 1 else s
        if q.cutDone || decide (t < seen) then .next s
        else
          let s := match applyResponse w.g (effWidth q.params) q.params.slack a w.frets w.visited with
            | none => s
            | some r =>
              let s := if a.poison then markCause s tag setPoison else s
              let s := if seen = t then markCause s tag setWon else s
              withWalk s tag part (fun w => { w with frets := r.1, visited := r.2 })
          .next (retryHeld s0 (driveWalk s tag part (seen < t)))

/-! ### Strums and sweeps (R139-R141) -/

/-- STRUM_CLOSE: STRUM_WINDOW has passed since the first member joined (R139). -/
def execStrumClose (i : Nat) (s : State) : Result :=
  match s.strums.find? (fun t => t.index == i) with
  | none => idle s
  | some t => if t.opened + ctl s 0x50000C ≤ s.time.tick then .next (closeStrum s i) else idle s

/-- SWEEP_START: the order at the head starts once every member is registered; the chain tails are recorded (R140). -/
def execSweepStart (stack : Nat) (s : State) : Result :=
  let b := bridge s stack
  match b.sweep, b.orders with
  | none, o :: rest =>
    let ready := o.members.all (fun m => (queryOf s m.1).all (fun q => q.phase != .waiting && q.phase != .started))
    match indexAt s o.index with
    | none => idle s
    | some x =>
      if !ready then idle s
      else
        let tails := x.parts.zipIdx.filterMap (fun p => if bit p.1.mask stack then some (p.2, (chainOf p.1 stack).next) else none)
        .next (setBridge s stack { b with orders := rest, sweep := some { order := o, tails := tails } })
  | _, _ => idle s

/-- A side-list entry applies to a member (R141): answers its merge entry. An entry whose SLOT_GEN differs from its record's is
stale and is skipped (R27, R46); a record that is poisoned and cannot be rebuilt is never returned (R395). -/
def sweepEntry (x : Index) (q : Query) (pn : Nat) (p : Part) (c : Chain) (tail : Nat) (e : SideEntry) : Option Entry :=
  let open_ := (mergeEpoch c e.pos).all (fun m => decide (q.epoch < m))
  if (recOf p e.slot).gen ≠ e.gen ∨ (look p.poisoned e.slot).any (fun h => !(rebuildable x p e.slot h)) then none
  else if !open_ || decide (tail ≤ e.pos) || !(decide (e.commit ≤ q.epoch ∧ q.epoch < e.delete)) || !(passes q.filter e.filterTag) then
    none
  else
    match q.opers.find? (fun o => o.ver == e.codeVer), verOf x e.codeVer with
    | some o, some v =>
      let k := codeKey x.cfg v o.code e.code
      if k = nanKey then none else some { key := k, aux := slotId pn e.slot, id := e.extId }
    | _, _ => none

/-- The M lowest applied entries of a member on a stack (R141). -/
def sweepList (x : Index) (q : Query) (stack limit : Nat) (tails : List (Nat × Nat)) : MList :=
  let es := (tails.map (fun t =>
    match partAt x t.1 with
    | none => []
    | some p => (chainOf p stack).entries.filterMap (sweepEntry x q t.1 p (chainOf p stack) t.2))).flatten
  { kind := .code, sorted := false, entries := (sortBy (entryLe false) es).take limit }

/-- SWEEP_DONE: the sweep ends and delivers one list for each member that still holds its entry (R141). -/
def execSweepDone (stack : Nat) (s : State) : Result :=
  match (bridge s stack).sweep with
  | none => idle s
  | some w =>
    match indexAt s w.order.index with
    | none => idle s
    | some x =>
      let s := setBridge (bump s 0x38 1) stack { bridge s stack with sweep := none }
      .next (w.order.members.foldl (fun s m =>
        match queryOf s m.1 with
        | none => s
        | some q =>
          if hasEntry s q stack then
            let s := handOff s m.1 (.sweep stack) (sweepList x q stack m.2 w.tails)
            withQuery s m.1 (fun q => { q with swept := stack :: q.swept })
          else s) s)

/-! ### SEARCH_EXACT (R91) -/

/-- An index with RERANK_KERNEL ranks SEARCH_EXACT by the user kernel, as its rerank does: R91 says "full-precision distance", and R93
lists the kernel's distance "in place of the rerank distance" on such an index. DEDUCED, log entry 103.

What a context of SEARCH_EXACT finds among the records of its stack with a record index below `reach`: its entries,
whether bad data was dropped, and the number of NaN distances. -/
def exactEntries (s : State) (x : Index) (pn : Nat) (p : Part) (q : Query) (stack reach : Nat) (bad : List Nat) :
    List Entry × Bool × Nat :=
  let n := max 1 (stacksOf p).length
  let qv := vecOf q.qfmt x.cfg.vecDims (q.qvec.getD [])
  let rs := p.recs.filter (fun r => stackOfSlot p r.1 == stack && isLive r.2 && decide (r.1 / n < reach))
  rs.foldl (fun acc r =>
    let noHeader := (look p.poisoned r.1) == some false || (x.cfg.rrFmt == 0 && ((look p.poisoned r.1).isSome || bad.contains r.1))
    if noHeader then (acc.1, true, acc.2.2)
    else if !(observed r.2 q.epoch) || !(passes q.filter r.2.filterTag) then acc
    else if x.cfg.rrFmt != 0 && (p.rerankBad.contains r.1 || bad.contains r.1) then (acc.1, true, acc.2.2)
    else
      let key := if x.cfg.rrFmt ≠ 0 then keyOf (rerankDist s x.cfg qv (storedVec x.cfg.rrFmt ((look p.rerank r.1).getD [])))
        else
          match q.opers.find? (fun o => o.ver == r.2.codeVer), verOf x r.2.codeVer with
          | some o, some v => codeKey x.cfg v o.code r.2.code
          | _, _ => nanKey
      if key = nanKey then (acc.1, acc.2.1, acc.2.2 + 1)
      else (acc.1 ++ [{ key := key, aux := slotId pn r.1, id := r.2.extId }], acc.2)) ([], false, 0)

/-- A context delivers its best entries. -/
def exactDeliver (s : State) (q : Query) (x : Index) (pn : Nat) (p : Part) (stack reach : Nat) (bad : List Nat) (cut : Bool) :
    State :=
  let r := exactEntries s x pn p q stack reach bad
  let s := if x.cfg.rrFmt ≠ 0 then bump s 0x28 r.2.2 else s
  let l : MList := { kind := .code, cut := cut, poison := r.2.1,
                     entries := (sortBy (entryLe false) r.1).take (mergeLimit q) }
  let s := handOff s q.tag (.exact stack) l
  withWalk s q.tag stack (fun w => { w with stage := .ended })

/-- EXACT_SWEEP_DONE: a context has read every record of its stack; `bad` lists the slots whose record, or rerank vector,
could not be read (R91). -/
def execExactSweepDone (tag stack : Nat) (bad : List Nat) (s : State) : Result :=
  match queryOf s tag with
  | none => idle s
  | some q =>
    match q.exact, walkOf q stack, indexAt s q.index with
    | some pn, some w, some x =>
      match partAt x pn with
      | none => idle s
      | some p =>
        if isEnded w || q.phase ≠ .registered || q.cutDone || !(q.cut.all (notPast s)) then idle s
        else
          let s := bad.foldl (fun s n =>
            if !(isLive (recOf p n)) || stackOfSlot p n != stack then s
            else if x.cfg.rrFmt = 0 then recordBad s q.index pn n true else rerankLost s q.index pn n) s
          .next (exactDeliver s q x pn p stack (totalSlots p) bad false)
    | _, _, _ => idle s

/-! ### Merging (R124-R129) -/

/-- The last-accept time of a stage (R128). -/
def lastAccept (q : Query) (id : StageId) : Nat :=
  q.cut.getD 0 + (match id with
    | .die _ => 2520
    | .hub => 5620
    | .fabric => 11020
    | .out => 11020)

/-- A stage of a query. -/
def stageAt (q : Query) (id : StageId) : Option MergeStage :=
  match id with
  | .die d => look q.dies d
  | .hub => some q.hub
  | .fabric => q.fabric
  | .out => none
def setStageAt (s : State) (tag : Nat) (id : StageId) (st : MergeStage) : State :=
  withQuery s tag (fun q =>
    match id with
    | .die d => { q with dies := alter q.dies d (fun _ => st) }
    | .hub => { q with hub := st }
    | .fabric => { q with fabric := some st }
    | .out => q)

/-- MERGE_LIST_ARRIVAL: list `pick` of those under way reaches its stage: it is merged, or discarded as late, as bad or as
repeated, or it finds no reservation (R128, R129); the list that a cut has made leaves the module (R347). -/
def execMergeListArrival (tag pick lag : Nat) (headerOk : Bool) (s : State) : Result :=
  match queryOf s tag with
  | none =>
    if s.strays.contains tag then .next (badList_ { s with strays := s.strays.erase tag } 0xFF tag 4) else idle s
  | some q =>
    match q.transit[pick]? with
    | none => idle s
    | some t =>
      let s := withQuery s tag (fun q => { q with transit := q.transit.eraseIdx pick })
      match stageAt q t.dest with
      | none =>
        if t.dest ≠ .out then .next s
        else if headerOk then .next (localDone s tag t.list)
        else .next (localDone (badList_ s q.index tag 1) tag { t.list with poison := true, entries := [] })
      | some st =>
        let seen := seenTime s lag
        let la := lastAccept q t.dest
        if !headerOk then
          let s := badList_ s q.index tag 1
          .next (if st.forwarded = .no then setStageAt s tag t.dest { st with acc := { st.acc with poison := true } } else s)
        else if st.forwarded = .lastAccept ∨ la < seen then .next (markLate (bump s 0x2A 1) tag)
        else if st.forwarded = .complete ∨ st.delivered.contains t.src then .next (badList_ s q.index tag 2)
        else
          let r := stageTake st (mergeLimit q) t.src t.list
          let s := setStageAt (bump s 0x29 r.2) tag t.dest r.1
          let s := if seen = la then markCause s tag setWon else s
          .next (checkStage s tag t.dest)

/-- DIE_LAST_ACCEPT: after its last-accept time, in whose cycle a list is still merged, the stage stops waiting, sets CUT and
forwards what it holds (R128). -/
def execDieLastAccept (tag die lag : Nat) (s : State) : Result :=
  match queryOf s tag with
  | none => idle s
  | some q =>
    match look q.dies die with
    | none => idle s
    | some st =>
      if st.forwarded ≠ .no || !q.cutDone || decide (seenTime s lag ≤ lastAccept q (.die die)) then idle s
      else .next (dieForward s tag die .lastAccept)

/-- HUB_LAST_ACCEPT: as the die merge stage (R128). -/
def execHubLastAccept (tag lag : Nat) (s : State) : Result :=
  match queryOf s tag with
  | none => idle s
  | some q =>
    if q.hub.forwarded ≠ .no || q.home.isNone || !q.cutDone || decide (seenTime s lag ≤ lastAccept q .hub) then idle s
    else .next (hubForward s tag .lastAccept)

/-! ### Rerank (R77, R107, R108) -/

/-- Slot identifiers of the merged entries whose rerank vectors came back bad: the vectors are fetched in the order of the list (R392,
R394). -/
def rerankBack (s : State) (x : Index) (q : Query) : List Nat :=
  let stride := rrStride x.cfg
  (q.merged.entries.zipIdx.filter (fun p => (lostRanges s (.rerank q.tag)).any (fun r =>
    decide (r.1 < (p.2 + 1) * stride ∧ p.2 * stride < r.2)))).map (fun p => p.1.aux)

/-- The home core of a query is served. -/
def homeUp (s : State) (q : Query) : Bool := q.home.all (coreUp s)

/-- The end of a rerank: entries whose vector cannot be read, or whose distance is NaN, are dropped; the k best are the result. -/
def rerankEnd (s : State) (x : Index) (q : Query) (bad : List Nat) : State :=
  let back := rerankBack s x q
  let s := endReqs s (.rerank q.tag)
  let qv := vecOf q.qfmt x.cfg.vecDims (q.qvec.getD [])
  let lost (e : Entry) : Bool := bad.contains e.aux || back.contains e.aux ||
    ((partAt x (auxPart e.aux)).map (fun p => p.rerankBad.contains (auxSlot e.aux))).getD false
  let ok := q.merged.entries.filter (fun e => !(lost e))
  let s := (q.merged.entries.filter (fun e => bad.contains e.aux)).foldl
    (fun s e => rerankLost s q.index (auxPart e.aux) (auxSlot e.aux)) s
  let keyed := ok.map (fun e =>
    let v := ((partAt x (auxPart e.aux)).bind (fun p => look p.rerank (auxSlot e.aux))).getD []
    { e with key := keyOf (rerankDist s x.cfg qv (storedVec x.cfg.rrFmt v)) })
  let good := keyed.filter (fun e => e.key != nanKey)
  let s := bump s 0x28 (keyed.length - good.length)
  localDone s q.tag { q.merged with
    kind := .final, poison := q.merged.poison || ok.length != q.merged.entries.length
    entries := (sortBy (entryLe false) good).take q.params.k }

/-- RERANK_DONE: full-precision distances of the merged set; NaN distances and vectors that cannot be read (`bad` lists slot
identifiers that fail now) are dropped; the k best are the result. While requests are left to issue, a part of the vectors arrives
(R321). -/
def execRerankDone (tag : Nat) (bad : List Nat) (s : State) : Result :=
  match queryOf s tag with
  | none => idle s
  | some q =>
    match indexAt s q.index with
    | none => idle s
    | some x =>
      if q.phase ≠ .reranking || q.cutDone || !(q.cut.all (notPast s)) || heldReqs s (.rerank tag) || !(homeUp s q) then idle s
      else if partReqs s (.rerank tag) then .next (retireReqs s (.rerank tag) false)
      else .next (rerankEnd s x q bad)

/-! ### Cut and deadline (R80, R81) -/

/-- Cut the contexts of a SEARCH_EXACT: each delivers the best of a leading run of its stack's records (R91). -/
def cutExact (s : State) (q : Query) (pn : Nat) : State :=
  match indexAt s q.index with
  | none => s
  | some x =>
    match partAt x pn with
    | none => s
    | some p =>
      let f := freshFill s
      (q.walks.filter (fun w => !(isEnded w))).foldl (fun s w =>
        exactDeliver s q x pn p w.part (if q.encoded then Config.exactReach f.2 w.part else 0) [] true) f.1

/-- The list that a cut has made: a host command has its result; the list of a query that another module asked for is on its way out,
so that a CANCEL of the same cycle still discards it (R81, R347). -/
def cutOut (s : State) (q : Query) (l : MList) : State :=
  match q.origin with
  | .host _ _ => if q.phase = .waiting then completeQuery s q l else localDone s q.tag l
  | .child _ _ _ _ => withQuery s q.tag (fun q => { q with
      phase := .finished, cutDone := true, unplaced := [], transit := q.transit ++ [{ dest := .out, src := .local_, list := l }] })

/-- Cut a query at its cut time (R81). -/
def cutQuery (s : State) (q : Query) : State :=
  match q.phase with
  | .waiting => cutOut s q emptyCut
  | .reranking =>
    let s := withQuery (endReqs s (.rerank q.tag)) q.tag (fun q => { q with cutDone := true })
    cutOut s q { q.merged with kind := .code, cut := true, entries := q.merged.entries.take q.params.k }
  | .finished => withQuery s q.tag (fun q => { q with cutDone := true })
  | .done => s
  | _ =>
    let s := withQuery s q.tag (fun q => { q with
      cutDone := true, unplaced := [], cause := if q.unplaced ≠ [] then setCutFlag q.cause else q.cause })
    match q.exact with
    | some pn => cutExact s q pn
    | none => (q.walks.filter (fun w => !(isEnded w))).foldl (fun s w => endWalk s q.tag w.part true) s

/-- SEARCH_CUT: T_c has come (R81). -/
def execSearchCut (tag lag : Nat) (s : State) : Result :=
  match queryOf s tag with
  | none => idle s
  | some q =>
    match q.cut with
    | none => idle s
    | some t => if q.cutDone || decide (seenTime s lag < t) then idle s else .next (retryHeld s (cutQuery s q))

/-- SEARCH_DEADLINE: an unstarted search without a cut reservation completes at D with count 0 (R81). -/
def execSearchDeadline (tag lag : Nat) (s : State) : Result :=
  match queryOf s tag with
  | none => idle s
  | some q =>
    if q.cut.isSome || q.phase ≠ .waiting || decide (seenTime s lag < q.deadline) then idle s
    else .next (completeQuery s q emptyCut)

/-- SEARCH_METER_TOKEN: below level 64 the bucket gains a token as its rate has one due, up to 64 (R418). -/
def execSearchMeterToken (s : State) : Result :=
  if s.power.thr.meter < 64 ∧ s.power.tokens < 64 ∧ 2000 ≤ tokenDue s then .next (gainToken s) else idle s

end Sys2Proof.Machine
end

