-- ==== Sys2Proof/Machine/SearchFabric.lean ====
section
/-!
DEFINITION. Frames of sharded searches and row collectives (R334, R343-R348).
-/
namespace Sys2Proof.Machine

/-- A frame of one type arrives: what stands of it at this module goes to `act`, and its receive class is freed, or owed its credit
(R336-R340). -/
def onFrame (s : State) (i typ : Nat) (rx : RxFrame) (act : State → Frame → Bool → State) : Result :=
  if rx.frame.typ ≠ typ then idle s
  else
    let r := fabReceive s i rx
    match r.2 with
    | none => .next r.1
    | some (f, bad) => .next (act (passIngress r.1 i f) f bad)

/-- The local index that a QUERY frame means: the shard of its group whose parent sent it, with vectors of its length
(R344). -/
def shardOf (s : State) (f : Frame) : Option (Nat × Index) :=
  s.indexes.find? (fun p => shardOn s p.1 && shardGroup s p.1 == f.group && shardParent s p.1 == f.src && p.2.dropping.isNone)

/-- The command of a QUERY payload. -/
def frameWord (f : Frame) : CmdWord := BitVec.ofNat 512 (numAt f.payload 0 64)

/-- The parameters of a QUERY frame, all explicit (R334). -/
def frameParams (w : CmdWord) : Params :=
  { k := sK w, cw := sCand w, hop := sHop w, pf := sPrefetch w, rerank := sRerank w, slack := sSlack w }

/-- A QUERY frame is delivered (R344): one that reaches the module in Q1 or Q2 (R414) and an unmatched one are answered with
POISON (of the KIND that R129's parent takes for the QUERY's RERANK, log entry 120), one whose cut has come with CUT; else the module
searches its own shard at its own epoch, with D′ in the place of D. -/
def queryArrives (lag : Nat) (s : State) (f : Frame) (bad : Bool) : State :=
  let w := frameWord f
  let fmt := sQFmt w
  let fits (x : Index) : Bool := inRange fmt 1 5 && decide (f.payload.length = 64 + x.cfg.vecDims * rrSize fmt)
  let refusal := poisonList (sRerank w)
  if quiescent s then sendList s f.src f.ptag f.group f.origin refusal
  else match (shardOf s f).filter (fun p => fits p.2) with
  | none =>
    sendList (raise s 0x0505 1 (args := [f.group, f.src])) f.src f.ptag f.group f.origin refusal
  | some p =>
    let t := seenTime s lag
    let d := f.cutTime - 6000
    if d ≤ t then sendList s f.src f.ptag f.group f.origin emptyCut
    else
      let q : Query := { tag := childTag s, origin := .child f.src f.ptag f.group f.origin, index := p.1, epoch := p.2.current,
                         admitted := t, deadline := d, origD := sDeadline w, params := frameParams w, qfmt := fmt,
                         qvec := some (f.payload.drop 64), cause := { poison := bad },
                         filter := { op := sFilterOp w, mask := sFilterMask w, value := sFilterValue w } }
      enterQuery { s with childNext := s.childNext + 1 } q

/-- QUERY: a QUERY frame arrives (R344). -/
def execQuery (i : Nat) (rx : RxFrame) (lag : Nat) (s : State) : Result := onFrame s i 1 rx (queryArrives lag)

/-- The fabric merge node takes a list of this kind (R129). -/
def kindFits (s : State) (q : Query) (l : MList) : Bool :=
  if ((indexAt s q.index).map (·.cfg.rrFmt)).getD 0 = 0 then l.kind == .code
  else l.kind == .final || (l.kind == .code && l.cut)

/-- A LIST frame is delivered to the fabric merge node (R129, R345). One that the node no longer waits for since its last-accept time is
late, whether or not its query has left. -/
def listArrives (lag : Nat) (s : State) (f : Frame) (bad : Bool) : State :=
  let gone (s : State) : State := { s with fabric := { s.fabric with missed := s.fabric.missed.erase (f.ptag, f.src) } }
  match queryOf s f.ptag with
  | none => if s.fabric.missed.contains (f.ptag, f.src) then gone (bump s 0x2A 1) else badList_ s 0xFF f.ptag 4
  | some q =>
    match q.fabric with
    | none => badList_ s q.index f.ptag 4
    | some st =>
      let l := listDecode f.payload listMax
      let c : Contributor := .child f.src
      let seen := seenTime s lag
      let la := lastAccept q .fabric
      let poison (s : State) : State := markCause s q.tag setPoison
      if !(st.expected.contains c) then badList_ s q.index f.ptag 4
      else if bad then poison (badList_ s q.index f.ptag 1)
      else if la < seen then markLate (gone (bump s 0x2A 1)) q.tag
      else if st.delivered.contains c then badList_ s q.index f.ptag 2
      else if !(kindFits s q l) then poison (badList_ s q.index f.ptag 3)
      else
        let r := stageTake st q.params.k c l
        let s := bump s 0x29 r.2
        let won := seen == la
        let q := { q with fabric := some r.1, cause := if won then setWon q.cause else q.cause }
        let s := withQuery s q.tag (fun _ => q)
        if stageFull r.1 then completeQuery s q r.1.acc else s

/-- LIST: a LIST frame arrives (R345). -/
def execList (i : Nat) (rx : RxFrame) (lag : Nat) (s : State) : Result := onFrame s i 2 rx (listArrives lag)

/-- FABRIC_LAST_ACCEPT: T_c + 11.02 µs: children that have not delivered count as lost, and what is held is merged (R345). -/
def execFabricLastAccept (tag lag : Nat) (s : State) : Result :=
  match queryOf s tag with
  | none => idle s
  | some q =>
    match q.fabric with
    | none => idle s
    | some st =>
      if q.phase = .done || !q.cutDone || decide (seenTime s lag ≤ lastAccept q .fabric) then idle s
      else
        let missing := st.expected.filter (fun c => c != .local_ && !(st.delivered.contains c))
        let s := bump s 0x76 missing.length
        let s := { s with fabric := { s.fabric with missed := s.fabric.missed.filter (fun m => m.1 != tag) ++ missing.filterMap (fun c =>
          match c with
          | .child m => some (tag, m)
          | _ => none) } }
        .next (completeQuery s q { st.acc with
          poison := st.acc.poison || decide (0 < missing.length), cut := st.acc.cut || !(st.delivered.contains .local_) })

/-! ### Row collectives and CANCEL (R347, R348) -/

/-- A collective child of a loaded tablature. -/
def collFits (s : State) (tab group child : Nat) : Bool :=
  collOn s tab && collGroup s tab == group && (collChildren s tab).contains child

/-- A ROW_LIST frame is held until its row is reached: in the ingress buffer, or in its receive class while the buffer is full
(R340, R348). -/
def rowArrives (s : State) (i : Nat) (f : Frame) (bad : Bool) : State :=
  if !(s.dense.tabs.any (fun t => collFits s t.1 f.group f.src)) then
    badList_ (passIngress s i f) 0xFF f.ptag 4
  else
    let full := ingressFull s i (flitsOf f)
    let s := if full then s else freeFlits s i (classOf f) (flitsOf f)
    let h : Held := { owed := full, port := i, cls := classOf f, poison := bad, frame := f }
    let s := { s with fabric := { s.fabric with ingress := s.fabric.ingress ++ [h] } }
    (s.dense.runs.filter (fun r => r.ending.isNone && collFits s r.tab f.group f.src)).foldl
      (fun s r => combineRowSel s r.slot r.seq f.ptag 0 2) s

/-- ROW_LIST: a ROW_LIST frame arrives (R348). -/
def execRowList (i : Nat) (rx : RxFrame) (s : State) : Result :=
  if rx.frame.typ ≠ 3 then idle s
  else
    let r := fabReceive s i rx
    match r.2 with
    | none => .next r.1
    | some (f, bad) => .next (rowArrives r.1 i f bad)

/-- A query is abandoned: its own children are told, and no list or completion follows (R222, R347). -/
def abandonQuery (s : State) (q : Query) : State := releaseQuery (cancelChildren s q) q

/-- A CANCEL frame is delivered: to the query that its sender asked for, or to a run whose collective child it is. -/
def cancelArrives (s : State) (f : Frame) (_ : Bool) : State :=
  let mine (q : Query) : Bool := match q.origin with
    | .host _ _ => false
    | .child p t g _ => p == f.src && t == f.ptag && g == f.group
  match s.queries.find? mine with
  | some q => retryHeld s (abandonQuery s q)
  | none =>
    match s.dense.runs.find? (fun r => r.ending.isNone && collFits s r.tab f.group f.src) with
    | some r => abortRun s r.slot r.seq 6 .aborted
    | none => badList_ s 0xFF f.ptag 4

/-- CANCEL: a CANCEL frame arrives (R347, R348). -/
def execCancel (i : Nat) (rx : RxFrame) (s : State) : Result := onFrame s i 4 rx cancelArrives

/-- BAD_FRAME: a frame of a reserved TYPE, or with a LEN above 16,448, is discarded, counted and logged (R334). -/
def execBadFrame (i : Nat) (rx : RxFrame) (s : State) : Result :=
  if badFrameForm rx.frame then .next (fabReceive s i rx).1 else idle s

end Sys2Proof.Machine
end

