-- ==== Sys2Proof/Machine/HostOps.lean ====
section
/-!
DEFINITION. Shared operations of the host side: failed accesses, power-state entry given up, and the abort
of a channel (R196, R220-R227).
-/
namespace Sys2Proof.Machine

/-! ### Power-state entry given up (R225) -/

/-- The luthier leaves QUIET (R154). -/
def leaveQuiet (s : State) : State :=
  let s := fixPasses s
  { s with indexes := s.indexes.map (fun x =>
      if x.2.luthier = .quiet then (x.1, { x.2 with luthier := afterQuiet s x.2 }) else x) }

/-- Entry is abandoned: fetching resumes, and in A0 and A1 the luthier leaves QUIET. -/
def dropEntry (s : State) : State :=
  let s := { s with power := { s.power with entry := none } }
  if running s then leaveQuiet s else s

/-- A doorbell seen in the cycle of the commit point wins: the commit point is abandoned, and the entry goes on as before it
(R225). -/
def doorbellWins (s : State) : State :=
  match s.power.entry with
  | none => s
  | some e =>
    if e.committed && e.commitAt == s.time.tick then
      leaveQuiet { s with power := { s.power with entry := some { e with committed := false } } }
    else s

/-- A doorbell write arrives. -/
def ringDoorbell (s : State) (p : Port) (slot value : Nat) (sub : Bool) : State :=
  let t := doorbell s p slot value sub
  if seesDoorbell s p slot value sub then doorbellWins t else t

/-! ### The abort point (R222, R223) -/

/-- Give a command's slot another number. -/
def reslot (a b : Nat) (r : Nat × Nat) : Nat × Nat := if r.1 = a then (b, r.2) else r

/-- Give the slot of the commands that indexes and aborts will answer another number; 4096 names none. -/
def reslotWaiters (s : State) (a b : Nat) : State :=
  { s with
    indexes := s.indexes.map (fun x => (x.1, { x.2 with
      dropping := x.2.dropping.map (reslot a b),
      retune := { x.2.retune with start := x.2.retune.start.map (reslot a b), waiters := x.2.retune.waiters.map (reslot a b) } })),
    chans := s.chans.map (fun c => (c.1, { c.2 with abort := c.2.abort.map (fun x => { x with by_ := x.by_.map (reslot a b) }) })) }

/-- The commands of a channel are answered by nobody from now on. -/
def orphanIndexes (s : State) (slot : Nat) : State := reslotWaiters s slot 4096

/-- The write of a command was accepted (R134), whether it then succeeded or failed. -/
def wasAccepted (o : OutCmd) : Bool := laneOf (cOpcode o.word) == .write && o.accepted

/-- Journal entries of the channel report to nobody from now on. -/
def keepEntries (s : State) (slot : Nat) : State :=
  let g := (chan s slot).gen
  let mark (s : State) (i : Nat) : State :=
    retire (withEntries s i (fun e => e.slot == slot && e.gen == g) (fun e => { e with kept := true, reported := true })) i
  mark (mark s 0) 1

/-- The SET_POWER_STATE of a channel is discarded: up to its commit point its entry is abandoned, as it is in the cycle of
that point (R225, R439); past it the entry goes on without the command. -/
def loseEntry (s : State) (slot : Nat) : State :=
  match s.power.entry with
  | none => s
  | some e =>
    if e.slot ≠ slot then s
    else if e.committed && e.commitAt != s.time.tick then { s with power := { s.power with entry := some { e with slot := 4096 } } }
    else dropEntry s

/-- The abort point of a channel. `by_` names the command that asks, if one does. -/
def abortPoint (s : State) (slot : Nat) (by_ : List (Nat × Nat)) (destroy : Bool) : State :=
  let kept := ((chan s slot).cmds.filter wasAccepted).map (·.seq)
  let s := (s.dense.runs.filter (fun r => r.slot == slot && r.ending.isNone)).foldl
    (fun s r => abortRun s r.slot r.seq 2 .aborted false) s
  let s := (chan s slot).cmds.foldl (fun s o => detachRun s slot o.seq) s
  let mine (q : Query) : Bool := match q.origin with
    | .host n _ => n == slot
    | .child _ _ _ _ => false
  let s := retryHeld s ((s.queries.filter mine).foldl abandonQuery s)
  let s := keepEntries (orphanIndexes s slot) slot
  let s := withdraw s (fun r => r.slot == slot)
  let s := loseEntry s slot
  let s := { s with power := { s.power with returning := s.power.returning.map (fun r => r.filter (fun c => c.1 != slot)) } }
  let c := chan s slot
  setChan s slot { c with
    state := if destroy then .destroying else .aborting, cmds := [], dones := [], reports := [], lost := false,
    coalPend := 0, coalSince := none, tail := c.head,
    abort := some { by_ := by_, destroy := destroy, kept := kept } }

/-- ABORT_CHANNEL or DESTROY_CHANNEL of a target that is not aborting yet, or is (R220). -/
def abortChan (s : State) (slot : Nat) (by_ : List (Nat × Nat)) (destroy : Bool) : State :=
  let c := chan s slot
  match c.state, c.abort with
  | .aborting, some a =>
    setChan s slot { c with state := if destroy then .destroying else .aborting,
                            abort := some { a with by_ := a.by_ ++ by_, destroy := a.destroy || destroy } }
  | .active, _ => abortPoint s slot by_ destroy
  | .error, _ => abortPoint s slot by_ destroy
  | _, _ => s

/-- A reset queue: head, tail and SEQ 0, phase 1 (R220, R224). -/
def resetQueues (c : Channel) : Channel :=
  { c with head := 0, tail := 0, cqTail := 0, cqHead := 0, phase := true, seq := 0, cmds := [], dones := [], reports := [],
           lost := false, errCause := 0, coalPend := 0, coalSince := none, abort := none }

/-! ### Channel errors and failed accesses (R226-R229) -/

/-- A fault on a queue access (R227); while the admin channel is being enabled it stays off (R196). -/
def chanError (s : State) (slot cause : Nat) : State :=
  let c := chan s slot
  let p := portOf s slot
  let h := port s p
  if isAdmin s slot ∧ c.state = .free then
    if h.enReq then setPort s p { h with error := true, enReq := false } else s
  else if c.state ≠ .active then s
  else
    let s := raise (setChan s slot { c with state := .error, errCause := cause }) 0x0204 2 (handle := handleOf s slot) (args := [cause])
    if isAdmin s slot then setPort s p { port s p with error := true } else s

/-- The buffer kind that an access reads, and the access of a buffer kind. -/
def kindOfAcc (a : Access) : Option BufKind :=
  match a with
  | .payload => some .payload
  | .query => some .query
  | .partTable => some .partTable
  | .codeset => some .codeset
  | .image => some .image
  | .template => some .template
  | .args => some .args
  | .inDir => some .inDir
  | .outDir => some .outDir
  | _ => none
def accOfKind (k : BufKind) : Access :=
  match k with
  | .payload => .payload
  | .query => .query
  | .partTable => .partTable
  | .codeset => .codeset
  | .image => .image
  | .template => .template
  | .args => .args
  | .inDir => .inDir
  | .outDir => .outDir

/-- A command that waits in its second stage. -/
def isWaitingCmd (o : OutCmd) : Bool :=
  match o.stage with
  | .waiting => true
  | _ => false

/-- Record what a read of a command's buffer brought. -/
def noteBuf (s : State) (slot seq : Nat) (k : BufKind) (d : Option (List Byte)) : State :=
  withCmd s slot seq (fun o => { o with bufs := o.bufs ++ [(k, d)] })

/-! ### CHAN_SPLIT moves port B's admin channel (R198, R231) -/

/-- The tag of a query whose command moves to another slot. -/
def retag (a b tag : Nat) : Nat := if tag < 2 ^ 31 ∧ tag / 65536 = a then b * 65536 + tag % 65536 else tag

/-- Searches of a slot that gets another number. -/
def moveQueries (s : State) (a b : Nat) : State :=
  let order (o : SweepOrder) : SweepOrder := { o with members := o.members.map (fun m => (retag a b m.1, m.2)) }
  { s with
    queries := s.queries.map (fun q => { q with
      tag := retag a b q.tag,
      origin := match q.origin with
        | .host n seq => .host (reslot a b (n, seq)).1 seq
        | o => o }),
    bridges := s.bridges.map (fun x => (x.1, { x.2 with
      reqs := x.2.reqs.map (fun r => { r with tag := retag a b r.tag }),
      lost := x.2.lost.map (fun r => { r with tag := retag a b r.tag }), orders := x.2.orders.map order,
      sweep := x.2.sweep.map (fun w => { w with order := order w.order }), badTags := x.2.badTags.map (retag a b) })),
    strums := s.strums.map (fun u => { u with members := u.members.map (retag a b) }),
    strays := s.strays.map (retag a b),
    dense := { s.dense with reqs := s.dense.reqs.map (fun r => { r with owner := match r.owner with
      | .vector t => .vector (retag a b t)
      | .rerank t => .rerank (retag a b t)
      | o => o }) } }

/-- The channel of slot `a` becomes that of slot `b` with all that it has outstanding. A slot keeps its own generations. -/
def moveSlot (s : State) (a b : Nat) : State :=
  let ca := chan s a
  let cb := chan s b
  let slot (n : Nat) : Nat := (reslot a b (n, 0)).1
  let ring (r : Ring) : Ring := { r with entries := r.entries.map (fun e =>
    if e.slot = a ∧ e.gen = ca.gen then { e with slot := b, gen := cb.gen } else e) }
  let s := moveQueries (reslotWaiters s a b) a b
  let s := { s with
    ring0 := ring s.ring0, ring1 := ring s.ring1,
    rlocks := s.rlocks.map (fun l => if l.slot = a ∧ l.gen = ca.gen then { l with slot := b, gen := cb.gen } else l),
    pageReqs := s.pageReqs.map (fun r => { r with slot := slot r.slot }),
    dense := { s.dense with waiting := s.dense.waiting.map (reslot a b), runs := s.dense.runs.map (fun r => { r with slot := slot r.slot }) },
    power := { s.power with
      entry := s.power.entry.map (fun e => { e with slot := slot e.slot }),
      returning := s.power.returning.map (fun r => r.map (reslot a b)) } }
  setChan (setChan s b { chan s a with gen := cb.gen }) a { gen := ca.gen }

/-- A write of CHAN_SPLIT: port B's admin channel is the slot of that number (R198). -/
def splitChannels (s : State) (v : Nat) : State :=
  let a := adminSlot s .b
  let s := if a = v ∨ (chan s a).state = .free then s else moveSlot s a v
  setCtl s 0x400002 0 v

end Sys2Proof.Machine
end

