-- ==== Sys2Proof/Machine/Channels.lean ====
section
/-!
DEFINITION. Commands of the channels: doorbells, the admin channel, creation, abort, fetching, barriers, completions and
interrupts (R194-R202, R209, R212-R224), and GET_LOG (R404).
-/
namespace Sys2Proof.Machine

/-! ### Doorbells and the admin channel (R196, R200) -/

/-- SQ_DOORBELL. -/
def execSqDoorbell (p : Port) (slot value : Nat) (s : State) : Result :=
  if (port s p).linkUp then .next (ringDoorbell s p slot value true) else idle s

/-- CQ_DOORBELL. -/
def execCqDoorbell (p : Port) (slot value : Nat) (s : State) : Result :=
  if (port s p).linkUp then .next (ringDoorbell s p slot value false) else idle s

/-- The admin channel of a port is ACTIVE or in ERROR. -/
def adminLive (s : State) (p : Port) : Bool :=
  let c := (chan s (adminSlot s p)).state
  c == .active || c == .error

/-- A write of ADMIN_CTRL: 1 asks for the channel, 0 takes the request back or aborts the channel. -/
def adminCtrl (s : State) (p : Port) (value : Nat) : State :=
  let on := bit value 0
  let h := port s p
  if on then setPort s p { h with enable := true, enReq := !(adminLive s p) }
  else
    let s := setPort s p { h with enable := false, enReq := false }
    if adminLive s p then abortPoint s (adminSlot s p) [] false else s

/-- ADMIN_CTRL_WRITE (R196). -/
def execAdminCtrlWrite (p : Port) (value : Nat) (s : State) : Result :=
  if (port s p).linkUp then .next (adminCtrl s p value) else idle s

/-- ADMIN_SIZES holds the entries of the two admin queues, less one. -/
def adminSq (h : HostPort) : Nat := bits h.adminSizes 15 0
def adminCq (h : HostPort) : Nat := bits h.adminSizes 31 16

/-- The fields that ENABLE checks are in range. -/
def adminFieldsOk (h : HostPort) : Bool :=
  decide (1 ≤ adminSq h ∧ adminSq h ≤ 4095 ∧ 1 ≤ adminCq h ∧ adminCq h ≤ 4095) && aligned h.adminSq 4096 && aligned h.adminCq 4096

/-- ADMIN_CHANNEL_ENABLE: a held ENABLE takes effect once READY is 1 (R196). -/
def execAdminChannelEnable (p : Port) (s : State) : Result :=
  let h := port s p
  let slot := adminSlot s p
  if !h.enReq || !h.ready || (chan s slot).state != .free || (p == .b && !(twoPorts s)) then idle s
  else if !(adminFieldsOk h) then .next (setPort s p { h with error := true, enReq := false })
  else
    let cfg : ChanCfg := { sqAddr := h.adminSq, cqAddr := h.adminCq, sqN := adminSq h + 1, cqN := adminCq h + 1 }
    let c := chan s slot
    let s := setChan s slot { resetQueues c with state := .active, cfg := cfg, coalTime := 0, coalCount := 1 }
    .next (setPort s p { h with error := false, enReq := false, enabled := true })

/-! ### Creation, destruction and abort (R199, R209, R220-R224) -/

/-- The set-up that CREATE_CHANNEL describes. -/
def createCfg (w : CmdWord) : ChanCfg :=
  { tenant := fld w 135 128, pasid := if bit w.toNat 116 then some (fld w 115 96) else none,
    pasidField := fld w 115 96, sqAddr := fld w 255 192,
    cqAddr := fld w 319 256, sqN := fld w 63 48 + 1, cqN := fld w 79 64 + 1, outMax := fld w 175 160, weight := fld w 151 144,
    msix := fld w 91 80 }

/-- Check 2 of R209. -/
def createFieldsOk (s : State) (p : Port) (w : CmdWord) : Bool :=
  let c := createCfg w
  decide (2 ≤ c.sqN ∧ 2 ≤ c.cqN ∧ 1 ≤ c.outMax ∧ c.outMax ≤ 32768) && c.weight != 0 && decide (c.msix ≤ 2047)
    && aligned c.sqAddr 4096 && aligned c.cqAddr 4096 && (c.pasid.isNone || (port s p).pasidOn)

/-- CREATE_CHANNEL: the lowest free slot of the issuing port (R209). -/
def execCreateChannel (slot seq : Nat) (s : State) : Result :=
  match admitting s slot seq 0x80 with
  | none => idle s
  | some o =>
    let p := portOf s slot
    if !(reservedOk o.word) || !(createFieldsOk s p o.word) then .next (finishWith s slot seq .invalid)
    else
      match (portSlots s p).find? (fun n => (chan s n).state == .free) with
      | none => .next (finishWith s slot seq .capacity)
      | some n =>
        let c := chan s n
        let gen := if c.gen = 0 then 1 else c.gen
        let s := setChan s n { resetQueues c with
          gen := gen, state := .active, cfg := createCfg o.word, coalTime := 0, coalCount := 1 }
        .next (finish s slot seq { status := .ok, result := put 20 gen + n })

/-- Admission of ABORT_CHANNEL and DESTROY_CHANNEL: the abort point of the target (R222); an admin channel cannot be named
(R221). -/
def admitAbort (slot seq op : Nat) (s : State) : Result :=
  match admitting s slot seq op with
  | none => idle s
  | some o =>
    match handleSlot s (portOf s slot) (aTarget o.word) with
    | none => .next (finishWith s slot seq .invalid)
    | some n =>
      if !(reservedOk o.word) || isAdmin s n then .next (finishWith s slot seq .invalid)
      else .next (abortChan (setStage s slot seq .running) n [(slot, seq)] (op == 0x81))

/-- DESTROY_CHANNEL. -/
def execDestroyChannel (slot seq : Nat) (s : State) : Result := admitAbort slot seq 0x81 s

/-- ABORT_CHANNEL. -/
def execAbortChannel (slot seq : Nat) (s : State) : Result := admitAbort slot seq 0x82 s

/-- The RESULT of ABORT_CHANNEL (R224). -/
def keptResult (kept : List Nat) : Nat :=
  match kept.getLast? with
  | none => 0
  | some q => put 32 1 + put 16 q + kept.length

/-- ABORT_COMPLETE: the queues are reset, and each command that asked completes (R220, R224). -/
def execAbortComplete (slot : Nat) (s : State) : Result :=
  let c := chan s slot
  match c.abort with
  | none => idle s
  | some a =>
    let answer (s : State) (r : Nat × Nat) : State :=
      match outCmd s r.1 r.2 with
      | some o => finish s r.1 r.2 { status := .ok, result := if cOpcode o.word = 0x82 then keptResult a.kept else 0 }
      | none => s
    if isAdmin s slot then
      let p := portOf s slot
      let s := setChan s slot { resetQueues c with state := .free, cfg := {} }
      .next (setPort s p { port s p with enabled := false })
    else
      let s := setChan s slot (if a.destroy then { resetQueues c with state := .destroying, gen := nextGen c.gen }
                               else { resetQueues c with state := .active })
      .next (a.by_.foldl answer s)

/-- CHANNEL_FREED: a DESTROYING slot is FREE once no die-program abort of its commands is left (R221). -/
def execChannelFreed (slot : Nat) (s : State) : Result :=
  let c := chan s slot
  if c.state != .destroying || c.abort.isSome || s.dense.runs.any (fun r => r.slot == slot) then idle s
  else .next (setChan s slot { c with state := .free, cfg := {}, coalTime := 0, coalCount := 1 })

/-! ### Fetching and barriers (R201, R213, R214) -/

/-- COMMAND_FETCH_DONE: a read of up to 32 commands returns (R201). -/
def execCommandFetchDone (slot : Nat) (words : List CmdWord) (s : State) : Result :=
  let c := chan s slot
  if c.state != .active || !(fetchAllowed s slot) || (paging s slot 0 .sq).isSome then idle s
  else .next (refuseDue (setChan s slot (takeWords s.time.tick c (words.take (fetchCount c words.length)))) slot)

/-- Every write that the channel has accepted is published or has failed (R214). -/
def writesSettled (s : State) (slot : Nat) : Bool :=
  let g := (chan s slot).gen
  (s.ring0.entries ++ s.ring1.entries).all (fun e => !(e.slot == slot && e.gen == g && (e.state == 1 || e.state == 2)))

/-- BARRIER: admitted once every earlier command has completed; with VISIBLE it waits for the channel's accepted writes. -/
def execBarrier (slot seq : Nat) (s : State) : Result :=
  let waiting := (outCmd s slot seq).filter (fun o => cOpcode o.word == 0x40 && isRunning o)
  match (admitting s slot seq 0x40).orElse (fun _ => waiting) with
  | none => idle s
  | some o =>
    if !(reservedOk o.word) then .next (finishWith s slot seq .invalid)
    else if cVisible o.word && !(writesSettled s slot) then .next (setStage s slot seq .running)
    else .next (finishWith s slot seq .ok)

/-! ### Entries of the log (R402, R404) -/

/-- The 64-byte form of an event. -/
def eventBytes (e : Event) : List Byte :=
  leBytes 64 (put 0 (e.seq % 2 ^ 64) + put 64 (e.time % 2 ^ 64) + put 128 (e.code % 65536) + put 144 (e.severity % 256)
    + put 152 (e.kind % 256) + put 160 (e.source % 65536) + put 192 (e.handle % 2 ^ 32) + put 224 (e.index % 256)
    + put 256 (nth e.args 0 0 % 2 ^ 64) + put 320 (nth e.args 1 0 % 2 ^ 64) + put 384 (nth e.args 2 0 % 2 ^ 64)
    + put 448 (nth e.args 3 0 % 2 ^ 64))

/-- Events held, oldest first. -/
def heldEvents (l : Log) : List Event := sortBy (fun a b => decide (a.seq ≤ b.seq)) (l.ring.reverse ++ l.early.reverse)

/-- H: `unread` of the newest events are not yet readable, as far as they were raised within 5 µs (R404, R410). -/
def readableEnd (s : State) (unread : Nat) : Nat :=
  let fresh := ((heldEvents s.log).filter (fun e => decide (s.time.base ≤ e.time + 5000))).length
  s.log.next - min unread fresh

/-- What GET_LOG returns of the entries now held, from FROM to H. -/
def logResult (s : State) (w : CmdWord) (h : Nat) : Compl :=
  let es := (heldEvents s.log).filter (fun e => decide (gFrom w ≤ e.seq ∧ e.seq < h))
  let out := es.take (gMax w)
  let next := if es.length < gMax w then h else ((out.getLast?.map (fun e => e.seq + 1)).getD h)
  { status := .ok, count := out.length, result := next, writes := placed (fld w 255 192) (out.map eventBytes) }

/-- What a command reports when its completion is written: a GET_LOG leaves out the entries that were overwritten while it ran. -/
def lastResult (s : State) (o : OutCmd) (c : Compl) : Compl :=
  if cOpcode o.word = 0x87 ∧ c.status = .ok then logResult s o.word o.upTo else c

/-! ### Completions (R202, R214, R216-R219, R229) -/

/-- The commands whose results go to the search result buffer, and those that write a buffer of their own. -/
def isSearchOp (op : Nat) : Bool := op == 0x01 || op == 0x02 || op == 0x21
def isBufferOp (op : Nat) : Bool := op == 0x03 || op == 0x87

/-- A finished command may be completed: a FETCH or GET_LOG with a buffer to write waits for its translation. -/
def mayComplete (o : OutCmd) : Bool :=
  match o.stage with
  | .done c => !(isBufferOp (cOpcode o.word)) || c.writes.isEmpty || o.xlat == .present || o.xlat == .failed
  | _ => false

/-- The next command to complete, in the order in which the channel's commands finished. -/
def nextDone (c : Channel) : Option OutCmd :=
  c.dones.findSome? (fun q => c.cmds.find? (fun o => o.seq == q && mayComplete o))

/-- Entry to Q1 or Q2 was reached in this ACLK cycle, in which a falling PWR_EN still comes before it: its command has not completed
yet (R439; log entry 136). -/
def justReached (s : State) (o : OutCmd) : Bool := cOpcode o.word == 0x86 && s.power.reachedAt == some s.time.tick

/-- What the command reports once its buffer's translation is known: a search writes no identifiers where it is not present; a
FETCH or GET_LOG has written the entries before the faulting one (R228, R229, R404). -/
def settled (o : OutCmd) (c : Compl) : Compl :=
  let op := cOpcode o.word
  if c.writes.isEmpty || o.xlat == .present then c
  else if isSearchOp op then { c with status := .pageFault, count := 0, writes := [] }
  else if isBufferOp op then
    let out := c.writes.take o.sent
    let next := numAt (((c.writes.drop o.sent).head?.map Prod.snd).getD []) 0 8
    let count := if op = 0x87 then out.length else (out.filter (fun w => numAt w.2 0 1 != 0)).length
    { c with status := .pageFault, count := count, writes := out, result := if op = 0x87 then next else c.result }
  else c

/-- The oldest standing report leaves with an entry: its journal entry may retire (R54, R218). -/
def takeReport (s : State) (slot : Nat) : State :=
  let c := chan s slot
  match c.reports with
  | [] => setChan s slot { c with lost := false }
  | r :: rest =>
    let s := bump (setChan s slot { c with reports := rest, lost := false }) 0x44 1
    let mine (e : JEntry) : Bool := e.slot == slot && e.gen == c.gen && e.seq == r.1 && e.state == 0xF && !e.reported
    let mark (s : State) (i : Nat) : State := retire (withEntries s i mine (fun e => { e with reported := true })) i
    mark (mark s 0) 1

/-- COMPLETION_WRITE: the results, then the completion entry of the next finished command; before a VISIBLE BARRIER's own
entry, report-only entries until one report is left (R202, R214). DONE_TIME is stamped in NCLK (R22); what a finished search
held is released (R80, R126). -/
def execCompletionWrite (slot seq lag : Nat) (s : State) : Result :=
  let c := chan s slot
  let live := c.state == .active || (c.state == .error && c.errCause != 2 && c.errCause != 4)
  match nextDone c with
  | none => idle s
  | some o =>
    match o.stage with
    | .done k =>
      if o.seq ≠ seq ∨ !live ∨ !(cqRoom c) ∨ justReached s o ∨ s.log.isFatal ∨ (paging s slot 0 .cq).isSome then idle s
      else if cOpcode o.word = 0x40 ∧ cVisible o.word ∧ k.status = .ok ∧ 2 ≤ c.reports.length then
        let e : EntryIn := { compl := { status := .deferredReport }, status := .deferredReport, seq := seq, tag := cTag o.word,
                             sqHead := c.head, phase := c.phase, doneTime := seenTime s lag, report := c.reports.head?,
                             lost := c.lost, reportOnly := true }
        .next (putEntry (takeReport s slot) slot e)
      else
        let k := settled o (lastResult s o k)
        let st := if k.status = .ok ∧ c.reports ≠ [] then .deferredReport else k.status
        let s := k.writes.foldl (fun s w => hostWrite s slot w.1 w.2) s
        let e : EntryIn := { compl := k, status := st, seq := seq, tag := cTag o.word, sqHead := c.head, phase := c.phase,
                             doneTime := seenTime s lag, report := c.reports.head?, lost := c.lost }
        let s := refuseDue (countEntry (dropCmd (putEntry (takeReport s slot) slot e) slot seq) o st) slot
        .next (if isSearchOp (cOpcode o.word) then retryHeld s (releaseDone s slot seq) else s)
    | _ => idle s

/-- INT_COALESCE_EXPIRY: the INT_COALESCE_TIME that held at the last entry has passed since the first entry without a message (R202). -/
def execIntCoalesceExpiry (slot : Nat) (s : State) : Result :=
  let c := chan s slot
  match c.coalSince with
  | none => idle s
  | some t =>
    if c.coalPend = 0 ∨ s.time.tick < t + c.coalWait then idle s
    else .next (sendMsi (setChan s slot { c with coalPend := 0, coalSince := none }) (portOf s slot) c.cfg.msix)

/-! ### GET_LOG (R404) -/

/-- GET_LOG: entries from FROM up; its buffer is translated, and the entries leave with the completion. -/
def execGetLog (slot seq unread : Nat) (s : State) : Result :=
  match admitting s slot seq 0x87 with
  | none => idle s
  | some o =>
    let w := o.word
    let addr := fld w 255 192
    if !(reservedOk w) || !(aligned addr 64) || gMax w == 0 then .next (finishWith s slot seq .invalid)
    else
      let h := readableEnd s unread
      let t := withCmd s slot seq (fun o => { o with xlat := if (port s (portOf s slot)).atsOn then .asked else .present, upTo := h })
      .next (finish t slot seq (logResult s w h))

end Sys2Proof.Machine
end

