-- ==== Sys2Proof/Machine/Sequencer.lean ====
section
/-!
DEFINITION. The die sequencer's operations: issuing a line, starting and completing macro-operations, barriers and the
replay of a pass (R235-R240, R254, R255, R288-R294).
-/
namespace Sys2Proof.Machine

/-- Issue one stream slot of queue `k` (R241, R294, R295). A FLUSH of an UPDATE stream writes the free slot: that of the update under
way, or of the next one where none is. -/
def issueStream (s : State) (die k x : Nat) : State :=
  if stOp x = 0 then s
  else
    let t := tabOfDie s die
    let q := dieSeq s die
    let n := stStream x
    let e := nth t.streams n {}
    let order := q.order
    let st := streamSt q n
    let z := stashOf t die e.stash
    let reg := tagReg (stashEntry t e.stash) q.cnt
    let moves := e.endpoint = 4 ∧ (stOp x = 1 ∨ stOp x = 2)
    let copy := decide moves && e.role == 3 && z.skip
    let ver := if e.role = 2 then (nth z.tags reg none).getD z.v
               else if e.role = 3 then (if moves ∨ z.v ≤ z.delivered then z.v + 1 else z.v) else z.v
    let s := withStream s die n (fun _ =>
      if stOp x = 4 then { st with cuts := st.cuts ++ [((look st.claims 64).getD 0, order, ver)] }
      else if moves ∧ e.role = 2 ∧ (nth z.tags reg none).isSome then { st with bwd := st.bwd ++ [(order, reg, stCount x)] }
      else st)
    let s := if moves then withStash s die e.stash (stashIssue e.role reg) else s
    let s := if copy then raise (bump s 0x57 1) 0x0403 1 2 die (args := [e.stash, ver]) else s
    withDie s die (fun q => { q with
      order := order + 1,
      queues := q.queues.modify k (fun l => l ++ [(2 * order + (if copy then 1 else 0), x + ver <<< 96)]) })

/-- The next byte that a transfer of a reader takes of a stream; the claim moves on (R314). -/
def claimBytes (s : State) (die n reader k : Nat) : State × Nat :=
  let p := (look (streamSt (dieSeq s die) n).claims reader).getD 0
  (withStream s die n (fun st => { st with claims := keep reader (p + k) st.claims }), p)

def addMacro (s : State) (die : Nat) (m : Macro) : State := withDie s die (fun q => { q with macros := q.macros ++ [m] })

/-- Issue one core slot (R235). An output XFER claims its bytes of the stream as it issues; the bytes of an input XFER are fixed as
their blocks arrive (R314). -/
def issueCore (s : State) (die c x wide : Nat) (span : Option Nat) (rung : Nat) (cnt : List Nat) : State :=
  match unitOf (csOp x) with
  | none => s
  | some u =>
    let t := tabOfDie s die
    let d := nth ((look t.dies die).getD {}).descs (csDesc x + wide) 0
    let m : Macro := { core := c, unit := u, op := csOp x, slot := x, desc := d, cnt := cnt, span := span, rung := rung }
    let m := { m with gov := (govOfMacro s die m).isSome }
    if u = .t then
      if tDirOut d then
        let r := claimBytes s die (tStream d) 64 (tBytes d)
        addMacro r.1 die { m with stream := tStream d, off := r.2 }
      else addMacro s die { m with stream := tStream d }
    else addMacro s die m

/-- Issue the row-engine slot (R242). -/
def issueRow (s : State) (die x : Nat) (cnt : List Nat) : State :=
  if reOp x = 0 then s
  else
    let t := tabOfDie s die
    let d := nth ((look t.dies die).getD {}).descs (reDesc x) 0
    let m : Macro := { core := 0, unit := .rowEngine, op := reOp x, slot := x, desc := d, cnt := cnt }
    if reOp x = 4 ∨ reOp x = 5 then
      let r := claimBytes s die (gStream d) 64 (8 * reRows x)
      addMacro r.1 die { m with stream := gStream d, off := r.2 }
    else addMacro s die m

/-- Tokens in blocks (R267). -/
def tokenBlocks (t : Tablature) (tokens : Nat) : Nat := ceilDiv tokens (2 ^ t.tokLog)

/-- The count of a LOOP (R240, R267). -/
def loopCount (r : Run) (t : Tablature) (k : Nat) : Nat :=
  if !(ctArg k) then ctImm k
  else if ctImm k % 16 = 0 then tokenBlocks t r.tokens
  else nth r.args (ctImm k % 16) 0 % 2 ^ 32

/-- The control operation of a line: next line, counters, and what the die waits for (R239, R240). -/
def control (r : Run) (t : Tablature) (k line : Nat) (q : DieSeq) : DieSeq :=
  match ctOp k with
  | 1 => { q with line := ctTarget k }
  | 2 =>
    let n := loopCount r t k
    { q with cnt := q.cnt.set (ctCnt k) n, line := if n = 0 then ctTarget k else line + 1 }
  | 3 =>
    let n := (nth q.cnt (ctCnt k) 0 + 2 ^ 32 - 1) % 2 ^ 32
    { q with cnt := q.cnt.set (ctCnt k) n, line := if n ≠ 0 then ctTarget k else line + 1 }
  | 4 => { q with line := line + 1, wait := .barrier (ctImm k % 16) }
  | 5 => { q with line := line + 1, wait := .drain }
  | 6 => { q with line := line + 1, wait := .halted }
  | _ => { q with line := line + 1 }

/-- Every unit that the line names is free, every queue that it names has room (R236). -/
def lineFits (q : DieSeq) (l : Nat) : Bool :=
  (List.range 64).all (fun c => match unitOf (csOp (lnCore l c)) with
    | some u => (macroOn q c u).isNone
    | none => true)
    && (reOp (lnRow l) == 0 || (macroOn q 0 .rowEngine).isNone)
    && (List.range 4).all (fun k => stOp (lnStream l k) == 0 || decide ((nth q.queues k []).length < 64))

/-- Issue a line (R235-R243). The row-engine slot goes before the core slots: RS_CLOSE waits for EPIs of earlier lines only (R262). -/
def issueLine (s : State) (r : Run) (die l : Nat) : State :=
  let t := tabNo s r.tab
  let q0 := dieSeq s die
  let line := q0.line
  let extra := interlockCycles s die q0
  let now := dieClock s die
  let slots := lineSlots r t die l q0
  let s := withDie s die (beginPass r t die line)
  let pass := passOf t die (dieSeq s die) line
  let wideD := (pass.map (fun p => p.2.2.1)).getD 0
  let span := pass.map Prod.fst
  let rung := (pass.map (fun p => p.2.1)).getD 0
  let cnt := q0.cnt
  let s := slots.zipIdx.foldl (fun s p => issueStream s die p.2 p.1) s
  let s := issueRow s die (lnRow l) cnt
  let s := (List.range 64).foldl (fun s c => issueCore s die c (lnCore l c) wideD span rung cnt) s
  let s := bump (bump s 0x50 1) 0x51 extra
  withDie s die (fun q => control r t (lnControl l) line { q with
    last := line, hold := ctHold (lnControl l), issued := now, any := true, ready := none, stashFrom := 0, wait := .none,
    progress := s.time.tick, advanced := now })

/-- The next line of a die could issue but for HOLD (R236). -/
def lineReady (s : State) (r : Run) (die : Nat) : Bool :=
  let q := dieSeq s die
  match ((look (tabNo s r.tab).dies die).getD {}).lines[q.line]? with
  | none => false
  | some l => waitOver s die q && lineFits q l && !(waitsForTag s r die)

/-- Note when the next line of a die can first issue. -/
def noteReady (s : State) (die : Nat) : State :=
  match runOfDie s die with
  | none => s
  | some r =>
    if (dieSeq s die).ready.isNone && r.ending.isNone && lineReady s r die then
      withDie s die (fun q => { q with ready := some (dieClock s die) })
    else s

/-- The stream-slot queues empty into their streams. -/
def takeQueues (s : State) (die : Nat) : State := noteReady (drainQueues s die) die

/-! ### Scoreboards (R254, R255, R262) -/

def meets (a b : Option (Nat × Nat)) : Bool :=
  match a, b with
  | some x, some y => decide (x.1 < y.2 ∧ y.1 < x.2)
  | _, _ => false

/-- Windows of two macros of a core order them (R255). -/
def windowsOrder (e m : Macro) : Bool :=
  meets (writeWindow e.gov e.op e.desc) (writeWindow m.gov m.op m.desc)
    || meets (writeWindow e.gov e.op e.desc) (readWindow m.op m.desc)
    || meets (readWindow e.op e.desc) (writeWindow m.gov m.op m.desc)

/-- Two macros name a common tile (R254). -/
def tilesOrder (e m : Macro) : Bool :=
  let a := tilesOf e.op e.slot e.desc
  let b := tilesOf m.op m.slot m.desc
  decide (a.1 < b.1 + b.2 ∧ b.1 < a.1 + a.2)

def isCompute (u : ExecUnit) : Bool :=
  match u with
  | .f | .g | .e => true
  | _ => false

/-- A macro may start: `earlier` are the uncompleted macros issued before it, `all` every uncompleted one. -/
def mayStart (earlier all : List Macro) (m : Macro) : Bool :=
  match m.unit with
  | .rowEngine =>
    m.op != 3 || earlier.all (fun e => !(e.op == 4 && e.unit == .e && bit (gMask m.desc) e.core))
  | u =>
    let mine := earlier.filter (fun e => e.core == m.core && e.unit != .rowEngine)
    mine.all (fun e => !(windowsOrder e m) && !(tilesOrder e m))
      && (u != .t || !(all.any (fun e => e.core == m.core && isCompute e.unit && e.started.isSome)))
      && (!(isCompute u) || !(all.any (fun e => e.core == m.core && e.unit == .t && e.started.isSome)))

/-! ### Barriers and replay (R240, R288-R291) -/

/-- A die has arrived at its barrier: HOLD elapsed, and drained where the line closes a span. -/
def arrivedAt (s : State) (t : Tablature) (die : Nat) (q : DieSeq) : Option Nat :=
  match q.wait with
  | .barrier n =>
    let closes := match q.pass.bind (fun p => spanNo t p.span) with
      | some sp => nth sp.last die 0 == q.last
      | none => false
    if holdElapsed s die q && (!closes || drained s die) then some n else none
  | _ => none

/-- A die has executed HALT. -/
def hasHalted (s : State) (die : Nat) (q : DieSeq) : Bool :=
  match q.wait with
  | .halted => holdElapsed s die q
  | _ => false

/-- The barrier closes the pass of a span on every die of the run. -/
def closingPass (t : Tablature) (r : Run) : Option (Pass × Span) :=
  match r.dies.head? with
  | none => none
  | some (d, q) =>
    match q.pass with
    | none => none
    | some p => match spanNo t p.span with
      | some sp => if nth sp.last d 0 = q.last then some (p, sp) else none
      | none => none

/-- The first die that set the overflow flag, with the cause item. -/
def firstOverflow (r : Run) : Option (Nat × Nat) :=
  (r.dies.foldl (fun (best : Option (Nat × Nat × Nat)) p =>
    match p.2.pass.bind (·.overflow), best with
    | some (tick, item), some b => if tick < b.1 then some (tick, p.1, item) else some b
    | some (tick, item), none => some (tick, p.1, item)
    | none, b => b) none).map (fun x => (x.2.1, x.2.2))

/-- Repeat the pass at rung 1 on a die. -/
def replayDie (sp : Span) (die : Nat) (q : DieSeq) : DieSeq :=
  match q.pass with
  | none => { q with wait := .none }
  | some p => { q with
      wait := .none, cnt := p.cnt, line := nth sp.first die 0,
      pass := some { span := p.span, rung := 1, cnt := p.cnt, tags := p.tags } }

/-- Put back the tag registers that a pass saved. -/
def restoreTags (s : State) (die : Nat) (q : DieSeq) : State :=
  match q.pass with
  | none => s
  | some p => p.tags.foldl (fun s x => withStash s die x.1 (fun z => { z with tags := x.2 })) s

/-- Fold what a final pass recorded into the step (R287, R293). -/
def foldPass (sp : Span) (r : Run) : Run :=
  r.dies.foldl (fun r d =>
    match d.2.pass with
    | none => r
    | some p =>
      let add (l : List (Nat × Nat)) (m : List (Nat × Nat)) : List (Nat × Nat) :=
        m.foldl (fun l x => keep x.1 ((look l x.1).getD 0 + x.2) l) l
      let top := fmax (d32 ((look r.step.gradMax sp.layer).getD 0)) (d32 p.gradMax)
      { r with step := { r.step with
          nonzero := add r.step.nonzero p.nonzero, under := add r.step.under p.under,
          gradMax := if sp.role = 2 then keep sp.layer (e32 top) r.step.gradMax else r.step.gradMax } }) r

/-- Set the skip flag of a layer's stash entries on every die (R295). -/
def skipLayer (s : State) (r : Run) (layer : Nat) : State :=
  let t := tabNo s r.tab
  r.dies.foldl (fun s d => (List.range (stashesOf t).length).foldl (fun s n =>
    if (stashEntry t n).layer = layer then withStash s d.1 n (fun z => { z with skip := true }) else s) s) s

/-- A pass of a layer has run at a rung: LAYER_RUNG shows the highest of the last step (R300). -/
def noteRung (t : Tablature) (layer rung : Nat) : Tablature :=
  { t with train := { t.train with rung := keep layer (max rung ((look t.train.rung layer).getD 0)) t.train.rung } }

/-- Release a barrier that every die of the run has reached (R240, R289-R291). The stall period starts again (DESIGN CHOICE,
log entry 130). -/
def releaseBarrier (s : State) (r : Run) : State :=
  let t := tabNo s r.tab
  let go (s : State) (d : Nat × DieSeq) (q : DieSeq) : Nat × DieSeq :=
    (d.1, { q with wait := .none, progress := s.time.tick, advanced := dieClock s d.1, stashFrom := dieClock s d.1 })
  match closingPass t r with
  | none => withRun s r.slot r.seq (fun r => { r with dies := r.dies.map (fun d => go s d d.2) })
  | some (p, sp) =>
    let spill := if p.rung = 0 then firstOverflow r else none
    let arg1 := Config.layerRoleArg sp.layer sp.role
    match spill with
    | some (die, item) =>
      if r.step.replay then
        let s := raise (bump s 0x54 1) 0x0402 0 2 die (args := [dStep r.word, arg1, die, item])
        let s := withTab (r.dies.foldl (fun s d => restoreTags s d.1 d.2) s) r.tab (fun t => noteRung t sp.layer 1)
        withRun s r.slot r.seq (fun r => { r with
          step := { r.step with replays := r.step.replays + 1, rung := keep sp.layer 1 r.step.rung },
          dies := r.dies.map (fun d => go s d (replayDie sp d.1 d.2)) })
      else
        let s := raise s 0x0402 0 2 die (args := [dStep r.word, arg1, die, item + 2 ^ 63])
        let s := if sp.role = 2 then skipLayer s r sp.layer else s
        withRun s r.slot r.seq (fun r =>
          let r := foldPass sp r
          { r with dies := r.dies.map (fun d => go s d { d.2 with pass := none }) })
    | none =>
      let nonf := r.dies.any (fun d => (d.2.pass.map (·.nonfinite)).getD false)
      let s := if nonf ∧ sp.role = 2 then skipLayer s r sp.layer else s
      withRun s r.slot r.seq (fun r =>
        let r := foldPass sp r
        { r with dies := r.dies.map (fun d => go s d { d.2 with pass := none }) })

/-! ### Starting and ending a run (R267, R269, R271, R312) -/

/-- A die sequencer at the start of a run: counters 0, the bucket full (R240, R303, R322). -/
def freshDie (s : State) (die : Nat) : DieSeq :=
  let depth := ctl s 0x320003
  { issued := dieClock s die, progress := s.time.tick, advanced := dieClock s die, rate := ctl s 0x320002, burst := depth,
    bucket := ((depth * 1048576 : Nat) : Int), refilled := s.time.tick }

/-- A die sequencer at the start of a further sequence of an ENCODE: loop counters hold their values, the bucket goes on (R240,
R322). -/
def nextSequence (s : State) (die : Nat) (streams : List (Nat × StreamSt)) (q : DieSeq) : DieSeq :=
  { freshDie s die with cnt := q.cnt, rate := q.rate, burst := q.burst, bucket := q.bucket, refilled := q.refilled, streams := streams }

/-- First descriptor address of a stream's block list: through the directory, or an argument word (R306, R307). -/
def listStart (r : Run) (e : StreamEnt) : Nat :=
  if e.endpoint = 0 then nth (if e.dir then r.outDir else r.inDir) e.listSel 0 else nth r.args e.listSel 0

/-- The streams of a die at the start of its program. -/
def startStreams (t : Tablature) (r : Run) (die : Nat) : List (Nat × StreamSt) :=
  ((t.streams.zipIdx.filter (fun p => p.1.die == die)).map (fun p =>
    (p.2, if isHost p.1 then { listNext := listStart r p.1 } else ({} : StreamSt))))

/-- The blocks that PREFETCH fetched and no slot counted, at HALT (R320). -/
def unusedPrefetch (r : Run) : Nat :=
  sumOf (r.dies.map (fun d => sumOf (d.2.streams.map (fun p => (p.2.blocks.filter (·.prefetched)).length))))

/-- A CMD or ARG stream goes on from its position in the next sequence of an ENCODE: HALT has released the blocks that no XFER took
and with them what is left of PREFETCH, so that later slots fetch those blocks again (R303, R320; DESIGN CHOICE, log entry 111). -/
def haltStream (st : StreamSt) : StreamSt :=
  let gone := st.blocks.filter (·.prefetched)
  { st with
    blocks := st.blocks.filter (fun b => !b.prefetched), credit := st.credit.filter (fun c => !c.ahead),
    handles := st.handles.filter (fun h => !(gone.any (fun b => b.handle == h))),
    fetchNo := st.fetchNo - gone.length, cache := gone.filterMap (·.desc) ++ st.cache }

/-- The streams of a die at the start of a further sequence (R303). -/
def keptStreams (t : Tablature) (r : Run) (die : Nat) (q : DieSeq) : List (Nat × StreamSt) :=
  (startStreams t r die).map (fun p =>
    (p.1, if isHost (nth t.streams p.1 {}) then haltStream ((look q.streams p.1).getD p.2) else p.2))

/-- Raise the calibration-saturation events at the end of a RUN or TUNE_STEP (R176). -/
def statEvents (s : State) : State :=
  s.dense.stats.foldl (fun s p =>
    if p.2.sat * 1000000 > ctl s 0x700002 * p.2.elems then
      raise s 0x0401 1 2 (p.1 / 16) (args := [p.1 / 16, p.1 % 16])
    else s) s

/-- The status of a run that executed HALT on every die (R219, R271). -/
def runStatus (r : Run) : Status := if r.fault then .pageFault else if r.poison then .partialPoison else .ok

/-- A run leaves its dies; page requests of its streams are forgotten. -/
def dropRun (s : State) (slot seq : Nat) : State :=
  withdraw { s with dense := { s.dense with runs := s.dense.runs.filter (fun r => !(r.slot == slot && r.seq == seq)) } }
    (fun p => p.slot == slot && p.seq == seq)

end Sys2Proof.Machine
end

