-- ==== Sys2Proof/Machine/Dense.lean ====
section
/-!
DEFINITION. Commands of the die sequencer and of the streams: starts, lines, macro-operations, barriers, blocks, stalls,
aborts and completion of dense runs (R235-R277, R303-R326, R399, R400).
-/
namespace Sys2Proof.Machine

/-- Take an ENCODE_SEARCH's query away with its command. -/
def dropQueryOf (s : State) (slot seq : Nat) : State :=
  { s with queries := s.queries.filter (fun q => q.origin != .host slot seq) }

/-- A dense command ends: its completion waits to be written, with the admission epoch where it is an ENCODE_SEARCH (R216). -/
def denseEnd (s : State) (slot seq : Nat) (c : Compl) : State :=
  let q := s.queries.find? (fun q => q.origin == .host slot seq)
  finish (dropQueryOf s slot seq) slot seq { c with epoch := (q.map Query.epoch).getD c.epoch }

/-- Words of an argument block or list directory. -/
def words16 (bs : List Byte) : List Nat := (List.range 16).map (fun i => numAt bs (8 * i) 8)

/-- An optional buffer: `some` words, `none` where its read failed. -/
def readWords (addr : Nat) (bs : Option (List Byte)) : Option (List Nat) :=
  if addr = 0 then some (List.replicate 16 0) else bs.map words16

/-- The run that starts. -/
def newRun (s : State) (slot seq : Nat) (o : OutCmd) (args inDir outDir : List Nat) : Run :=
  let t := tabNo s (dTab o.word)
  let op := cOpcode o.word
  { slot := slot, seq := seq, word := o.word, tab := dTab o.word, args := args, inDir := inDir, outDir := outDir,
    tokens := if op = 0x31 then 0 else dTokens o.word, seqs := if op = 0x20 then max 1 (dSeqs o.word) else 1,
    dies := t.dies.map (fun d => (d.1, freshDie s d.1)), kept := if trainsTab t ∧ op ≠ 0x31 then t.area else [],
    step := { force := ctl s 0x710001 == 1, replay := ctl s 0x710002 == 1, ppm := ctl s 0x710003, target := ctl s 0x710004,
              startV := t.train.stash.map (fun p => (p.1, p.2.v)) } }

/-- The argument block or a list directory of a command is still being paged in (R226). -/
def startPaging (s : State) (slot seq : Nat) : Bool :=
  [Access.args, .inDir, .outDir].any (fun a => (paging s slot seq a).isSome)

/-- DENSE_START: a waiting command starts after the checks of R269 and R312 once its dies are all idle, no earlier waiting command
names any of them, and every earlier one of its channel has started (R213); the argument block and the list directories are read
(R267, R307). -/
def execDenseStart (slot seq : Nat) (args inDir outDir : Option (List Byte)) (s : State) : Result :=
  match outCmd s slot seq with
  | none => idle s
  | some o =>
    let t := tabNo s (dTab o.word)
    let ds := t.dies.map Prod.fst
    let before := (s.dense.waiting.takeWhile (fun p => p != (slot, seq))).any (fun p =>
      p.1 == slot || (match outCmd s p.1 p.2 with
        | some x => (tabNo s (dTab x.word)).dies.any (fun d => ds.contains d.1)
        | none => false))
    if !(s.dense.waiting.contains (slot, seq)) || startPaging s slot seq || before || ds.any (fun d => (runOfDie s d).isSome) then idle s
    else
      let s := { s with dense := { s.dense with waiting := s.dense.waiting.erase (slot, seq) } }
      if !(t.dies.all (fun d => maskInSet s d.1 d.2.coreMask)) then .next (denseEnd s slot seq { status := .invalid })
      else if !(t.dies.all (fun d => maskServed s d.1 d.2.coreMask)) then
        .next (denseEnd s slot seq { status := .fenced, cause := { fenced := true } })
      else if !(t.dies.all (fun d => decide (reserveSum t d.1 ≤ streamPool s * 1048576))) then
        .next (denseEnd s slot seq { status := .invalid })
      else
        match readWords (dArg o.word) ((bufOf o .args).getD args), readWords (dInList o.word) ((bufOf o .inDir).getD inDir),
            readWords (dOutList o.word) ((bufOf o .outDir).getD outDir) with
        | some a, some i, some e =>
          let r := newRun s slot seq o a i e
          let r := { r with dies := r.dies.map (fun d => (d.1, { d.2 with streams := startStreams t r d.1 })) }
          let s := { s with dense := { s.dense with runs := s.dense.runs ++ [r], sharedFreeMin := none } }
          let s := t.dies.foldl (fun s d => noteShared s d.1) s
          .next (if isTune r then writeFactors (bump s 0x58 (zeroDelayed r t)) r else s)
        | _, _, _ => .next (denseEnd s slot seq { status := .pageFault })

/-- LINE_ISSUE: the next line of a die issues when R236 allows and its stash slots find their tags (R294). -/
def execLineIssue (die : Nat) (s : State) : Result :=
  match runOfDie s die with
  | none => idle s
  | some r =>
    let t := tabNo s r.tab
    let q := dieSeq s die
    match ((look t.dies die).getD {}).lines[q.line]? with
    | none => idle s
    | some l =>
      if r.ending.isSome || !(holdElapsed s die q) || !(waitOver s die q) || !(lineFits q l) || waitsForTag s r die then idle s
      else .next (noteReady (issueLine s r die l) die)

/-- The core number under which the row engine's macro stands. -/
def macroCore (core : Nat) (u : ExecUnit) : Nat := if u = .rowEngine then 0 else core

/-- MACRO_START: an issued macro-operation starts when the scoreboards allow (R254, R255, R262). -/
def execMacroStart (die core : Nat) (u : ExecUnit) (s : State) : Result :=
  let q := dieSeq s die
  let c := macroCore core u
  match macroOn q c u with
  | none => idle s
  | some m =>
    let before := q.macros.takeWhile (fun e => !(e.core == c && e.unit == u))
    if m.started.isSome || !(mayStart before q.macros m) then idle s
    else .next (noteReady (pullAll (withMacro s die c u (fun m => { m with started := some (dieClock s die) })) die) die)

/-- What a macro-operation leaves whose cycles have passed where `ready` holds; `none` where it does nothing yet. -/
def macroDone (s : State) (r : Run) (die c : Nat) (u : ExecUnit) (m : Macro) (ready : Bool) : Option State :=
  match u with
  | .t =>
    let s := pullMacro 256 s die c
    let got := ((macroOn (dieSeq s die) c .t).map (·.got)).getD 0
    some (if ready && decide (tBytes m.desc ≤ got) then freeTags (dropMacro (countTagWait s die) die c .t) die m.stream else s)
  | .rowEngine => some (rowEngineDone (countTagWait s die) die m)
  | .s => if ready then some (selectDone s die m) else none
  | .e =>
    if ready then
      match epilogueDone s r die m with
      | some s => some (dropMacro s die c u)
      | none => some (invalidate s die)
    else none
  | _ =>
    if ready then
      match productDone s r die m with
      | some s => some (dropMacro s die c u)
      | none => some (invalidate s die)
    else none

/-- MACRO_COMPLETE: a started macro-operation whose cycles have passed leaves its results; a transfer first copies what it
can (R235, R252-R262, R314). -/
def execMacroComplete (die core : Nat) (u : ExecUnit) (s : State) : Result :=
  let c := macroCore core u
  match runOfDie s die, macroOn (dieSeq s die) c u with
  | some r, some m =>
    match m.started with
    | none => idle s
    | some since =>
      match macroDone s r die c u m (decide (macroCycles s die m ≤ dieCycles s die since)) with
      | some t => .next (noteReady t die)
      | none => idle s
  | _, _ => idle s

/-- BARRIER_RELEASE: every die of the run waits at one barrier number: it releases, or the pass repeats; a different number
or a HALT ends the run with INVALID (R240, R289). -/
def execBarrierRelease (slot seq : Nat) (s : State) : Result :=
  match runOf s slot seq with
  | none => idle s
  | some r =>
    if r.ending.isSome then idle s
    else
      let t := tabNo s r.tab
      let at_ := r.dies.map (fun d => arrivedAt s t d.1 d.2)
      let halts := r.dies.any (fun d => hasHalted s d.1 d.2)
      match at_.filterMap id with
      | [] => idle s
      | n :: rest =>
        if rest.any (fun m => m != n) || halts then .next (abortRun s slot seq 4 .invalid)
        else if at_.all Option.isSome then .next ((r.dies.map Prod.fst).foldl noteReady (releaseBarrier s r))
        else idle s

/-- Hand the encoder's output vector to the search of an ENCODE_SEARCH (R208, R324). -/
def giveQuery (s : State) (r : Run) : State :=
  { s with queries := s.queries.map (fun q =>
      if q.origin = .host r.slot r.seq ∧ q.vectorFrom = false ∧ q.qvec = none then
        { q with qvec := some r.query, cause := { q.cause with poison := q.cause.poison || r.poison } }
      else q) }

/-- Some transfer of a die of the run is in flight: HALT waits for it (R320, R326). -/
def runInFlight (s : State) (r : Run) : Bool := r.dies.any (fun d => d.2.streams.any (fun p => inFlight s d.1 p.1))

/-- A sequence ends: it counts as a written vector unless a block of its output was lost (R204, R269). -/
def noteVector (r : Run) : Run := { r with vectors := r.vectors + (if r.lost then 0 else 1), lost := false }

/-- RESULT of a dense command (R204). -/
def denseResult (r : Run) : Nat := if cOpcode r.word = 0x20 then r.vectors else 0

/-- RUN_COMPLETE: every die has executed HALT and drained: the next sequence of an ENCODE begins, or the run ends
(R269, R271, R286, R320). -/
def execRunComplete (slot seq : Nat) (s : State) : Result :=
  match runOf s slot seq with
  | none => idle s
  | some r =>
    if r.ending.isSome || !(r.dies.all (fun d => hasHalted s d.1 d.2 && drained s d.1)) || runInFlight s r || r.rows != [] then idle s
    else
      let t := tabNo s r.tab
      let s := bump ((r.dies.map Prod.fst).foldl countWaits s) 0x62 (unusedPrefetch r)
      if r.seqNo + 1 < r.seqs then
        .next (withRun s slot seq (fun r => { noteVector r with
          seqNo := r.seqNo + 1,
          dies := r.dies.map (fun d => (d.1, nextSequence s d.1 (keptStreams t r d.1 d.2) d.2)) }))
      else
        let op := cOpcode r.word
        let st := runStatus r
        let s := if isTune r ∧ (st = .ok ∨ st = .partialPoison) then stepDone s r
                 else if isTune r then stepUndone s r else stashKept s r
        let s := if op = 0x30 ∨ op = 0x31 then statEvents s else s
        let s := dropRun s slot seq
        if op = 0x21 ∧ st ≠ .pageFault then .next (giveQuery s r)
        else .next (denseEnd s slot seq { status := st, cause := { poison := r.poison }, result := denseResult (noteVector r) })

/-! ### Streams -/

/-- A block descriptor from its number. -/
def blockDesc (x : Nat) : BlockDesc :=
  { addr := bits x 255 192, planeStride := bits x 191 144, rowStride := bits x 143 104, rowBytes := bits x 103 83,
    rows := bits x 82 62, planes := bits x 61 50, scaleIdx := bits x 49 26 }

/-- A descriptor passes the fetcher's check (R309, R310). -/
def descGood (e : StreamEnt) (x : Nat) : Bool :=
  let d := blockDesc x
  decide (1 ≤ d.rowBytes ∧ d.rowBytes ≤ 1048576 ∧ 1 ≤ d.rows ∧ d.rows ≤ 1048576 ∧ 1 ≤ d.planes)
    && decide (descBytes d ≤ blockBytes e) && bits x 25 0 == 0

/-- The stream is bad from a block on: the event names die, stream and block (R310). -/
def badList (s : State) (die n block : Nat) : State :=
  raise (withStream s die n (fun st => { st with badFrom := some (min block (st.badFrom.getD block)) })) 0x0404 2 2 die (args := [die, n, block])

/-- The first block of a stream whose descriptor is not held. -/
def nextUnknown (s : State) (die n : Nat) : Nat :=
  let st := streamSt (dieSeq s die) n
  st.fetchNo + st.cache.length

/-- Take the descriptors of a burst, up to the first bad one. -/
def takeDescs (s : State) (die n : Nat) (e : StreamEnt) (xs : List Nat) : State :=
  let good := xs.takeWhile (descGood e)
  let s := withStream s die n (fun st => { st with
    cache := st.cache ++ good.map blockDesc, listLeft := st.listLeft - xs.length, listPos := st.listPos + 32 * xs.length })
  if good.length < xs.length then badList s die n (nextUnknown s die n) else s

/-- DESCRIPTOR_BURST_DONE: a burst of up to 32 descriptors arrives, the header of a list with the first (R308, R310). -/
def execDescriptorBurstDone (die n : Nat) (data : Option (List Byte)) (s : State) : Result :=
  match runOfDie s die with
  | none => idle s
  | some r =>
    let s1 := takeQueues s die
    let e := streamEntry s1 die n
    let st := streamSt (dieSeq s1 die) n
    if r.ending.isSome || !((dieSeq s1 die).bursts.contains n) || (paging s r.slot r.seq (.descriptors die n)).isSome then .next s1
    else
      let s1 := withDie s1 die (fun q => { q with bursts := q.bursts.filter (· != n), burstAt := forget q.burstAt n })
      let s2 := match data with
        | none => badList s1 die n (nextUnknown s1 die n)
        | some bs =>
          if st.listLeft = 0 then
            let h := numAt bs 0 32
            let count := bits h 191 160
            if bits h 15 0 ≠ 0xB1C7 ∨ count = 0 ∨ bits h 159 16 ≠ 0 then badList s1 die n (nextUnknown s1 die n)
            else
              let s2 := withStream s1 die n (fun st => { st with
                listPos := st.listNext + 32, listNext := bits h 255 192, listLeft := count })
              takeDescs s2 die n e ((List.range (min 31 count)).map (fun i => numAt bs (32 + 32 * i) 32))
          else takeDescs s1 die n e ((List.range (min 32 st.listLeft)).map (fun i => numAt bs (32 * i) 32))
      .next (noteReady (settle s2 die) die)

/-- The die's bucket is refilled, requests issue, and queued slots reach their streams: what is so before a block moves (R326). -/
def catchUp (s : State) (die : Nat) : State := takeQueues (issueDie s die) die

/-- REG_BUCKET_REFILL: the die's bucket gains what its rate gives since the last refill, and requests that waited for it issue (R322,
R326). -/
def execRegBucketRefill (die : Nat) (s : State) : Result :=
  match runOfDie s die with
  | none => idle s
  | some _ => .next (catchUp s die)

/-- Put a fetched block into its stream: to its readers under START or MCAST, held back under PREFETCH; its handle goes to the
consumer (R313, R317). -/
def placeBlock (s : State) (die n : Nat) (c : Credit) (b : Block) : State :=
  let e := streamEntry s die n
  let s := withStream s die n (fun st =>
    let st := useCredit st c.order
    let x := if c.ahead then ({ b with prefetched := true }, st) else deliverBlock (readersOf c.mask) c.order b st
    { x.2 with blocks := x.2.blocks ++ [x.1], fetchNo := x.2.fetchNo + 1,
               handles := x.2.handles.filter (· != b.handle) ++ [b.handle],
               cache := if isHost e then x.2.cache.drop 1 else x.2.cache })
  pullAll (releaseTaken (progressed (noteShared (bump s 0x60 1) die) die) die n) die

/-- The next block of a LINK consumer: that of the oldest handle in its queue that it has not taken (R306, R317). -/
def linkBlock (s : State) (die n : Nat) : Option Block :=
  let q := dieSeq s die
  let st := streamSt q n
  (st.handles.find? (fun h => !(st.blocks.any (fun b => b.handle == h)))).bind (fun h =>
    (streamSt q (streamEntry s die n).linkFrom).blocks.find? (fun b => b.handle == h))

/-- The access of a host block failed: that block and every later one of the stream are bad, and the command ends with PAGE_FAULT
(R228). -/
def faultBlock (s : State) (die n no : Nat) : State :=
  withRunOf (withStream s die n (fun st => { st with badFrom := some (min no (st.badFrom.getD no)), faulted := true })) die
    (fun r => { r with fault := true })

/-- The block of a stream that is on its way cannot have ended: it has no response, or its access waits for a page (R226, R321,
R322). -/
def streamHeld (s : State) (r : Run) (die n : Nat) : Bool :=
  heldReqs s (.stream die n) || (paging s r.slot r.seq (.block die n)).isSome

/-- A response of a block that is not its last: its requests retire and others issue (R321). -/
def streamPart (s : State) (die n : Nat) : State := retireReqs s (.stream die n) false

/-- The 64-byte lines of a block whose requests came back bad (R392, R394). -/
def lostLines (s : State) (die n : Nat) : List Nat :=
  ((lostRanges s (.stream die n)).map (fun p => linesOf p.1 (p.2 - p.1))).flatten

/-- A block has moved: its requests retire (R321). -/
def blockMoved (s : State) (die n : Nat) : State :=
  endReqs (withStream s die n (fun st => { st with move := none })) (.stream die n)

/-- An input block arrives: fetched bytes or, where it is bad, undefined ones, with the 64-byte lines that came back bad (R324). A line
that no stream has marked before counts the block (STREAM_POISON). -/
def arrivedBlock (s : State) (r : Run) (die n : Nat) (e : StreamEnt) (c : Credit) (len : Nat) (sh : Bool) (data : List Byte)
    (bad : List Nat) : State :=
  let t := tabNo s r.tab
  let st := streamSt (dieSeq s die) n
  let lost := isBad st st.fetchNo
  let f := if lost then freshFill s else (s, 0)
  let src := nearSource t die e st.fetchNo c.ver
  let store : Store :=
    if lost then badStore f.2 len
    else if isHost e then { mem := writeBytes {} 0 (data.take len), poison := bad }
    else
      let x := copyBytes src.1 src.2 {} 0 len
      { x with poison := x.poison ++ bad.filter (fun l => !x.poison.contains l) }
  let fresh := lost || bad != [] || (!(isHost e) && poisonedAt src.1.hurt src.2 len)
  let s := if fresh then bump f.1 0x61 1 else f.1
  let handle := (st.move.map Move.handle).getD (freeHandle (dieSeq s die))
  placeBlock (blockMoved s die n) die n c
    { no := st.fetchNo, len := len, data := store, inShared := sh, handle := handle, desc := if isHost e then st.cache.head? else none }

/-- BLOCK_FETCH_DONE: the block of an input stream that is on its way arrives in its buffer (R313, R315, R316, R318, R321, R322, R324);
while requests of it are left to issue, a part of it does. `present` is false where its access failed at once. -/
def execBlockFetchDone (die n : Nat) (data : List Byte) (bad : List Nat) (present : Bool) (s : State) : Result :=
  match runOfDie s die with
  | none => idle s
  | some r =>
    let s1 := catchUp s die
    let e := nth (tabNo s1 r.tab).streams n {}
    if r.ending.isSome || e.dir || e.die != die then .next s1
    else if e.endpoint = 5 then
      match nextCredit (streamSt (dieSeq s1 die) n), linkBlock s1 die n with
      | some c, some b => .next (noteReady (placeBlock s1 die n c { no := b.no, len := b.len, data := b.data, handle := b.handle }) die)
      | _, _ => .next s1
    else
      match inputReady s1 die n with
      | none => .next s1
      | some (c, len, sh) =>
        if streamHeld s1 r die n then .next s1
        else if partReqs s1 (.stream die n) then .next (streamPart s1 die n)
        else
          let hurt := ((bad ++ lostLines s1 die n).filter (fun l => decide (l * 64 < len))).eraseDups
          let no := (streamSt (dieSeq s1 die) n).fetchNo
          let s2 := if isHost e ∧ !(isBad (streamSt (dieSeq s1 die) n) no) ∧ !present then faultBlock s1 die n no else s1
          .next (noteReady (arrivedBlock s2 r die n e c len sh data hurt) die)

/-- A block's bytes as host writes of its descriptor's rows, in block order (R309). -/
def rowWrites (d : BlockDesc) (bs : List Byte) : List (Nat × List Byte) :=
  ((descRows d).zipIdx.map (fun p => (p.1, slice bs (p.2 * d.rowBytes) d.rowBytes))).filter (fun w => w.2 != [])

/-- Bytes put into a byte string at a position. -/
def putAt (bs : List Byte) (at_ : Nat) (new : List Byte) : List Byte :=
  (bs ++ List.replicate (at_ - bs.length) 0).take at_ ++ new ++ bs.drop (at_ + new.length)

/-- Store a block of an output stream at its endpoint (R294, R295, R306). -/
def writeBlock (s : State) (r : Run) (die n : Nat) (e : StreamEnt) (c : Credit) (b : Block) (len : Nat) : State :=
  let t := tabNo s r.tab
  let st := streamSt (dieSeq s die) n
  let bs := readBytes b.data.mem 0 len
  if isHost e then
    match st.cache[b.no - st.fetchNo]? with
    | some d => (rowWrites d bs).foldl (fun s w => hostWrite s r.slot w.1 w.2) s
    | none => s
  else if e.endpoint = 3 then
    withTab s r.tab (fun t => { t with act := alter t.act die (fun st =>
      copyBytes b.data 0 st (regionStart e + b.no * blockBytes e) len) })
  else if e.endpoint = 4 then
    let z := stashEntry t e.stash
    let at_ := b.no * blockBytes e
    let area := areaOf t die
    let area1 := if c.copy then copyBytes area (slotOff z (c.ver + 1) + at_) area (slotOff z c.ver + at_) len
                 else copyBytes b.data 0 area (slotOff z c.ver + at_) len
    let fix := if z.learned then learnedTensor area1.mem (slotOff z c.ver) at_ len else (area1.mem, 0, 0, 15)
    let s := withTab s r.tab (fun t => { t with area := keep die { area1 with mem := fix.1 } t.area })
    if fix.2.2.2 < 15 then
      let key := 16 * die + fix.2.2.2
      let old := (look s.dense.stats key).getD {}
      let next := { old with under := min 0xFFFFFFFF (old.under + fix.2.1), sat := min 0xFFFFFFFF (old.sat + fix.2.2.1) }
      { s with dense := { s.dense with stats := keep key next s.dense.stats } }
    else s
  else if e.endpoint = 6 then
    let at_ := (((outBlocks t e st b.no 65 st.fetchNo st.fetchPos).getLast?).map (fun x => x.2.1)).getD 0
    withRun s r.slot r.seq (fun r => { r with query := putAt r.query at_ bs })
  else s

/-- Go on past the blocks at the front of an output stream that are written: each uses its credit. -/
def passWritten (t : Tablature) (e : StreamEnt) : Nat → StreamSt → StreamSt
  | 0, st => st
  | fuel + 1, st =>
    match outLen t e st st.fetchNo st.fetchPos with
    | none => st
    | some len =>
      if st.early.contains st.fetchNo then
        let st' := match creditAt st.credit 0 with
          | some c => useCredit st c.order
          | none => st
        passWritten t e fuel { st' with
          fetchNo := st.fetchNo + 1, fetchPos := st.fetchPos + len, early := st.early.filter (· != st.fetchNo), cache := st.cache.drop 1 }
      else st

/-- A block of an output stream is written and released (R314); an UPDATE stream that has written its last block has delivered its
version (R294). -/
def releaseWritten (s : State) (die n : Nat) (e : StreamEnt) (c : Credit) (b : Block) : State :=
  let t := tabOfDie s die
  let s := withStream s die n (fun st => passWritten t e 65 { st with
    early := addOnce st.early b.no, blocks := st.blocks.filter (fun x => x.no != b.no), handles := st.handles.filter (· != b.handle) })
  if e.endpoint = 4 ∧ (stashEntry t e.stash).bytes ≤ (streamSt (dieSeq s die) n).fetchPos then
    withStash s die e.stash (fun x => if c.ver ≤ x.v then { x with delivered := c.ver } else x)
  else s

/-- The end of an output block's way to its endpoint. -/
def writtenBlock (s1 : State) (r : Run) (die n : Nat) (e : StreamEnt) (c : Credit) (b : Block) (len : Nat) (present : Bool) : State :=
  let s2 := if isHost e ∧ !(isBad (streamSt (dieSeq s1 die) n) b.no) ∧ !present then faultBlock s1 die n b.no else s1
  let st := streamSt (dieSeq s2 die) n
  let lost := isBad st b.no
  let badHere := lost && !st.faulted
  let s3 := if lost then withRunOf s2 die (fun r => { r with lost := true }) else writeBlock s2 r die n e c b len
  let s4 := if badHere && b.data.poison == [] then bump s3 0x61 1 else s3
  let s5 := if badHere || b.data.poison != [] then withRunOf s4 die (fun r => { r with poison := true }) else s4
  let s6 := blockMoved (releaseWritten s5 die n e c b) die n
  pullAll (progressed (bump s6 0x60 1) die) die

/-- BLOCK_WRITE_DONE: the block of an output stream that is on its way, filled and credited or flushed, is written and released
(R313-R315, R321, R322, R324, R228); while requests of it are left to issue, a part of it is. A block whose list or descriptor is bad is
poisoned and goes nowhere; one whose access failed is not written. -/
def execBlockWriteDone (die n : Nat) (present : Bool) (s : State) : Result :=
  match runOfDie s die with
  | none => idle s
  | some r =>
    let s1 := catchUp s die
    let e := nth (tabNo s1 r.tab).streams n {}
    if r.ending.isSome || e.endpoint == 5 then .next s1
    else
      match outputReady s1 die n with
      | none => .next s1
      | some (c, len, b) =>
        if streamHeld s1 r die n then .next s1
        else if partReqs s1 (.stream die n) then .next (streamPart s1 die n)
        else .next (noteReady (writtenBlock s1 r die n e c b len present) die)

/-! ### Stalls and aborts -/

/-- The oldest waiting stream of a die and its block (R319, R400). -/
def oldestWaiting (q : DieSeq) : Nat × Nat :=
  let best := q.streams.foldl (fun (b : Option (Nat × Nat × Nat)) p =>
    match (p.2.credit.find? (fun c => !c.ahead && decide (0 < c.left))), b with
    | some c, some x => if c.order < x.1 then some (c.order, p.1, p.2.fetchNo) else some x
    | some c, none => some (c.order, p.1, p.2.fetchNo)
    | none, x => x) none
  match best, q.macros.find? (fun m => m.unit == .t) with
  | some x, _ => (x.2.1, x.2.2)
  | none, some m => (m.stream, (streamSt q m.stream).fetchNo)
  | none, none => (0, 0)

/-- A macro-operation of a die is within its cycles. -/
def computing (s : State) (die : Nat) (q : DieSeq) : Bool :=
  q.macros.any (fun m => m.started.any (fun since => decide (dieCycles s die since < macroCycles s die m)))

/-- A die has made no progress for STALL_TIME, and not because of the power throttle: it waits for no HOLD and no macro-operation that
would have ended at full duty (R400, R417). One that waits at a barrier counts only while no die of its run makes
progress (R400). Progress in the tick of expiry wins (R326). -/
def stalled (s : State) (r : Run) (die : Nat) : Bool :=
  let q := (look r.dies die).getD {}
  let limit := ctl s 0xB00007
  let quiet (d : Nat × DieSeq) : Bool := decide (d.2.progress + limit < s.time.tick) && (decide (d.2.advanced + 576 * limit < dieClock s d.1)
    || (holdElapsed s d.1 d.2 && !(computing s d.1 d.2)))
  match q.wait with
  | .barrier _ => r.dies.all quiet
  | .halted => quiet (die, q) && (!(drained s die) || q.streams.any (fun p => inFlight s die p.1))
  | _ => quiet (die, q)

/-- The stall detector of a die ends its run with cause 1: counted, and logged with the oldest waiting stream and its block (R400). -/
def stallAbort (s : State) (r : Run) (die : Nat) : State :=
  let w := oldestWaiting (dieSeq s die)
  abortRun (raise (bump s 0x08 1) 0x0113 2 2 die (args := [die, w.1, w.2])) r.slot r.seq 1 .aborted

/-- STALL_DETECT: every die of the run aborts with cause 1 (R400). -/
def execStallDetect (die : Nat) (s : State) : Result :=
  match runOfDie s die with
  | none => idle s
  | some r =>
    if r.ending.isSome || !(stalled s r die) then idle s else .next (stallAbort s r die)

/-- The status that each cause of R399 gives. -/
def abortStatus (cause : Nat) : Status :=
  match cause with
  | 3 => .fenced
  | 4 => .invalid
  | _ => .aborted

/-- DIE_PROGRAM_ABORT: one of the causes of R399 ends a run. Causes 1 to 3 must hold in the state; 4 to 6 are reported by
the unit that detects them. -/
def execDieProgramAbort (slot seq cause : Nat) (s : State) : Result :=
  match runOf s slot seq with
  | none => idle s
  | some r =>
    let t := tabNo s r.tab
    let st := (chan s slot).state
    let holds : Bool := match cause with
      | 1 => r.dies.any (fun d => stalled s r d.1)
      | 2 => st == .aborting || st == .destroying
      | 3 => t.dies.any (fun d => !(maskServed s d.1 d.2.coreMask))
      | 4 => true
      | 5 => true
      | 6 => true
      | _ => false
    if r.ending.isSome || !holds then idle s
    else if cause = 1 then
      match r.dies.find? (fun d => stalled s r d.1) with
      | some d => .next (stallAbort s r d.1)
      | none => idle s
    else .next (abortRun s slot seq cause (abortStatus cause) (cause != 2))

/-- DIE_ABORT_DONE: every die of the run has finished; the completion waits to be written unless the channel was aborted
(R399 step 5). -/
def execDieAbortDone (slot seq : Nat) (s : State) : Result :=
  match runOf s slot seq with
  | none => idle s
  | some r =>
    match r.ending with
    | none => idle s
    | some st =>
      let op := cOpcode r.word
      let s := if op = 0x30 ∨ op = 0x31 then statEvents s else s
      let s := dropRun s slot seq
      let c := chan s slot
      if !r.reported || c.state == .aborting || c.state == .destroying then
        .next (dropCmd (dropQueryOf s slot seq) slot seq)
      else
        .next (denseEnd s slot seq
          { status := if r.fault then worse st .pageFault else st, cause := { poison := r.poison, fenced := st == .fenced },
            result := denseResult r })

end Sys2Proof.Machine
end

