-- ==== Sys2Proof/Machine/Tablatures.lean ====
section
/-!
DEFINITION. Tablatures and the admission of dense commands: LOAD_TABLATURE, RUN, TUNE_STEP, ENCODE, ENCODE_SEARCH,
TAB_UNLOAD and CORE_PART (R19, R208, R265-R270).
-/
namespace Sys2Proof.Machine

/-! ### LOAD_TABLATURE (R265) -/

/-- The lowest free tablature number. -/
def freeTab (s : State) : Option Nat := lowestFrom (fun n => (look s.dense.tabs n).isNone) 0 64

/-- The tablature areas of its dies have room. -/
def tabFits (s : State) (t : Tablature) : Bool :=
  t.dies.all (fun d => decide (sumOf (s.dense.tabs.map (fun x => tabBytes x.2 d.1)) + tabBytes t d.1 ≤ tabArea s))

/-- The image has been read: the checks of R265, and the tablature is loaded. -/
def loadEnd (s : State) (slot seq : Nat) (w : CmdWord) (img : List Byte) : State :=
  if !(imageOk s img (aImageBytes w)) then finishWith s slot seq .invalid
  else
    let t := loadedTab img
    match freeTab s with
    | none => finishWith s slot seq .capacity
    | some n =>
      if !(tabFits s t) then finishWith s slot seq .capacity
      else finish { s with dense := { s.dense with tabs := keep n t s.dense.tabs } } slot seq { status := .ok, result := n }

/-- LOAD_TABLATURE: then its image is read. -/
def execLoadTablature (slot seq : Nat) (s : State) : Result :=
  match admitting s slot seq 0x85 with
  | none => idle s
  | some o =>
    let n := aImageBytes o.word
    if !(reservedOk o.word) || !(decide (256 ≤ n ∧ n ≤ 2 ^ 32 - 64)) then .next (finishWith s slot seq .invalid)
    else .next (nowWaiting s slot seq)

/-! ### Admission of dense commands (R208, R268) -/

/-- The checks of R268 that name the tablature; RUN and ENCODE_SEARCH as their SEQS field allows. -/
def denseCheck (s : State) (w : CmdWord) : Bool :=
  let op := cOpcode w
  reservedOk w &&
    (match look s.dense.tabs (dTab w) with
     | none => false
     | some t =>
       let tokens := if op = 0x31 then 0 else dTokens w
       (op != 0x31 || trainsTab t) && (!(op == 0x20 || op == 0x21) || encodesTab t) && (tokens == 0 || takesTokens t)
         && decide (tokens ≤ 1048576 ∧ tokens ≤ t.maxTokens ∨ tokens = 0)
         && (op != 0x20 || decide (1 ≤ dSeqs w ∧ dSeqs w ≤ 65536)) && (op != 0x21 || (dSeqs w == 1 && dOutList w == 0)))

/-- An admitted dense command joins the module-wide queue (R269). -/
def enqueue (s : State) (slot seq : Nat) : State :=
  { s with dense := { s.dense with waiting := s.dense.waiting ++ [(slot, seq)] } }

/-- Admission of RUN, TUNE_STEP and ENCODE. -/
def admitDense (slot seq op : Nat) (s : State) : Result :=
  match admitting s slot seq op with
  | none => idle s
  | some o =>
    if denseCheck s o.word then .next (enqueue (setStage s slot seq .running) slot seq)
    else .next (finishWith s slot seq .invalid)

/-- RUN. -/
def execRun (slot seq : Nat) (s : State) : Result := admitDense slot seq 0x30 s

/-- TUNE_STEP. -/
def execTuneStep (slot seq : Nat) (s : State) : Result := admitDense slot seq 0x31 s

/-- ENCODE. -/
def execEncode (slot seq : Nat) (s : State) : Result := admitDense slot seq 0x20 s

/-- The template as a SEARCH; PIN_VALID of the command counts for it (R203, R208). -/
def templateWord (w : CmdWord) (bs : List Byte) : CmdWord :=
  BitVec.ofNat 512 (numAt bs 0 64) ||| (w &&& BitVec.ofNat 512 (2 ^ 14))

/-- The check of a template (R79, R208, R268). -/
def templateCheck (s : State) (slot : Nat) (w t : CmdWord) (now : Nat) : Option Status :=
  if cOpcode t ≠ 0x01 ∨ sQueryAddr t ≠ 0 ∨ cIndex t ≠ cIndex w then some .invalid
  else
    match searchCheck s slot t false now with
    | some st => some st
    | none =>
      if ((indexAt s (cIndex w)).map (·.cfg.vecDims)) = some (tabNo s (dTab w)).outDims then none else some .invalid

/-- ENCODE_SEARCH: admitted with its search once its template is read; a template that cannot be read ends it with
PAGE_FAULT (R80, R208, R228). -/
def execEncodeSearch (slot seq lag : Nat) (s : State) : Result :=
  match admitting s slot seq 0x21 with
  | none => idle s
  | some o =>
    if !(denseCheck s o.word) then .next (finishWith s slot seq .invalid)
    else
      match bufOf o .template with
      | none => idle s
      | some none => .next (finishWith s slot seq .pageFault)
      | some (some bs) =>
        let t := templateWord o.word bs
        let now := seenTime s lag
        match templateCheck s slot o.word t now with
        | some st => .next (finishWith s slot seq st)
        | none =>
          let s := withQuery (admitQuery s slot seq t false false now) (hostTag slot seq) (fun q => { q with qfmt := (tabNo s (dTab o.word)).outFmt })
          .next (enqueue s slot seq)

end Sys2Proof.Machine
end

