-- ==== Sys2Proof/Machine/Translate.lean ====
section
/-!
DEFINITION. Address translation, page requests and reads of a command's own buffers (R226-R229).
-/
namespace Sys2Proof.Machine

/-! ### Reads of a command's buffers (R228) -/

/-- The bytes that a read of a buffer brings; `none` for a length that the device or the image itself states. -/
def bufLen (s : State) (w : CmdWord) (k : BufKind) : Option Nat :=
  match k with
  | .payload => some (wDims w * rrSize (wElemFmt w))
  | .query => (indexAt s (cIndex w)).map (fun x => x.cfg.vecDims * rrSize (sQFmt w))
  | .partTable => some (16 * ciParts w)
  | .image => some (aImageBytes w)
  | .template => some 64
  | .args => some 128
  | .inDir => some 128
  | .outDir => some 128
  | .codeset => none

/-- The command still waits for this buffer. -/
def wantsBuf (o : OutCmd) (k : BufKind) : Bool :=
  let op := cOpcode o.word
  (bufOf o k).isNone &&
    (match k with
     | .payload => (op == 0x10 || op == 0x12) && isWaitingCmd o
     | .partTable => op == 0x83 && isWaitingCmd o
     | .codeset => (op == 0x83 || op == 0x89) && isWaitingCmd o
     | .image => op == 0x85 && isWaitingCmd o
     | .template => op == 0x21 && isFetched o && reservedOk o.word
     | .args => laneOf op == .dense && isRunning o && dArg o.word != 0
     | .inDir => laneOf op == .dense && isRunning o && dInList o.word != 0
     | .outDir => laneOf op == .dense && isRunning o && dOutList o.word != 0
     | .query => false)

/-- A search of the host still waits for its query vector. -/
def wantsVector (q : Query) : Bool := q.vectorFrom && q.qvec.isNone && q.phase != .done

/-- What a complete set of buffers leads on to. -/
def bufferDone (s : State) (slot seq : Nat) (k : BufKind) (d : Option (List Byte)) : State :=
  let s := noteBuf s slot seq k d
  match outCmd s slot seq with
  | none => s
  | some o =>
    match k, d with
    | .template, _ => s
    | .args, _ => s
    | .inDir, _ => s
    | .outDir, _ => s
    | _, none => finishWith s slot seq .pageFault
    | .image, some img => loadEnd s slot seq o.word img
    | .payload, some _ => s
    | .query, some _ => s
    | _, some _ =>
      match cOpcode o.word, bufOf o .partTable, bufOf o .codeset with
      | 0x83, some (some t), some (some c) => createIndexEnd s slot seq o.word t c
      | 0x89, _, some (some c) => retuneStartEnd s slot seq o.word c
      | _, _, _ => s

/-- The end of a read of a command's buffer: its bytes, or a failure under R226. -/
def readDone (s : State) (slot seq : Nat) (k : BufKind) (d : Option (List Byte)) : State :=
  match k, outCmd s slot seq with
  | _, none => s
  | .query, some o =>
    match queryOf s (hostTag slot seq) with
    | none => s
    | some q =>
      if !(wantsVector q) then s
      else
        match d with
        | none => failQuery s q .pageFault
        | some bs => if bufLen s o.word .query = some bs.length then takeVector s q.tag bs else s
  | _, some o =>
    if !(wantsBuf o k) then s
    else
      match d with
      | none => bufferDone s slot seq k none
      | some bs => if (bufLen s o.word k).all (· == bs.length) then bufferDone s slot seq k d else s

/-- A query's vector cannot be back: none of its requests is outstanding, or its home core is not served (R321, R397). -/
def vectorHeld (s : State) (slot seq : Nat) : Bool :=
  heldReqs s (.vector (hostTag slot seq)) || (queryOf s (hostTag slot seq)).any (fun q => !(homeUp s q))

/-- BUFFER_READ_DONE (R228). A read that waits for page requests, or for its core (R321), does not end; while requests of a query's
vector are left to issue, a part of it arrives. -/
def execBufferReadDone (slot seq : Nat) (k : BufKind) (d : Option (List Byte)) (s : State) : Result :=
  if (paging s slot seq (accOfKind k)).isSome || (k == .query && vectorHeld s slot seq) then idle s
  else if k = .query ∧ d.isSome ∧ partReqs s (.vector (hostTag slot seq)) then .next (retireReqs s (.vector (hostTag slot seq)) false)
  else .next (readDone s slot seq k d)

/-! ### Translations and page requests (R226, R227, R229) -/

/-- The run of a command on a die, while it has not ended. -/
def liveRun (s : State) (slot seq die : Nat) : Bool :=
  (runOf s slot seq).any (fun r => r.ending.isNone && r.dies.any (fun d => d.1 == die))

/-- The host block of a stream that is on its way, or ready to be, unless it is bad. -/
def liveBlock (s : State) (die n : Nat) : Option Nat :=
  let e := streamEntry s die n
  let st := streamSt (dieSeq s die) n
  let no := if e.dir then (outputReady s die n).map (fun x => x.2.2.no) else (inputReady s die n).map (fun _ => st.fetchNo)
  if isHost e then no.filter (fun k => !(isBad st k)) else none
def blockLive (s : State) (die n : Nat) : Bool := (liveBlock s die n).isSome

/-- A descriptor burst whose read fails makes the stream bad (R310). -/
def failBurst (s : State) (die n : Nat) : State :=
  settle (badList (withDie s die (fun q => { q with bursts := q.bursts.filter (· != n), burstAt := forget q.burstAt n })) die n (nextUnknown s die n)) die

/-- An access fails: `paged` where a page request failed or timed out, else a translation failure. -/
def failAccess (s : State) (slot seq : Nat) (acc : Access) (paged : Bool) : State :=
  match acc with
  | .sq => chanError s slot (if paged then 3 else 1)
  | .cq => chanError s slot (if paged then 4 else 2)
  | .result => withCmd s slot seq (fun o => { o with xlat := .failed })
  | .log => withCmd s slot seq (fun o => { o with xlat := .failed })
  | .descriptors die n => if (dieSeq s die).bursts.contains n then failBurst s die n else s
  | .block die n =>
    (match liveBlock s die n with
     | some no => faultBlock s die n no
     | none => s)
  | _ =>
    match kindOfAcc acc with
    | some k => readDone s slot seq k none
    | none => s

/-- Every page of an access is present: a result is written, a read is issued now (R394). -/
def accessPresent (s : State) (slot seq : Nat) (acc : Access) : State :=
  if acc = .result ∨ acc = .log then withCmd s slot seq (fun o => { o with xlat := .present })
  else if (kindOfAcc acc).isSome then withCmd s slot seq (fun o => { o with issued := s.time.tick })
  else s

/-- The pages of `n` further entries of a fetch or log buffer are present (R228, R404). -/
def entriesPresent (s : State) (slot seq n : Nat) : State :=
  withCmd s slot seq (fun o =>
    let all := match o.stage with
      | .done c => c.writes.length
      | _ => 0
    { o with sent := o.sent + n, xlat := if all ≤ o.sent + n then .present else .asked })

/-- The access writes a buffer entry by entry. -/
def byEntry (s : State) (slot seq : Nat) (acc : Access) : Bool :=
  (acc == .result || acc == .log) && (outCmd s slot seq).any (fun o => isBufferOp (cOpcode o.word))

/-- The access is one that the module makes or is about to make now. -/
def accessLive (s : State) (slot seq : Nat) (acc : Access) : Bool :=
  let c := chan s slot
  match acc with
  | .sq => c.state == .active || (isAdmin s slot && c.state == .free && (port s (portOf s slot)).enReq)
  | .cq => c.state == .active || (isAdmin s slot && c.state == .free && (port s (portOf s slot)).enReq)
  | .result => (outCmd s slot seq).any (fun o => o.xlat == .asked && cOpcode o.word != 0x87)
  | .log => (outCmd s slot seq).any (fun o => o.xlat == .asked && cOpcode o.word == 0x87)
  | .descriptors die n => liveRun s slot seq die && (dieSeq s die).bursts.contains n
  | .block die n => liveRun s slot seq die && blockLive s die n
  | .query => (outCmd s slot seq).isSome && ((queryOf s (hostTag slot seq)).any wantsVector)
  | _ =>
    match kindOfAcc acc with
    | some k => (outCmd s slot seq).any (fun o => wantsBuf o k)
    | none => false

/-- Accesses of a channel's queues are named by SEQ 0. -/
def accSeq (acc : Access) (seq : Nat) : Nat := if acc = .sq ∨ acc = .cq then 0 else seq

/-- The streams of the die whose access this is take up what its sequencer has issued. -/
def accSettled (s : State) (slot seq : Nat) (acc : Access) : State :=
  match acc with
  | .descriptors die _ => if liveRun s slot seq die then drainQueues s die else s
  | .block die _ => if liveRun s slot seq die then drainQueues s die else s
  | _ => s

/-- TRANSLATION_RESPONSE: the pages are granted, lack access, or the translation fails. -/
def execTranslationResponse (slot seq : Nat) (acc : Access) (answer : XlatAnswer) (s : State) : Result :=
  let q := accSeq acc seq
  let s := accSettled s slot q acc
  let h := port s (portOf s slot)
  if !(accessLive s slot q acc) || (paging s slot q acc).isSome then idle s
  else
    match answer with
    | .granted => .next (accessPresent s slot q acc)
    | .upTo n => if byEntry s slot q acc then .next (entriesPresent s slot q n) else idle s
    | .error => .next (failAccess s slot q acc false)
    | .noAccess n =>
      if n = 0 then .next (accessPresent s slot q acc)
      else if !h.priOn then .next (failAccess s slot q acc false)
      else
        let s := if acc = .result ∨ acc = .log then withCmd s slot q (fun o => { o with xlat := .paging }) else s
        .next (issuePages { s with pageReqs := s.pageReqs ++ [{ port := portOf s slot, slot := slot, seq := q, acc := acc,
                                                                sinces := [], more := n }] })

/-- PRI_TIMEOUT in ns. -/
def priTimeout (s : State) : Nat := ctl s 0x400005 * 1000000

/-- One page request of an access ends well; the access goes on with its last one, a buffer that is written entry by entry
with the entry that waited (R228). -/
def pageEnds (s : State) (r : PageReq) : State :=
  let rest := r.sinces.drop 1
  if rest = [] ∧ r.more = 0 then
    let s := withdraw s (fun y => y == r)
    if byEntry s r.slot r.seq r.acc then entriesPresent s r.slot r.seq 1 else accessPresent s r.slot r.seq r.acc
  else
    issuePages { s with pageReqs := s.pageReqs.map (fun y => if y == r then { y with sinces := rest } else y) }

/-- A page request of an access fails: the access fails. -/
def pageFails (s : State) (r : PageReq) : State :=
  failAccess (withdraw s (fun y => y == r)) r.slot r.seq r.acc true

/-- PAGE_RESPONSE: the oldest page request of the access is answered, by PRI_TIMEOUT at the latest (R226, R230). -/
def execPageResponse (slot seq : Nat) (acc : Access) (resolved : Bool) (s : State) : Result :=
  match paging s slot (accSeq acc seq) acc with
  | none => idle s
  | some r =>
    match r.sinces with
    | [] => idle s
    | t :: _ =>
      if t + priTimeout s < s.time.tick then idle s
      else if resolved then .next (pageEnds s r) else .next (pageFails s r)

/-- PAGE_REQUEST_TIMEOUT: PRI_TIMEOUT has passed without a response. -/
def execPageRequestTimeout (slot seq : Nat) (acc : Access) (s : State) : Result :=
  match paging s slot (accSeq acc seq) acc with
  | none => idle s
  | some r =>
    match r.sinces with
    | [] => idle s
    | t :: _ => if t + priTimeout s < s.time.tick then .next (pageFails s r) else idle s

/-- ATS_INVALIDATION: a result buffer whose translation the host takes back is translated again (R229). -/
def execAtsInvalidation (p : Port) (slot seq : Nat) (s : State) : Result :=
  if portOf s slot ≠ p ∨ !(outCmd s slot seq).any (fun o => o.xlat == .present) ∨ !(port s p).atsOn then idle s
  else .next (withCmd s slot seq (fun o => { o with xlat := .asked }))

end Sys2Proof.Machine
end

