-- ==== Sys2Proof/Machine/Integrity.lean ====
section
/-!
DEFINITION. Parity errors, unreadable memory, request timers and core fencing (R85, R391-R398, R408).
-/
namespace Sys2Proof.Machine

/-! ### Core service (R396, R397) -/

def withCores (s : State) (die : Nat) (f : DieCores → DieCores) : State :=
  { s with integ := { s.integ with dies := modAt s.integ.dies die f } }

/-- The physical core that serves a global logical core. -/
def physOf (s : State) (core : Nat) : Option Nat := nth (dieCores s (core / 64)).map (core % 64) none

/-- The lower-numbered free spare. -/
def freeSpare (d : DieCores) : Option Nat := [64, 65].find? (fun p => nth d.phys p .fenced == .spareFree)

/-- Walks and contexts on a core restart (R85). -/
def restartWalks (s : State) (core : Nat) : State :=
  s.queries.foldl (fun s q => q.walks.foldl (fun s w =>
    if w.core = core ∧ w.stage ≠ .ended then restartWalk s q.tag w.part else s) s) s

/-- Runs whose CORE_MASK names a core end with FENCED (cause 3). -/
def fenceRuns (s : State) (die c : Nat) : State :=
  match runOfDie s die with
  | none => s
  | some r =>
    if bit (((look (tabNo s r.tab).dies die).getD {}).coreMask) c then abortRun s r.slot r.seq 3 .fenced else s

/-- The hub store of a die is to be reloaded from its backing copy: a request between dies, whose timer runs (R50, R394). -/
def beginReload (s : State) (d : DieCores) : DieCores := { d with reload := true, reloadAt := s.time.tick }

/-- The queries whose home core is now another physical core read what they lack once more (R397; DESIGN CHOICE, log entry 135). -/
def beginReads (s : State) (core : Nat) : State :=
  s.queries.foldl (fun s q =>
    if q.home ≠ some core then s
    else if q.phase = .reranking then beginRerank s q
    else match indexAt s q.index with
      | some x => beginReqs s core (.vector q.tag) (if q.phase = .done then [] else vectorReqs s x q)
      | none => s) s

/-- The fence of a served core: `why` is 1 for its score, 2 for FENCE_CORE. A free spare takes its number; its stores are
cleared and the die admits walks again once its hub store is reloaded (R397). -/
def fenceCoreOp (s : State) (core why : Nat) : State :=
  let die := core / 64
  let c := core % 64
  match physOf s core with
  | none => s
  | some p =>
    let spare := freeSpare (dieCores s die)
    let s := withCores s die (fun d => { d with
      phys := (match spare with
        | some q => (d.phys.set p .fenced).set q .spareInService
        | none => d.phys.set p .fenced)
      map := d.map.set c spare })
    let s := if spare.isSome then withCores s die (beginReload s) else s
    let n := 66 * die + p
    let s := { s with integ := { s.integ with fenceList := if s.integ.fenceList.contains n then s.integ.fenceList else s.integ.fenceList ++ [n] } }
    let s := bump s 0x06 1
    let s := match spare with
      | some q => raise s 0x0110 1 1 core (args := [p, why, q])
      | none => raise s 0x0111 2 2 die (args := [p, core])
    let s0 := s
    let s := loseUnplaced (dropLuthier (restartWalks s core) (fun w => w.core == some core))
    let s := dropCoreReqs (fenceRuns (retryHeld s0 s) die c) core
    if spare.isSome then beginReads (setCore s die c {}) core else s

/-- Add to the error score of the core that serves a logical core; at the threshold it is fenced. -/
def addScore (s : State) (core n : Nat) : State :=
  match physOf s core with
  | none => s
  | some p =>
    let s := withCores s (core / 64) (fun d => { d with score := modAt d.score p (fun x => min 0xFFFF (x + n)) })
    if ctl s 0xB00001 ≤ nth (dieCores s (core / 64)).score p 0 then fenceCoreOp s core 1 else s

/-! ### Parity (R392) -/

/-- The row of R392 from 0, the core inside which the error occurred, and SOURCE_KIND with its unit. -/
def parityRow : ParityPlace → Nat
  | .dieNetwork _ _ _ => 0
  | .hubLink _ _ _ => 0
  | .fabricLink => 1
  | .hostLink _ => 2
  | .coreStore _ => 5
  | .walkerStore _ _ => 5
  | .selectionRegs _ _ => 5
  | .accumulator _ _ => 6
  | .hubStoreStream _ _ _ => 7
  | .hubStoreMirror _ => 7
  | .lineBuffer _ => 8
  | .queryTable _ _ => 9
  | .paramCache _ _ _ => 10
  | .sideMemory _ _ => 11
  | .mergeStore _ _ _ => 11
  | .fabricStore _ _ => 11
  | .rowStore _ _ _ _ => 11
  | .management => 12
def parityCore : ParityPlace → Option Nat
  | .coreStore c => some c
  | .walkerStore c _ => some c
  | .selectionRegs c _ => some c
  | .accumulator c _ => some c
  | _ => none
def paritySource : ParityPlace → Nat × Nat
  | .coreStore c => (1, c)
  | .walkerStore c _ => (1, c)
  | .selectionRegs c _ => (1, c)
  | .accumulator c _ => (1, c)
  | .hubStoreStream d _ _ => (2, d)
  | .hubStoreMirror d => (2, d)
  | .lineBuffer d => (2, d)
  | .sideMemory d _ => (2, d)
  | .mergeStore _ (some d) _ => (2, d)
  | .rowStore d _ _ _ => (2, d)
  | .queryTable m _ => (3, m)
  | .paramCache m _ _ => (3, m)
  | .management => (7, 0)
  | _ => (0, 0)

/-- A merge-store entry is dropped from the running list of its stage. -/
def dropEntryAt (st : MergeStage) (n : Nat) : MergeStage := { st with acc := { st.acc with entries := st.acc.entries.eraseIdx n } }

/-- What an error that could not be recovered does to the data it hit. In a selection unit, `addr` is the position of the entry:
it is dropped, and POISON is set (R119). -/
def parityHit (s : State) (addr : Nat) : ParityPlace → State
  | .coreStore c =>
    let k := coreOf s (c / 64) (c % 64)
    setCore s (c / 64) (c % 64) { k with store := { k.store with poison := markPoison k.store.poison addr 4 true } }
  | .walkerStore c x =>
    let hit (core ctx g : Nat) : Bool := core == c && decide (ctx ≤ x ∧ x < ctx + g)
    let t := s.queries.foldl (fun s q => q.walks.foldl (fun s w =>
      if w.stage ≠ .ended ∧ hit w.core w.ctx w.g then restartWalk s q.tag w.part else s) s) s
    retryHeld s (dropLuthier t (fun w => w.core.any (fun k => hit k w.ctx w.g)))
  | .selectionRegs c t =>
    (match t with
     | some tag => markCause (withQuery s tag (fun q =>
         if q.phase = .reranking then { q with merged := { q.merged with entries := q.merged.entries.eraseIdx addr } } else q)) tag setPoison
     | none => withMacro s (c / 64) (c % 64) .s (fun m => { m with bad := true, lost := addr :: m.lost }))
  | .accumulator c n =>
    let k := coreOf s (c / 64) (c % 64)
    setCore s (c / 64) (c % 64) { k with tiles := keep n { tileOf k n with poison := true } k.tiles }
  | .hubStoreStream d n b =>
    let first := (streamSt (dieSeq s d) n).blocks.any (fun x => x.no == b && x.data.poison == [])
    withStream (if first then bump s 0x61 1 else s) d n (fun st => { st with blocks := st.blocks.map (fun x =>
      if x.no = b then { x with data := { x.data with poison := linesOf 0 x.len } } else x) })
  | .hubStoreMirror d => withCores s d (beginReload s)
  | .lineBuffer d =>
    (match runOfDie s d with
     | some r => abortRun s r.slot r.seq 5 .aborted
     | none => s)
  | .queryTable m t => setBridge s m { bridge s m with badTags := (bridge s m).badTags ++ [t] }
  | .paramCache m i v =>
    let served := (s.queries.filter (fun q => q.index == i && q.opers.any (fun o => o.ver == v))).map (·.tag)
    setBridge s m { bridge s m with
      badTags := (bridge s m).badTags ++ served, cache := (bridge s m).cache.filter (fun p => !(p.1 == i && p.2 == v)) }
  | .sideMemory d n =>
    let e := sideEntry (sideOf s d) n
    setSide s d (putSide (sideOf s d) n (e.1, e.2.1, true))
  | .mergeStore t d n =>
    markCause (withQuery s t (fun q =>
      match d with
      | some d => { q with dies := alter q.dies d (fun st => dropEntryAt st n) }
      | none => { q with hub := dropEntryAt q.hub n })) t setPoison
  | .fabricStore t n => markCause (withQuery s t (fun q => { q with fabric := q.fabric.map (fun st => dropEntryAt st n) })) t setPoison
  | .rowStore d row c n => withRunOf s d (fun r => { r with rows := r.rows.map (fun x =>
      if x.rowNo = row ∧ x.die = d then { x with lists := x.lists.map (fun l =>
        if l.1 = 64 * d + c then (l.1, { l.2 with poison := true, entries := l.2.entries.eraseIdx n }) else l) } else x) })
  | _ => s

/-! ### Lost and poisoned packets (R392) -/

/-- A command whose buffer came back poisoned: a query is searched with POISON; nothing else of it can be used. -/
def poisonedRead (s : State) (slot seq : Nat) (k : BufKind) : State :=
  match k, outCmd s slot seq with
  | _, none => s
  | .query, some o =>
    (match (queryOf s (hostTag slot seq)).filter wantsVector, bufLen s o.word .query with
     | some q, some n =>
       let f := freshFill s
       takeVector (markCause f.1 q.tag setPoison) q.tag ((List.range n).map (Config.freeByte f.2))
     | _, _ => s)
  | _, some o =>
    if !(wantsBuf o k) then s
    else
      let c : Compl := { status := .partialPoison, cause := { poison := true } }
      if laneOf (cOpcode o.word) = .dense then
        if s.dense.waiting.contains (slot, seq) then
          denseEnd { s with dense := { s.dense with waiting := s.dense.waiting.erase (slot, seq) } } slot seq c
        else finish s slot seq c
      else finish s slot seq c

/-- What a packet of a link inside the module does that replay could not recover: with a good header its payload is delivered poisoned,
with a bad one it is discarded, and the request's timer answers (R392, R394). A list that is lost leaves its contributor missing, as
R128 has it. -/
def packetHit (s : State) (header : Bool) : Packet → State
  | .expandRequest tag part e =>
    let hit (r : ExpandReq) : Bool := r.tag == tag && r.part == part && r.expTag == e
    { s with bridges := s.bridges.map (fun b => (b.1,
        if header then { b.2 with reqs := b.2.reqs.map (fun r => if hit r then { r with bad := true } else r) }
        else { b.2 with reqs := b.2.reqs.filter (fun r => !(hit r)), lost := b.2.lost ++ b.2.reqs.filter hit })) }
  | .expandResponse tag part e =>
    match ((queryOf s tag).bind (fun q => walkOf q part)).bind (fun w => w.inbox.find? (fun a => a.expTag == e)) with
    | none => s
    | some a =>
      let r : ExpandReq := { tag := tag, qtab := a.qtab, context := a.context, since := a.since, part := part, expTag := e, slot := a.slot,
                             bound := 0 }
      if header then
        withWalk s tag part (fun w => { w with inbox := w.inbox.map (fun y => if y.expTag = e then poisonAnswer r else y) })
      else
        let m := (((queryOf s tag).bind (fun q => indexAt s q.index)).bind (fun x => partAt x part)).map (fun p => stackOfSlot p a.slot)
        let s := withWalk s tag part (fun w => { w with inbox := w.inbox.filter (fun y => y.expTag != e) })
        setBridge s (m.getD 0) { bridge s (m.getD 0) with lost := (bridge s (m.getD 0)).lost ++ [r] }
  | .block die n first => packetReqs s (.stream die n) first header
  | .vector tag first => packetReqs s (.vector tag) first header
  | .rerank tag first => packetReqs s (.rerank tag) first header
  | .hostRead slot seq k => if header then poisonedRead s slot seq k else s
  | .list tag pick =>
    withQuery s tag (fun q => { q with
      transit := if header then q.transit.modify pick (fun x => { x with list := { x.list with poison := true } }) else q.transit.eraseIdx pick })
  | .other => s

/-- A link inside the module has replayed a packet; an error that stands after three replays is not recovered (R392). -/
def linkReplays (place : ParityPlace) (recovered : Bool) : Nat :=
  match place with
  | .dieNetwork _ _ n => if recovered then max 1 (min n 3) else 3
  | .hubLink _ _ n => if recovered then max 1 (min n 3) else 3
  | _ => 0

/-- PARITY_ERROR: recovered errors are counted, and raise a core's score by 1; others mark their data, are logged, and raise
it by 16 (R392, R396). An error of the link between the hub dies is FATAL beside (R403). Fabric links are the business of R337; of host
links PCIe's replay, with the data poisoned that it could not recover. -/
def execParityError (place : ParityPlace) (addr : Nat) (recovered : Bool) (s : State) : Result :=
  let src := paritySource place
  let n := linkReplays place recovered
  let s := if n = 0 then s else bump s 0x03 n
  if recovered then
    let s := bump s 0x01 1
    .next (match parityCore place with
      | some c => addScore s c 1
      | none => s)
  else
    let link (packet : Packet) (header : Bool) : State :=
      packetHit (raise (bump s 0x02 1) 0x0102 2 (args := [addr, if header then 1 else 0])) header packet
    match place with
    | .fabricLink => idle s
    | .hostLink packet => .next (packetHit (bump s 0x02 1) true packet)
    | .management => .next (raise s 0x0114 3 7 0 (args := [1]))
    | .hubLink packet header _ => .next (raise (link packet header) 0x0114 3 4 0 (args := [2]))
    | .dieNetwork packet header _ => .next (link packet header)
    | _ =>
      let s := raise (bump s 0x02 1) 0x0101 2 src.1 src.2 (args := [parityRow place, addr])
      let s := parityHit s addr place
      .next (match parityCore place with
        | some c => addScore s c 16
        | none => s)

/-! ### Unreadable memory (R392, R395) -/

/-- Mark a 64-byte line of a tablature's area or activation space on a die. -/
def markArea (s : State) (tab die chunk : Nat) (act : Bool) : State :=
  let mark (st : Store) : Store := { st with poison := markPoison st.poison (64 * chunk) 64 true, hurt := markPoison st.hurt (64 * chunk) 64 true }
  withTab s tab (fun t =>
    if act then { t with act := keep die (mark (actOf t die)) t.act } else { t with area := keep die (mark (areaOf t die)) t.area })

/-- MEM_UNCORRECTABLE. -/
def execMemUncorrectable (place : MemPlace) (s : State) : Result :=
  match place with
  | .record i pn slot header => .next (recordBad s i pn slot header)
  | .rerank i pn slot => .next (rerankLost s i pn slot)
  | .area tab die chunk => .next (memBad (markArea s tab die chunk false) 2 die (64 * chunk))
  | .act tab die chunk => .next (memBad (markArea s tab die chunk true) 2 die (64 * chunk))
  | .other addr => .next (memBad s 0 0 addr)

/-- HUB_RELOAD_DONE: the die admits walks again (R50, R392, R397). -/
def execHubReloadDone (die : Nat) (s : State) : Result :=
  if (dieCores s die).reload && running s then .next (withCores s die (fun d => { d with reload := false })) else idle s

/-- FENCE_DECAY: every score falls by 1 in each period (R396). -/
def execFenceDecay (s : State) : Result :=
  let next := s.integ.lastDecay + ctl s 0xB00002 * 1000000
  if s.time.tick < next then idle s
  else .next { s with integ := { s.integ with
    lastDecay := next, dies := s.integ.dies.map (fun d => { d with score := d.score.map (· - 1) }) } }

/-! ### Request timers (R394) -/

/-- The expiry of a request's timer is counted and logged. -/
def noteTimeout (s : State) (kind unit : Nat) : State :=
  raise (bump s 0x05 1) 0x0104 1 (args := [Config.reqKindArg kind, Config.reqUnitArg unit])

/-- REQ_TIMEOUT: where the timer has run out, the requester goes on as if a response had arrived with every word poisoned. No timer runs
while a host access waits for its translation or its page (R226). -/
def execReqTimeout (kind : ReqKind) (s : State) : Result :=
  let late (since : Nat) : Bool := decide (since + ctl s 0xB00006 ≤ s.time.tick)
  match kind with
  | .expand tag part expTag =>
    let hit (r : ExpandReq) : Bool := r.tag == tag && r.part == part && r.expTag == expTag && late r.since
    (match s.bridges.find? (fun b => (b.2.reqs ++ b.2.lost).any hit) with
     | none => idle s
     | some b =>
       match (b.2.reqs ++ b.2.lost).find? hit with
       | none => idle s
       | some r =>
         let t := setBridge s b.1 { b.2 with reqs := b.2.reqs.erase r, lost := b.2.lost.erase r }
         .next (retryHeld s (withWalk (noteTimeout t 0 b.1) tag part (fun w => { w with inbox := w.inbox ++ [poisonAnswer r] }))))
  | .block die n data =>
    (match runOfDie s die with
     | none => idle s
     | some r =>
       if !(expired s (.stream die n)) || (paging s r.slot r.seq (.block die n)).isSome then idle s
       else
         let part := partReqs s (.stream die n)
         let t := retireReqs (noteTimeout s 1 die) (.stream die n) true
         if part then .next t
         else if (streamEntry t die n).dir then execBlockWriteDone die n true t
         else
           let f := freshFill t
           let lost := lostLines t die n
           execBlockFetchDone die n (data.zipIdx.map (fun p => if lost.contains (p.2 / 64) then Config.freeByte f.2 p.2 else p.1)) [] true f.1)
  | .rerank tag =>
    if !(expired s (.rerank tag)) then idle s
    else
      let part := partReqs s (.rerank tag)
      let t := retireReqs (noteTimeout s 1 tag) (.rerank tag) true
      if part then .next t else execRerankDone tag [] t
  | .descriptors die n =>
    (match runOfDie s die with
     | none => idle s
     | some r =>
       if !((dieSeq s die).bursts.contains n) || !(late ((look (dieSeq s die).burstAt n).getD 0))
           || (paging s r.slot r.seq (.descriptors die n)).isSome then idle s
       else execDescriptorBurstDone die n none (noteTimeout s 2 die))
  | .hostRead slot seq k =>
    (match outCmd s slot seq with
     | none => idle s
     | some o =>
       if (paging s slot seq (accOfKind k)).isSome || !(late o.issued) then idle s
       else .next (poisonedRead (noteTimeout s 3 slot) slot seq k))
  | .between die =>
    if !(dieCores s die).reload || !(late (dieCores s die).reloadAt) then idle s
    else .next (withCores (noteTimeout s 4 die) die (beginReload s))

end Sys2Proof.Machine
end

