-- ==== Sys2Proof/Machine/SavedSet.lean ====
section
/-!
DEFINITION. Values of dictionary entries: ranges and joined conditions, the saved set, and the values that stand after a
start-up (R156, R327, R357, R360, R380-R382).
-/
namespace Sys2Proof.Machine

/-! ### Values (R357, R362) -/

/-- An F32 encoding that is no NaN. -/
def notNan (v : Nat) : Bool := decide (v % 2 ^ 31 ≤ 0x7F800000)

/-- The value fits its type: BOOL 0 and 1; F32 no NaN; every other type its width. -/
def typeOk (e : DictEnt) (v : Nat) : Bool :=
  if e.typ = 0x01 then decide (v ≤ 1) else if e.typ = 0x08 then notNan v else decide (v < 2 ^ (8 * e.len))

/-- The value lies within the range and step stated with the entry, or is one of its exceptions. -/
def rangeOk (e : DictEnt) (v : Nat) : Bool :=
  !e.ranged || (decide (e.lo ≤ v ∧ v ≤ e.hi) && (v - e.lo) % e.step == 0) || e.also.contains v

/-- A packed list of eight U16 names no module identifier of 4,096-65,534 (R341). -/
def idsOk (packed : Nat) : Bool :=
  (List.range 8).all (fun i => let m := bits packed (16 * i + 15) (16 * i); decide (m < 4096 ∨ m = 0xFFFF))

/-- The check of a value against its type and range, with the ranges of packed entries. -/
def valueOk (e : DictEnt) (v : Nat) : Bool :=
  typeOk e v && rangeOk e v &&
    (if e.key = 0x802104 ∨ e.key = 0x811006 then idsOk v
     else if e.key = 0x320001 then bits v 31 24 == 0 else true)

/-- The three fields of NM_SPLIT sum to 100, and each is 5 or more (R327). -/
def splitOk (v : Nat) : Bool :=
  let r := bits v 23 16
  let w := bits v 15 8
  let x := bits v 7 0
  decide (r + w + x = 100 ∧ 5 ≤ r ∧ 5 ≤ w ∧ 5 ≤ x)

/-- The share sum of R156. -/
def sharesOk (sweep luthier : Nat) : Bool := decide (sweep + luthier ≤ 60)

/-- Subindices with the share sum. -/
def sweepKey : Nat := 0x300006
def luthierKey : Nat := 0x680005

/-! ### The saved set (R380-R382) -/

/-- A key of the stored values names an entry whose value a SAVE captures: RW, RWI or WO, marked N. -/
def isSaved (k : Nat) : Bool :=
  match entryAt (k / 65536) with
  | none => false
  | some e => e.persist && (e.acc == 1 || e.acc == 2 || e.acc == 3)

/-- KERNEL_CODE of the slots that hold an accepted block. -/
def savedKernels (s : State) : List (Nat × Nat) :=
  (s.kernels.filter (fun k => k.2.valid)).map (fun k => (0x502101 * 65536 + k.1, k.2.block))

/-- What a SAVE captures. Values that equal their Default are not listed. -/
def capture (s : State) : List (Nat × Nat) := s.dict.vals.filter (fun v => isSaved v.1) ++ savedKernels s

/-- The copy that a load takes: the valid one with the higher sequence number. -/
def loadedCopy (d : Dict) : Option SavedCopy :=
  match d.copyA.valid, d.copyB.valid with
  | true, true => some (if d.copyA.seq < d.copyB.seq then d.copyB else d.copyA)
  | true, false => some d.copyA
  | false, true => some d.copyB
  | false, false => none

/-- LOAD_RESULT: 1 with both copies erased, 2 when neither is valid otherwise. -/
def loadCode (d : Dict) : Nat :=
  match loadedCopy d with
  | some _ => 0
  | none => if d.copyA.seq = 0 ∧ d.copyB.seq = 0 then 1 else 2

/-- The share sum of the saved values (R156, R382). -/
def savedShares (vals : List (Nat × Nat)) : Bool :=
  let share (k : Nat) : Nat := (look vals (k * 65536)).getD (defaultOf k)
  sharesOk (share sweepKey) (share luthierKey)

/-- What a copy holds of the entries that a failed share sum joins and that stood at their Default, which a copy does not list. -/
def joinedDefaults (vals : List (Nat × Nat)) : List (Nat × Nat) :=
  if savedShares vals then []
  else ([sweepKey, luthierKey].filter (fun k => (look vals (k * 65536)).isNone)).map (fun k => (k * 65536, defaultOf k))

/-- A saved value stands: its range and its further conditions hold, joined ones on the saved values themselves; in x16 mode
CHAN_SPLIT takes none (R231). -/
def savedOk (s : State) (vals : List (Nat × Nat)) (e : DictEnt) (v : Nat) : Bool :=
  if e.key = 0x502101 then kernelOk v
  else valueOk e v &&
    (if e.key = sweepKey ∨ e.key = luthierKey then savedShares vals
     else if e.key = 0x320001 then splitOk v else if e.key = 0x400002 then twoPorts s else true)

/-- Take one saved value: it stands, it is dropped with its entry, or its Default stands, counted and logged. -/
def loadOne (vals : List (Nat × Nat)) (s : State) (p : Nat × Nat) : State :=
  match entryAt (p.1 / 65536) with
  | none => s
  | some e =>
    if savedOk s vals e p.2 then
      if e.key = 0x502101 then
        { s with kernels := keep (p.1 % 65536) { block := p.2, valid := true, cost := kernelCost p.2 } s.kernels }
      else { s with dict := { s.dict with vals := keep p.1 p.2 s.dict.vals } }
    else
      raise { s with dict := { s.dict with loadDefaulted := min 0xFFFF (s.dict.loadDefaulted + 1) } } 0x0602 1 7 0 (args := [e.key])

/-- Every entry takes the value of a start-up: V entries their Default, saved entries the value of the loaded copy (R360,
R382). -/
def loadSaved (s : State) : State :=
  let code := loadCode s.dict
  let vals := ((loadedCopy s.dict).map (·.vals)).getD []
  let s := { s with kernels := [], dict := { s.dict with vals := [], loadResult := code, loadDefaulted := 0 } }
  let s := (vals ++ joinedDefaults vals).foldl (loadOne vals) s
  if code = 2 then raise s 0x0603 2 7 0 else s

/-- The loaded set as measured (R443): entry key, object, value. -/
def loadedSet (s : State) : List (Nat × Nat × Nat) :=
  (((loadedCopy s.dict).map (·.vals)).getD []).map (fun p => (p.1 / 65536, p.1 % 65536, p.2))

/-- A SAVE whose writing is cut off leaves the copy that it was overwriting invalid (R381). -/
def breakSave (d : Dict) : Dict :=
  if d.saving.isNone then d
  else if d.copyA.valid = false ∨ (d.copyB.valid = true ∧ d.copyA.seq < d.copyB.seq) then
    { d with saving := none, copyA := { seq := max 1 d.copyA.seq, valid := false } }
  else { d with saving := none, copyB := { seq := max 1 d.copyB.seq, valid := false } }

/-! ### Time synchronisation after a load (R350) -/

/-- TIME_MASTER and TIME_PARENT_PORT act as they would when written. -/
def syncTime (s : State) : State :=
  let master := ctl s 0x800003 == 1
  let parent := ctl s 0x800004
  let st := s.time.sync
  let st := if st = .master ∧ !master then .free else if st ≠ .master ∧ parent = 0xFF then .free else st
  let st := if st = .free ∧ master then .master else if st = .free ∧ parent < 8 then .acquire else st
  if st = s.time.sync then s else { s with time := { s.time with sync := st, exch := none, slewLeft := 0, missed := 0 } }

end Sys2Proof.Machine
end

