-- ==== Sys2Proof/Machine/PowerOps.lean ====
section
/-!
DEFINITION. Shared operations of power, reset and start-up: the power state, main stop and main start, warm restart, port
resets, and the sideband outputs (R401, R403, R405, R413-R434, R463, R464).
-/
namespace Sys2Proof.Machine

/-! ### The power state (R413, R435, R436) -/

def pwrCode : PwrState → Nat
  | .a0 => 0
  | .a1 => 1
  | .q1 => 2
  | .q2 => 3
  | .off => 4
  | .starting => 5
  | .failed => 6
  | .tripped => 7

/-- The main rails are on. -/
def railsOn (s : State) : Bool :=
  match s.power.state with
  | .off | .failed | .tripped => false
  | _ => true

/-- The time of the present stay in A1, in ns of the time base (R8). -/
def a1Spent (s : State) : Nat :=
  match s.power.a1Since with
  | some t => s.time.base - t
  | none => 0

/-- Change the power state: time in A1 is counted, and the change is logged. -/
def setPwr (s : State) (st : PwrState) : State :=
  let p := s.power
  if p.state = st then s
  else
    let s' := { s with power := { p with
      state := st, a1Time := p.a1Time + a1Spent s, a1Since := if st = .a1 then some s.time.base else none } }
    raise s' 0x0709 0 (args := [pwrCode p.state, pwrCode st])

/-- Every throttle level is at 64. -/
def levelsFull (t : Throttle) : Bool := t.duty.all (· == 64) && t.meter == 64

/-- A0, or A1 while the cap is engaged (R419). -/
def awake (s : State) : PwrState := if s.power.capOn then .a1 else .a0

/-! ### The event ring (R401) -/

/-- The far-tier ring is lost: its entries at or above LOG_ACK count as lost. -/
def loseRing (s : State) : State :=
  let n := (s.log.ring.filter (fun e => decide (s.log.ack ≤ e.seq))).length
  { s with log := { s.log with ring := [], lost := s.log.lost + n }, power := { s.power with farUp := false } }

/-- The far tier holds the ring: the early ring is copied in order. -/
def readyRing (s : State) : State :=
  { s with log := { s.log with ring := s.log.early ++ s.log.ring, early := [] }, power := { s.power with farUp := true } }

/-! ### Main stop, main start and warm restart (R425, R431, R454) -/

/-- A host port without power. -/
def deadPort (s : State) : HostPort := { held := s.pins.perst }

/-- What every main stop takes away. -/
def powerDown (s : State) : State :=
  let f := freshFill s
  let s := f.1
  let held := s.time.sync == .locked
  let s := { s with
    portA := deadPort s, portB := deadPort s, chans := [], rlocks := [], pinSlots := [], pageReqs := [], indexes := [],
    ring0 := {}, ring1 := {}, queries := [], bridges := [], strums := [], strays := [], dense := { fill := f.2 }, fabric := {},
    sec := { s.sec with farKey := none, dbg := .closed },
    power := { s.power with
      pwrgd := false, pgdSince := none, thr := {}, tokens := 64, tokenPart := 0, tokenFrom := 0, overSteps := 0, belowSince := none, lastStep := none,
      lastRaise := none, capUnmet := false, capOn := false, limit := 1500, throttling := false, lastTherm := none, coolSince := none,
      pumpLost := false, entry := none, returning := none, mainStep := 0 } }
  if held then raise { s with time := { s.time with sync := .holdover, slewLeft := 0, exch := none } } 0x0507 2 else s

/-- Main stop: rails off without draining; LAST_OFF_CAUSE keeps the reason. -/
def mainStop (s : State) (cause : Nat) (st : PwrState) : State :=
  let s := powerDown (loseRing s)
  setPwr { s with power := { s.power with lastOff := cause } } st

/-- Main start: it clears FATAL, and a fence list whose clearing was asked; the entries take their start-up values. -/
def startMain (s : State) : State :=
  let s := { s with
    log := { s.log with isFatal := false, ack := 0, lost := 0 }, ctr := [],
    integ := { s.integ with fenceList := if s.integ.clearNext then [] else s.integ.fenceList, clearNext := false },
    dict := { s.dict with saveState := if s.dict.saving.isSome then 1 else 0, paths := s.dict.paths.map (fun p => { p with sels := [] }) },
    sec := { s.sec with dbgResult := 0, updResult := if s.sec.committing then s.sec.updResult else 0 },
    power := { s.power with a1Time := 0, mainStep := 0, stackOk := 0, farOk := 0 } }
  setPwr (syncTime (loadSaved s)) .starting

/-- PWR_EN was low long enough for a new main start (R470). -/
def enLowEnough (s : State) : Bool :=
  match s.pins.pwrEnLowSince with
  | none => true
  | some t => decide (t + 10000000 ≤ s.time.tick)

/-- A level of a sampled input is taken: it has been stable for 4 ACLK cycles, the present level having been taken at `at_`; without
auxiliary power nothing samples it (R465). -/
def takesLevel (s : State) (stable at_ : Nat) : Bool := !s.pins.aux || (decide (4 ≤ stable) && decide (at_ + 160 ≤ s.time.tick))

/-- Main start may begin from Off: the management firmware runs, and PWR_EN is asserted. -/
def mayMainStart (s : State) : Bool := s.power.state == .off && s.dict.ready && !s.sec.recovery && s.pins.pwrEn

/-- Warm restart: main stop and restart of the management controller. FL0, FL1, the fuses, the identity key and the straps
stand; the events and the time base begin again (R401, R425). -/
def warmRestart (s : State) (cause : Nat) : State :=
  let stays := s.power.state == .tripped || s.power.state == .failed
  let st := if stays then s.power.state else .off
  let off := if stays then s.power.lastOff else 6
  let s := powerDown s
  let d := breakSave s.dict
  let s := { s with
    time := { tick := s.time.tick }, ctr := [], kernels := [],
    dict := { copyA := d.copyA, copyB := d.copyB, saveCount := d.saveCount, sent := d.sent, icmp := d.icmp },
    log := { fatal := s.log.fatal },
    integ := { fenceList := s.integ.fenceList, clearNext := s.integ.clearNext },
    sec := { s.sec with
      recovery := false, staged := [], committing := false, updResult := 0, meas := List.replicate 8 (List.replicate 48 0),
      nonce := none, quote := none, challenge := none, dbgResult := 0 },
    power := { s.power with state := st, lastOff := off, step := 0, farUp := false, a1Since := none, a1Time := 0, stackOk := 0, farOk := 0 } }
  raise s 0x070C 1 (args := [cause])

/-! ### Port resets (R426) -/

/-- The slots of a port that are not FREE. -/
def openSlots (s : State) (p : Port) : List Nat := (s.chans.filter (fun c => portOf s c.1 == p && c.2.state != .free)).map Prod.fst

/-- One slot of a port that is reset. -/
def resetSlot (s : State) (slot : Nat) : State :=
  let c := chan s slot
  let s := if c.state = .active ∨ c.state = .error then abortPoint s slot [] false else s
  let c := resetQueues (chan s slot)
  setChan s slot { c with state := .free, cfg := {}, gen := if isAdmin s slot then c.gen else nextGen c.gen,
                          coalTime := 0, coalCount := 1 }

/-- A port reset: `cause` is the code that PORT_RESET gives, 0 where the manual lists none. `held` says that the port stays
down. -/
def portResetOp (s : State) (p : Port) (cause : Nat) (held : Bool) : State :=
  let s := (openSlots s p).foldl resetSlot s
  let s := withdraw s (fun r => r.port == p)
  let s := setPort s p { held := held, mb := (port s p).mb }
  if cause = 0 then s else raise s 0x070B 1 (args := [portNo p, cause])

/-- Both ports that the link mode serves. -/
def resetPorts (s : State) (cause : Nat) (held : Bool) : State :=
  let s := portResetOp s .a cause held
  if twoPorts s then portResetOp s .b cause held else s

/-- DEV_STATUS.READY: the link is up, and under IDE_REQUIRED its stream is secure (R433, R445). -/
def refreshReady (s : State) : State :=
  let f (h : HostPort) : HostPort := { h with ready := h.linkUp && (ctl s 0xA00020 == 0 || h.ideSecure) }
  { s with portA := f s.portA, portB := f s.portB }

/-! ### Sideband outputs (R405, R434, R463, R464) -/

/-- The outputs follow their rules: auxiliary power is there, the management controller has started, and the TAP does not hold
the pins (R449). -/
def drives (s : State) : Bool := s.pins.aux && s.dict.ready && !s.tap.pinsTaken

/-- ALERT_N is asserted: FATAL, or an unconsumed entry of the severity. -/
def alertLow (s : State) : Bool :=
  drives s && (s.log.isFatal ||
    (s.log.ring ++ s.log.early).any (fun e => decide (s.log.ack ≤ e.seq ∧ ctl s 0x900005 ≤ e.severity)))

/-- THERMTRIP_N is driven low. -/
def thermtripLow (s : State) : Bool := drives s && s.power.state == .tripped && s.power.trip == some .thermal

/-- PWRGD_OUT is high. -/
def pwrgdHigh (s : State) : Bool := drives s && s.power.pwrgd

/-- LED_STAT[1:0]. -/
def ledStat (s : State) : Nat :=
  if !(drives s) then 0
  else if s.log.isFatal then 3
  else
    match s.power.state with
    | .off => 0
    | .starting | .q1 | .q2 => 1
    | .a0 | .a1 => 2
    | .failed | .tripped => 3

end Sys2Proof.Machine
end

