-- ==== Sys2Proof/Machine/Sha384.lean ====
section
/-!
DEFINITION. SHA-384, by which measurement registers are extended (R443). The manual names the function; what it computes is FIPS 180-4
(PRESUMED, log entry 137).
-/
namespace Sys2Proof.Machine

/-! ### Words of 64 bits -/

def sum64 (l : List Nat) : Nat := l.foldl (fun a b => (a + b) % 2 ^ 64) 0
def rotr64 (x n : Nat) : Nat := (x >>> n) ||| ((x <<< (64 - n)) % 2 ^ 64)

/-- The mixing functions: three words, combined by exclusive or. -/
def xor3 (a b c : Nat) : Nat := a ^^^ b ^^^ c
def shaBig0 (x : Nat) : Nat := xor3 (rotr64 x 28) (rotr64 x 34) (rotr64 x 39)
def shaBig1 (x : Nat) : Nat := xor3 (rotr64 x 14) (rotr64 x 18) (rotr64 x 41)
def shaSmall0 (x : Nat) : Nat := xor3 (rotr64 x 1) (rotr64 x 8) (x >>> 7)
def shaSmall1 (x : Nat) : Nat := xor3 (rotr64 x 19) (rotr64 x 61) (x >>> 6)
def shaChoose (x y z : Nat) : Nat := (x &&& y) ^^^ ((x ^^^ (2 ^ 64 - 1)) &&& z)
def shaMajority (x y z : Nat) : Nat := xor3 (x &&& y) (x &&& z) (y &&& z)

/-! ### Constants: the first 64 bits of the fractional parts of roots of primes -/

def shaKeys0 : List Nat :=
  [0x428a2f98d728ae22, 0x7137449123ef65cd, 0xb5c0fbcfec4d3b2f, 0xe9b5dba58189dbbc, 0x3956c25bf348b538,
   0x59f111f1b605d019, 0x923f82a4af194f9b, 0xab1c5ed5da6d8118, 0xd807aa98a3030242, 0x12835b0145706fbe,
   0x243185be4ee4b28c, 0x550c7dc3d5ffb4e2, 0x72be5d74f27b896f, 0x80deb1fe3b1696b1, 0x9bdc06a725c71235,
   0xc19bf174cf692694]
def shaKeys1 : List Nat :=
  [0xe49b69c19ef14ad2, 0xefbe4786384f25e3, 0x0fc19dc68b8cd5b5, 0x240ca1cc77ac9c65, 0x2de92c6f592b0275,
   0x4a7484aa6ea6e483, 0x5cb0a9dcbd41fbd4, 0x76f988da831153b5, 0x983e5152ee66dfab, 0xa831c66d2db43210,
   0xb00327c898fb213f, 0xbf597fc7beef0ee4, 0xc6e00bf33da88fc2, 0xd5a79147930aa725, 0x06ca6351e003826f,
   0x142929670a0e6e70]
def shaKeys2 : List Nat :=
  [0x27b70a8546d22ffc, 0x2e1b21385c26c926, 0x4d2c6dfc5ac42aed, 0x53380d139d95b3df, 0x650a73548baf63de,
   0x766a0abb3c77b2a8, 0x81c2c92e47edaee6, 0x92722c851482353b, 0xa2bfe8a14cf10364, 0xa81a664bbc423001,
   0xc24b8b70d0f89791, 0xc76c51a30654be30, 0xd192e819d6ef5218, 0xd69906245565a910, 0xf40e35855771202a,
   0x106aa07032bbd1b8]
def shaKeys3 : List Nat :=
  [0x19a4c116b8d2d0c8, 0x1e376c085141ab53, 0x2748774cdf8eeb99, 0x34b0bcb5e19b48a8, 0x391c0cb3c5c95a63,
   0x4ed8aa4ae3418acb, 0x5b9cca4f7763e373, 0x682e6ff3d6b2b8a3, 0x748f82ee5defb2fc, 0x78a5636f43172f60,
   0x84c87814a1f0ab72, 0x8cc702081a6439ec, 0x90befffa23631e28, 0xa4506cebde82bde9, 0xbef9a3f7b2c67915,
   0xc67178f2e372532b]
def shaKeys4 : List Nat :=
  [0xca273eceea26619c, 0xd186b8c721c0c207, 0xeada7dd6cde0eb1e, 0xf57d4f7fee6ed178, 0x06f067aa72176fba,
   0x0a637dc5a2c898a6, 0x113f9804bef90dae, 0x1b710b35131c471b, 0x28db77f523047d84, 0x32caab7b40c72493,
   0x3c9ebe0a15c9bebc, 0x431d67c49c100d4c, 0x4cc5d4becb3e42b6, 0x597f299cfc657e2a, 0x5fcb6fab3ad6faec,
   0x6c44198c4a475817]
def shaKeys : List Nat := shaKeys0 ++ shaKeys1 ++ shaKeys2 ++ shaKeys3 ++ shaKeys4

/-- The hash value before the first block. -/
def shaStart : List Nat :=
  [0xcbbb9d5dc1059ed8, 0x629a292a367cd507, 0x9159015a3070dd17, 0x152fecd8f70e5939,
   0x67332667ffc00b31, 0x8eb44a8768581511, 0xdb0c2e0d64f98fa7, 0x47b5481dbefa4fa4]

/-! ### Blocks of 128 bytes -/

/-- The words of a block, most significant byte first. -/
def beNat (l : List Byte) : Nat := leNat l.reverse
def blockWords (b : List Byte) : List Nat := (List.range 16).map (fun i => beNat (slice b (8 * i) 8))

/-- The next word of the schedule; `l` holds the earlier ones, the newest first. -/
def nextWord (l : List Nat) : Nat := sum64 [shaSmall1 (nth l 1 0), nth l 6 0, shaSmall0 (nth l 14 0), nth l 15 0]

/-- `n` more words. -/
def moreWords : Nat → List Nat → List Nat
  | 0, l => l
  | n + 1, l => moreWords n (nextWord l :: l)

/-- The 80 words of the schedule. -/
def schedule (b : List Byte) : List Nat := (moreWords 64 (blockWords b).reverse).reverse

/-- One round: the eight working words with a constant and a word of the schedule. -/
def shaRound (v : List Nat) (kw : Nat × Nat) : List Nat :=
  match v with
  | [a, b, c, d, e, f, g, h] =>
    let t1 := sum64 [h, shaBig1 e, shaChoose e f g, kw.1, kw.2]
    let t2 := sum64 [shaBig0 a, shaMajority a b c]
    [sum64 [t1, t2], a, b, c, sum64 [d, t1], e, f, g]
  | _ => v

/-- The hash value after a block. -/
def shaBlock (h : List Nat) (b : List Byte) : List Nat :=
  List.zipWith (fun x y => (x + y) % 2 ^ 64) h ((shaKeys.zip (schedule b)).foldl shaRound h)

/-- The message with a one bit, zeros, and its length in bits in 16 bytes. -/
def shaPad (m : List Byte) : List Byte :=
  m ++ [0x80] ++ List.replicate ((239 - m.length % 128) % 128) 0 ++ (leBytes 16 (8 * m.length)).reverse

/-- Whole blocks, in order. -/
def shaBlocks : Nat → List Nat → List Byte → List Nat
  | 0, h, _ => h
  | n + 1, h, m => shaBlocks n (shaBlock h (m.take 128)) (m.drop 128)

/-- SHA-384: the first six words of the hash value, most significant byte first. -/
def sha384 (m : List Byte) : List Byte :=
  let p := shaPad m
  (((shaBlocks (p.length / 128) shaStart p).take 6).map (fun w => (leBytes 8 w).reverse)).flatten

end Sys2Proof.Machine
end

