-- ==== Sys2Proof/Machine/Startup.lean ====
section
/-!
DEFINITION. Auxiliary power, straps, main start, PWR_EN, PERST_N, port resets and host links (R411, R415, R425-R433, R441,
R443, R464, R467). While the TAP holds the pins, no change of an input is seen (R449).
-/
namespace Sys2Proof.Machine

/-! ### Measurement and image choice (R441-R443) -/

/-- Extend a measurement register with a digest. -/
def extend (s : State) (i : Nat) (d : List Byte) : State :=
  { s with sec := { s.sec with meas := modAt s.sec.meas i (fun m => sha384 (m ++ d)) } }

/-- A slot passes the check. -/
def slotPasses (s : State) (f : FwImage) : Bool := f.valid && decide (s.sec.secVersion ≤ f.sec ∧ f.sec ≤ 64)

/-- The slot that the boot ROM starts: 0 A, 1 B. -/
def bootSlot (s : State) : Option Nat :=
  match slotPasses s s.sec.slotA, slotPasses s s.sec.slotB with
  | true, true => some (if s.sec.slotA.version < s.sec.slotB.version then 1 else 0)
  | true, false => some 0
  | false, true => some 1
  | false, false => none

def imageOf (s : State) (n : Nat) : FwImage := if n = 0 then s.sec.slotA else s.sec.slotB

/-! ### Auxiliary power (R425, R429, R430, R464) -/

/-- What survives without auxiliary power: flash FL0 and FL1, the fuses, and the levels at the connector, TRST_N
among them. -/
def unpowered (s : State) : State :=
  let d := breakSave s.dict
  { pending := s.pending, free := s.free, childNext := s.childNext, writes := s.writes, msi := s.msi,
    pins := { s.pins with aux := false, sampled := false, modId := 0, split := false,
                          pumpLowSince := none, pumpHighSince := none, pwrEnLowSince := none,
                          pwrEnAt := 0, perstAt := 0, pumpAt := 0 },
    power := { lastOff := s.power.lastOff },
    dict := { copyA := d.copyA, copyB := d.copyB, saveCount := d.saveCount, sent := d.sent, icmp := d.icmp },
    log := { fatal := s.log.fatal },
    integ := { fenceList := s.integ.fenceList, clearNext := s.integ.clearNext },
    tap := { inReset := s.tap.inReset },
    sec := { slotA := s.sec.slotA, slotB := s.sec.slotB, pref := s.sec.pref, secVersion := s.sec.secVersion,
             keysDrawn := s.sec.keysDrawn, openCount := s.sec.openCount } }

/-- AUX_POWER_ON: 3.3 V is applied; the time base starts at 0, and nothing volatile stands (R425). -/
def execAuxPowerOn (modId : Nat) (split : Bool) (s : State) : Result :=
  if s.pins.aux then idle s
  else
    let s := unpowered s
    .next { s with pins := { s.pins with aux := true, strapModId := modId, strapSplit := split } }

/-- STRAP_SAMPLE: the straps are sampled once, 2 ms after auxiliary power-on (R429). -/
def execStrapSample (s : State) : Result :=
  if !s.pins.aux || s.pins.sampled || decide (s.time.tick < 2000000) then idle s
  else
    .next { s with pins := { s.pins with sampled := true, modId := s.pins.strapModId, split := s.pins.strapSplit },
                   power := { s.power with step := 1 } }

/-- AUX_POWER_LOSS: the always-on island stops. -/
def execAuxPowerLoss (s : State) : Result := if s.pins.aux then .next (unpowered s) else idle s

/-- Steps 1 to 4 of R430 after the straps, where an image passes its check. -/
def bootImage (s : State) (n : Nat) : State :=
  let f := imageOf s n
  let s := { s with sec := { s.sec with run := n, secVersion := max s.sec.secVersion f.sec } }
  let s := if n = s.sec.pref then s else raise s 0x0801 2 7 0 (args := [n])
  let s := loadSaved (extend s 1 f.digest)
  let s := syncTime (extend s 3 (Config.savedSetDigest (loadedSet s)))
  let s := { s with dict := { s.dict with ready := true }, power := { s.power with step := 4 } }
  if mayMainStart s then startMain s else s

/-- The recovery service (R441): the module stays in Off, every N entry reads its Default. -/
def bootRecovery (s : State) : State :=
  let s := raise s 0x0114 3 7 0 (args := [3])
  { s with sec := { s.sec with recovery := true }, dict := { s.dict with ready := true, vals := [], loadResult := 1, loadDefaulted := 0 },
           power := { s.power with step := 2 } }

/-- AUX_STARTUP_DONE: the identity key, the measurements, the image choice, the saved set, and DICT_READY (R430, R441, R443).
The identity key is derived from the fused secret at auxiliary power-on, and stands across a warm restart. -/
def execAuxStartupDone (s : State) : Result :=
  if !s.pins.aux || !s.pins.sampled || s.dict.ready then idle s
  else
    let s := if s.sec.identity.isSome then s else { s with sec := { s.sec with identity := some .derived } }
    let s := extend s 0 Config.romDigest
    match bootSlot s with
    | some n => .next (bootImage s n)
    | none => .next (bootRecovery s)

/-! ### PWR_EN (R415, R422, R424, R425, R432) -/

/-- The trip limit and the throttle limit of a sensor, in 0.01 °C; the coolant sensors have none (R421, R422). -/
def tripLimit (s : State) (n : Nat) : Option Int :=
  if n < 10 then some (100 * (ctl s 0x210006 : Int)) else if n < 26 then some (100 * (ctl s 0x210007 : Int))
  else if n < 58 then some (100 * (ctl s 0x210008 : Int)) else none
def throttleLimit (s : State) (n : Nat) : Option Int :=
  if n < 10 then some (100 * (ctl s 0x210003 : Int)) else if n < 26 then some (100 * (ctl s 0x210004 : Int))
  else if n < 58 then some (100 * (ctl s 0x210005 : Int)) else none

def tempOf (s : State) (n : Nat) : Int := nth s.power.temps n 0

/-- Every sensor that has a limit lies `by_` or more below it. -/
def allBelow (s : State) (limit : Nat → Option Int) (margin : Int) : Bool :=
  (List.range 58).all (fun n => match limit n with
    | some l => decide (tempOf s n + margin ≤ l)
    | none => true)

/-- TRIPPED ends: PWR_EN is low, and after a thermal trip every sensor has cooled. -/
def endTrip (s : State) : State :=
  if s.power.state = .tripped ∧ s.pins.pwrEn = false ∧
      (s.power.trip = some .overCurrent ∨ allBelow s (tripLimit s) 1500 = true) then
    setPwr { s with power := { s.power with trip := none } } .off
  else s

/-- PWR_EN_RISE: the high level, stable for `stable` ACLK cycles, is taken. Main start begins from Off, once PWR_EN was low for 10 ms
(R415, R465, R470). -/
def execPwrEnRise (stable : Nat) (s : State) : Result :=
  if s.pins.pwrEn || s.tap.pinsTaken || !(takesLevel s stable s.pins.pwrEnAt) then idle s
  else
    let long := enLowEnough s
    let s := { s with pins := { s.pins with pwrEn := true, pwrEnLowSince := none, pwrEnAt := s.time.tick } }
    .next (if s.pins.aux && long && mayMainStart s then startMain s else s)

/-- A sensor that has reached its trip limit. -/
def tripSensor (s : State) : Option Nat :=
  (List.range 58).find? (fun n => match tripLimit s n with
    | some l => decide (l ≤ tempOf s n)
    | none => false)

/-- A temperature as an argument of an event. -/
def tempArg (s : State) (n : Nat) : Nat := encodeSigned 64 (tempOf s n)

/-- THERMAL_TRIP is logged. -/
def logTrip (s : State) (sensor : Nat) : State := raise s 0x0702 3 (args := [sensor, tempArg s sensor])

/-- The trip: every main rail goes off, THERMAL_TRIP is written, and the module is in TRIPPED (R422). -/
def thermalTrip (s : State) (sensor : Nat) : State :=
  let s := mainStop (logTrip (loseRing s) sensor) 4 .tripped
  { s with power := { s.power with trip := some .thermal, tripAt := s.time.tick } }

/-- The rails stopped in this ACLK cycle; a trip limit that is reached in it comes first (R439). -/
def noteStop (s : State) : State := { s with power := { s.power with stopAt := some s.time.tick } }

/-- A trip that has been reached comes before a falling PWR_EN and before a start-up failure (R439, R475). -/
def tripFirst (s : State) : State :=
  match tripSensor s with
  | some n => if railsOn s then thermalTrip s n else s
  | none => s

/-- An entry that was reached in the ACLK cycle in which PWR_EN falls never completed: the completion entry of an entry to Off is
not written (R439). -/
def undoEntry (s : State) : State :=
  match s.power.offDone with
  | none => s
  | some d =>
    if d.tick ≠ s.time.tick ∨ s.power.state ≠ .off then s
    else { s with ctr := d.ctr, writes := s.writes.drop (s.writes.length - d.writes), msi := s.msi.drop (s.msi.length - d.msi),
                  power := { s.power with lastOff := 1, offDone := none } }

/-- PWR_EN_FALL: the low level, stable for `stable` ACLK cycles, is taken: main stop; FAILED ends, and TRIPPED where its conditions hold (R422, R424, R425, R432). A trip limit that has been
reached comes first (R475). -/
def execPwrEnFall (stable : Nat) (s : State) : Result :=
  if !s.pins.pwrEn || s.tap.pinsTaken || !(takesLevel s stable s.pins.pwrEnAt) then idle s
  else if !s.pins.aux then .next { s with pins := { s.pins with pwrEn := false } }
  else
    let s := undoEntry (tripFirst s)
    let s := { s with pins := { s.pins with pwrEn := false, pwrEnLowSince := some s.time.tick, pwrEnAt := s.time.tick } }
    if railsOn s then .next (noteStop (mainStop s 1 .off))
    else if s.power.state = .failed then .next (setPwr s .off)
    else .next (endTrip s)

/-! ### Main start (R431, R432) -/

/-- Step 3: the firmware of HD0, HD1 and CD0-CD7 is measured. -/
def measureDies (s : State) : State := (List.range 10).foldl (fun s d => extend s 2 (Config.dieFirmwareDigest d)) s

/-- Step 6 on one die: fenced and failed cores serve nothing; spares take the lowest logical numbers left without a core. -/
def mapCores (die : Nat) (fenced failed : List Nat) : DieCores :=
  let stateOf (p : Nat) : PhysState :=
    if fenced.contains (66 * die + p) then .fenced
    else if failed.contains (66 * die + p) then .failedTest
    else if p < 64 then .active else .spareFree
  let phys := (List.range 66).map stateOf
  let put (d : DieCores) (c : Nat) : DieCores :=
    if nth d.phys c .fenced = .active then { d with map := d.map.set c (some c) }
    else
      match [64, 65].find? (fun p => nth d.phys p .fenced == .spareFree) with
      | some p => { d with map := d.map.set c (some p), phys := d.phys.set p .spareInService }
      | none => { d with map := d.map.set c none }
  (List.range 64).foldl put { phys := phys, map := List.replicate 64 none }

/-- Step 6. -/
def selfTest (s : State) (failed : List Nat) : State :=
  extend { s with integ := { s.integ with dies := (List.range 8).map (fun d => mapCores d s.integ.fenceList failed) } } 4
    (Config.fenceListDigest s.integ.fenceList)

/-- Fabric ports with PORT_ENABLE 1 begin training (R431, R338). -/
def trainPorts (s : State) : State :=
  (List.range 8).foldl (fun s i =>
    if ctlObj s 0x801101 i = 1 then setFabPort s i { fabPort s i with state := .training, since := s.time.tick } else s) s

/-- Step 8: the module is in A0. -/
def enterA0 (s : State) : State :=
  let s := { s with power := { s.power with pwrgd := true, pgdSince := some s.time.tick, idleSince := s.time.tick } }
  trainPorts (setPwr s .a0)

/-- MAIN_START_STEP_DONE: the next step of R431 is done; `failedCores` holds the cores that fail self-test. Nothing is
defined where PERST_N is not asserted when PWRGD_OUT would be (R433; safe, log entry 80). -/
def execMainStartStepDone (failedCores : List Nat) (s : State) : Result :=
  if s.power.state ≠ .starting then idle s
  else
    let n := s.power.mainStep + 1
    let s := { s with power := { s.power with mainStep := n, step := 10 + n } }
    match n with
    | 3 => .next (measureDies s)
    | 5 => .next { s with power := { s.power with stackOk := 0xFFFF, farOk := 0xFFFFFFFF } }
    | 6 => .next (selfTest s failedCores)
    | 7 =>
      .next (readyRing { s with sec := { s.sec with keysDrawn := s.sec.keysDrawn + 1, farKey := some (s.sec.keysDrawn + 1) } })
    | 8 => if s.pins.perst then .next (enterA0 s) else .fault (.notDefined 433)
    | _ => .next s

/-- STARTUP_FAILED: start-up halts in FAILED (R432); a trip limit that has been reached comes first (R439). -/
def execStartupFailed (unit stackOk farOk : Nat) (s : State) : Result :=
  if s.power.state ≠ .starting then idle s
  else if (tripSensor s).isSome then .next (tripFirst s)
  else
    let step := s.power.mainStep + 1
    let s := raise (loseRing s) 0x070A 3 (args := [step, unit])
    let s := mainStop s 5 .failed
    .next (noteStop { s with power := { s.power with stackOk := stackOk, farOk := farOk } })

/-! ### PERST_N, port resets and links (R426, R427, R433) -/

/-- PERST_N_ASSERT: the low level, stable for `stable` ACLK cycles, is taken (R465): a warm restart while FATAL is set; else both ports are reset and held down. During an erasure it is held
until the erasure ends (R455). -/
def execPerstNAssert (stable : Nat) (s : State) : Result :=
  if s.pins.perst || s.tap.pinsTaken || !(takesLevel s stable s.pins.perstAt) then idle s
  else
    let s := { s with pins := { s.pins with perst := true, perstAt := s.time.tick } }
    if !s.pins.aux then .next s
    else if s.sec.dbg = .erasing then .next { s with sec := { s.sec with perstHeld := true } }
    else if s.log.isFatal then .next (warmRestart s 1)
    else if railsOn s then .next (resetPorts s 3 true)
    else .next { s with portA := { s.portA with held := true }, portB := { s.portB with held := true } }

/-- PERST_N_RELEASE: the high level, stable for `stable` ACLK cycles, is taken (R465): 100 ms after PWRGD_OUT at the earliest; earlier nothing is defined (R433). -/
def execPerstNRelease (stable : Nat) (s : State) : Result :=
  if !s.pins.perst || s.tap.pinsTaken || !(takesLevel s stable s.pins.perstAt) then idle s
  else
    match s.power.pgdSince with
    | none => .fault (.notDefined 433)
    | some t =>
      if s.time.tick < t + 100000000 then .fault (.notDefined 433)
      else
        let s := { s with pins := { s.pins with perst := false, perstAt := s.time.tick } }
        if s.sec.dbg = .erasing then .next s
        else .next { s with portA := { s.portA with held := false }, portB := { s.portB with held := false } }

/-- PORT_RESET: hot reset (1), link disable or link down (2) of a port whose link is up. -/
def execPortReset (p : Port) (cause : Nat) (s : State) : Result :=
  if (port s p).linkUp then .next (portResetOp s p cause false) else idle s

/-- LINK_UP: a released port's link has trained; READY follows, under IDE_REQUIRED once the stream is secure (R433, R445). -/
def execLinkUp (p : Port) (s : State) : Result :=
  let h := port s p
  let live := running s || quiescent s
  if h.held || h.linkUp || !live || (p == .b && !(twoPorts s)) then idle s
  else .next (setPort s p { h with linkUp := true, ready := ctl s 0xA00020 == 0 || h.ideSecure })

end Sys2Proof.Machine
end

