-- ==== Sys2Proof/Machine/PowerStates.lean ====
section
/-!
DEFINITION. SET_POWER_STATE, entry to Q1, Q2 and Off, and the return to A0 (R225, R413-R415).
-/
namespace Sys2Proof.Machine

/-- The state that TARGET_STATE names (R204). -/
def targetState (n : Nat) : Option PwrState :=
  match n with
  | 0 => some .a0
  | 2 => some .q1
  | 3 => some .q2
  | 4 => some .off
  | _ => none

/-- Entry begins: it is in progress. -/
def beginEntry (s : State) (slot seq : Nat) (t : PwrState) : State :=
  let s := setStage s slot seq .running
  { s with power := { s.power with entry := some { target := t, slot := slot, seq := seq, since := s.time.tick } } }

/-- A return from Q1 or Q2 begins for a command. -/
def beginReturn (s : State) (slot seq : Nat) : State :=
  let s := setStage s slot seq .running
  { s with power := { s.power with returning := some (some (slot, seq)) } }

/-- SET_POWER_STATE. While a return runs, the command of another waits; to A0 it joins a return that a doorbell started. -/
def execSetPowerState (slot seq : Nat) (s : State) : Result :=
  match admitting s slot seq 0x86 with
  | none => idle s
  | some o =>
    match targetState (aState o.word) with
    | none => .next (finishWith s slot seq .invalid)
    | some t =>
      if !(reservedOk o.word) || s.power.entry.isSome then .next (finishWith s slot seq .invalid)
      else if running s then
        if t = .a0 then .next (finishWith s slot seq .ok) else .next (beginEntry s slot seq t)
      else if quiescent s then
        match s.power.returning with
        | some none => if t = .a0 then .next (beginReturn s slot seq) else idle s
        | some (some _) => idle s
        | none =>
          if t = .a0 then .next (beginReturn s slot seq)
          else if t = s.power.state then .next (finishWith s slot seq .ok)
          else .next (beginEntry s slot seq t)
      else idle s

/-- No command but the SET_POWER_STATE itself is outstanding on any channel, and no ACTIVE channel has one to fetch. -/
def onlyEntryLeft (s : State) (e : EntryRec) : Bool :=
  s.chans.all (fun c => c.2.cmds.all (fun o => c.1 == e.slot && o.seq == e.seq) && (c.2.state != .active || unfetched c.2 == 0))

/-- The luthier enters QUIET (R154). -/
def goQuiet (s : State) : State :=
  let s := fixPasses s
  { s with indexes := s.indexes.map (fun x => if x.2.luthier = .drop then x else (x.1, { x.2 with luthier := .quiet })) }

/-- POWER_COMMIT_POINT: nothing else is outstanding, and no doorbell has been left for ENTRY_IDLE_TIME. -/
def execPowerCommitPoint (s : State) : Result :=
  match s.power.entry with
  | none => idle s
  | some e =>
    if e.committed || !(onlyEntryLeft s e) || decide (s.time.tick < s.power.idleSince + ctl s 0x400006) then idle s
    else .next (goQuiet { s with power := { s.power with entry := some { e with committed := true, commitAt := s.time.tick } } })

/-- The luthier has drained: accepted writes are applied or have failed, and no batch is left to publish (R154). -/
def luthierDrained (s : State) : Bool :=
  s.indexes.all (fun x => x.2.open_.isNone && x.2.closed.isEmpty && x.2.parts.all (fun p =>
      p.scan.isNone && p.chains.all (fun c => c.2.batch.isNone)))
    && (s.ring0.entries ++ s.ring1.entries).all (fun j => !(j.state == 1 || j.state == 2))

/-- POWER_ENTRY_ABANDON: ENTRY_DRAIN_LIMIT has passed, and the commit point or the end of the drain has not come. -/
def execPowerEntryAbandon (s : State) : Result :=
  match s.power.entry with
  | none => idle s
  | some e =>
    if decide (s.time.tick < e.since + ctl s 0x400007 * 1000000) || (e.committed && luthierDrained s) then idle s
    else .next (dropEntry (finishWith s e.slot e.seq .aborted))

/-- Every walker context is empty and no stream moves (R414). -/
def atRest (s : State) : Bool := s.queries.isEmpty && s.dense.runs.isEmpty && s.dense.waiting.isEmpty

/-- Q2: the compute dies and bridge filters lose what they hold (R413). -/
def darken (s : State) : State :=
  let f := freshFill s
  { f.1 with bridges := [], dense := { f.1.dense with cores := [], side := [], fill := f.2 } }

/-- The state is reached. -/
def noteReached (s : State) : State := { s with power := { s.power with reachedAt := some s.time.tick } }

/-- The completion entry of a command, before the rails go off (R414); none while its queue has no room for it. -/
def completeNow (s : State) (slot seq lag : Nat) : Option State :=
  match execCompletionWrite slot seq lag (finishWith s slot seq .ok) with
  | .next t => if (outCmd t slot seq).isNone then some t else none
  | _ => none

/-- Entry to Off ends, the completion entry being written. -/
def enterOff (s t : State) : State :=
  let d : OffDone := { tick := s.time.tick, ctr := s.ctr, writes := s.writes.length, msi := s.msi.length }
  let t := mainStop t 2 .off
  { t with power := { t.power with offDone := some d } }

/-- POWER_ENTRY_COMPLETE: the state is reached once the luthier has drained and everything is at rest. -/
def execPowerEntryComplete (lag : Nat) (s : State) : Result :=
  match s.power.entry with
  | none => idle s
  | some e =>
    if !e.committed || !(luthierDrained s) || !(atRest s) then idle s
    else
      let r := { s with power := { s.power with entry := none } }
      match e.target with
      | .off =>
        match completeNow r e.slot e.seq lag with
        | some t => .next (enterOff s t)
        | none => idle s
      | .q2 => .next (finishWith (noteReached (setPwr (darken r) .q2)) e.slot e.seq .ok)
      | t => .next (finishWith (noteReached (setPwr r t)) e.slot e.seq .ok)

/-- POWER_RETURN_COMPLETE: the hub stores are reloaded, the luthier leaves QUIET, and fetching resumes (R415). -/
def execPowerReturnComplete (s : State) : Result :=
  match s.power.returning with
  | none => idle s
  | some r =>
    if !(quiescent s) then idle s
    else
      let s := touch { s with power := { s.power with returning := none } }
      let s := leaveQuiet (setPwr s (awake s))
      match r with
      | some c => .next (finishWith s c.1 c.2 .ok)
      | none => .next s

end Sys2Proof.Machine
end

