-- ==== Sys2Proof/Machine/PowerControl.lean ====
section
/-!
DEFINITION. The power monitor, the cap loop, metering, thermal limits, trips and the coolant signal (R416-R424, R439).
-/
namespace Sys2Proof.Machine

/-! ### The monitor (R416, R420) -/

/-- P_avg is the mean of the samples of the last 100 µs; comparisons with it are exact. -/
def avgAbove (s : State) (watts : Nat) : Bool := decide (watts * s.power.samples.length < sumOf s.power.samples)
def avgBelow (s : State) (watts : Nat) : Bool := decide (sumOf s.power.samples < watts * s.power.samples.length)
def avgWatts (s : State) : Nat := sumOf s.power.samples / max 1 s.power.samples.length

/-- The cap limit in force (R24, R421). -/
def capInForce (s : State) : Nat := min s.power.limit (ctl s 0x200003)

/-- Dies that run a die program. -/
def runningDies (s : State) : List Nat := (List.range 8).filter (fun d => (runOfDie s d).isSome)

/-- Some level has left 64 through the cap: the module is in A1, and the cap is logged once (R419). -/
def engage (s : State) : State :=
  if !s.power.capOn && !(levelsFull s.power.thr) then
    raise (setPwr { s with power := { s.power with capOn := true } } .a1) 0x0704 0 (args := [avgWatts s, ctl s 0x201001])
  else s

def setDuty (s : State) (dies : List Nat) (f : Nat → Nat) : State :=
  setDuties s (dies.foldl (fun l d => modAt l d f) s.power.thr.duty)
def setMeter (s : State) (m : Nat) : State :=
  { s with power := { s.power with
      thr := { s.power.thr with meter := m }, tokens := min 64 s.power.tokens,
      tokenPart := if s.power.thr.meter < 64 then tokenDue s else 0, tokenFrom := s.time.tick } }

/-- Every level stands at its floor, and P_avg still exceeds the limit: it is logged once (R419). -/
def capUnmet (s : State) : State :=
  if s.power.capUnmet then s else raise { s with power := { s.power with capUnmet := true } } 0x0706 1 (args := [avgWatts s])

/-- POWER_SAMPLE: P_fast and P_avg; above 1,750 W every running die goes to d = 4 and m to 1 (R416, R420). A loop step of the same
ACLK cycle starts from these levels, which are the lowest (R439). -/
def execPowerSample (watts : Nat) (s : State) : Result :=
  if !s.pins.aux then idle s
  else
    let s := { s with power := { s.power with samples := (watts :: s.power.samples).take 100 } }
    let below := avgBelow s (capInForce s - 30)
    let s := { s with power := { s.power with belowSince := if below then some (s.power.belowSince.getD s.time.tick) else none } }
    if 1750 < watts ∧ running s then
      let s := engage (setMeter (setDuty s (runningDies s) (fun _ => 4)) 1)
      .next (if s.power.lastStep = some s.time.tick ∧ s.power.overSteps ≠ 0 then capUnmet s else s)
    else .next s

/-! ### The cap loop (R419) -/

/-- A loop step lowers d of every running die by 1, or m. -/
def canLowerDuty (s : State) : Bool := (runningDies s).any (fun d => decide (4 < nth s.power.thr.duty d 64))
def canLowerMeter (s : State) : Bool := decide (ctl s 0x200006 < s.power.thr.meter)
def lowerDuty (s : State) : State := setDuty s (runningDies s) (fun d => max 4 (d - 1))
def lowerMeter (s : State) : State := setMeter s (s.power.thr.meter - 1)

/-- The part of a draw that `n` of its `n + m` cycles or beats take; with neither there is none. -/
def drawPart (watts n m : Nat) : Rat := (watts * n : Rat) / (n + m : Rat)

/-- The powers of dense and of search work above the fixed draw (R419). -/
def densePower (l : List Draw) : Rat := (l.map (fun d => drawPart d.watts d.dense d.search)).foldr (· + ·) 0
def searchPower (l : List Draw) : Rat := (l.map (fun d => drawPart d.watts d.search d.dense)).foldr (· + ·) 0

/-- Search work takes more than ARB_SEARCH_SHARE of the power above the fixed draw (R24, R419). -/
def searchOver (s : State) (l : List Draw) : Bool :=
  decide ((ctl s 0x201002 : Rat) * (densePower l + searchPower l) < 100 * searchPower l)

/-- The step lowers d first: policy 0, and policy 2 unless search work takes more than its share. At the exact share, where
neither kind takes more, dense work is lowered (DESIGN CHOICE, log entry 75). -/
def dutyFirst (s : State) (l : List Draw) : Bool :=
  let p := ctl s 0x201001
  p == 0 || (p == 2 && !(searchOver s l))

/-- One level is lowered. -/
def lowerOne (s : State) (l : List Draw) : State :=
  if dutyFirst s l then
    if canLowerDuty s then lowerDuty s else if canLowerMeter s then lowerMeter s else s
  else if canLowerMeter s then lowerMeter s
  else if canLowerDuty s then lowerDuty s else s

/-- The backstop: every running die to 4 and m to SEARCH_FLOOR. -/
def backstop (s : State) : State := setMeter (setDuty s (runningDies s) (fun _ => 4)) (ctl s 0x200006)

/-- CAP_LOOP_STEP: every 100 µs, with what the dies and the stacks draw above the fixed draw. A lost pump holds the levels
(R423). -/
def execCapLoopStep (dies memories : List Draw) (s : State) : Result :=
  let due := match s.power.lastStep with
    | none => true
    | some t => decide (t + 100000 ≤ s.time.tick)
  if !(running s) || !due then idle s
  else
    let s := { s with power := { s.power with lastStep := some s.time.tick } }
    if !(avgAbove s (capInForce s)) then .next { s with power := { s.power with overSteps := 0 } }
    else
      let s := { s with power := { s.power with overSteps := s.power.overSteps + 1 } }
      if !(canLowerDuty s) && !(canLowerMeter s) then
        .next (capUnmet s)
      else if s.power.pumpLost then .next s
      else if 40 < s.power.overSteps then .next (engage (backstop s))
      else .next (engage (lowerOne s (dies ++ memories)))

/-- Raising goes in the reverse order: m first under policies 0 and 2, d first under policy 1. -/
def raiseOne (s : State) : State :=
  let m := s.power.thr.meter
  let dutyUp (s : State) : State := setDuty s (List.range 8) (fun d => min 64 (d + 1))
  let meterUp (s : State) : State := setMeter s (m + 1)
  let dutyLow := s.power.thr.duty.any (fun d => decide (d < 64))
  if ctl s 0x201001 = 1 then if dutyLow then dutyUp s else meterUp s
  else if m < 64 then meterUp s else dutyUp s

/-- CAP_RAISE: P_avg has stayed below the limit in force less 30 W for 10 ms; one level rises by 1 every 1 ms, and with every
level at 64 the cap is released. -/
def execCapRaise (s : State) : Result :=
  let long := match s.power.belowSince with
    | none => false
    | some t => decide (t + 10000000 ≤ s.time.tick)
  let due := match s.power.lastRaise with
    | none => true
    | some t => decide (t + 1000000 ≤ s.time.tick)
  if s.power.state ≠ .a1 ∨ !long ∨ !due ∨ s.power.pumpLost then idle s
  else
    let s := if levelsFull s.power.thr then s else raiseOne s
    let s := { s with power := { s.power with lastRaise := some s.time.tick } }
    if levelsFull s.power.thr then
      .next (raise (setPwr { s with power := { s.power with capUnmet := false, capOn := false } } .a0) 0x0705 0 (args := [a1Spent s]))
    else .next s

/-! ### Thermal limits (R421, R422) -/

/-- The lowest-numbered sensor above its throttle limit. -/
def hotSensor (s : State) : Option Nat :=
  (List.range 58).find? (fun n => match throttleLimit s n with
    | some l => decide (l < tempOf s n)
    | none => false)

/-- Since when every sensor has been 5 °C below its limit. -/
def noteCool (s : State) : State :=
  { s with power := { s.power with
    coolSince := if allBelow s (throttleLimit s) 500 then some (s.power.coolSince.getD s.time.tick) else none } }

/-- TEMPERATURE_CHANGE: a sensor's reading; TRIPPED may end (R421, R422). -/
def execTemperatureChange (sensor : Nat) (value : Int) (s : State) : Result :=
  .next (endTrip (noteCool { s with power := { s.power with temps := s.power.temps.set sensor value } }))

/-- THERMAL_THROTTLE: every 10 ms the limit in force falls by 50 W while a sensor is above its limit, down to 1,000 W, and rises
by 10 W once all have cooled. -/
def execThermalThrottle (s : State) : Result :=
  let due := match s.power.lastTherm with
    | none => true
    | some t => decide (t + 10000000 ≤ s.time.tick)
  let cool := match s.power.coolSince with
    | none => false
    | some t => decide (t + 10000000 ≤ s.time.tick)
  if !(railsOn s) || !due then idle s
  else
    match hotSensor s with
    | some n =>
      let first := !s.power.throttling
      let s := { s with power := { s.power with
        limit := max 1000 (capInForce s - 50), throttling := true, lastTherm := some s.time.tick } }
      .next (if first then raise s 0x0703 1 (args := [n, tempArg s n]) else s)
    | none =>
      if !s.power.throttling || !cool then idle s
      else
        let l := capInForce s + 10
        let done := decide (ctl s 0x200003 ≤ l)
        .next { s with power := { s.power with
          limit := if done then 1500 else l, throttling := !done, lastTherm := some s.time.tick } }

/-- THERMAL_TRIP: a sensor has reached its trip limit. It is logged beside an over-current of the same ACLK cycle, and comes before a
falling PWR_EN or a failed start-up of that cycle (R439, R475). -/
def execThermalTrip (sensor : Nat) (s : State) : Result :=
  match tripLimit s sensor with
  | none => idle s
  | some l =>
    if tempOf s sensor < l then idle s
    else
      if railsOn s || ((s.power.state == .off || s.power.state == .failed) && s.power.stopAt == some s.time.tick) then
        .next (thermalTrip s sensor)
      else if s.power.state = .tripped ∧ s.power.trip = some .overCurrent ∧ s.power.tripAt = s.time.tick then
        let s := logTrip s sensor
        .next { s with power := { s.power with trip := some .thermal } }
      else idle s

/-- OVERCURRENT: the shared power block has detected it; `mA` is the peak (R424). -/
def execOvercurrent (mA : Nat) (s : State) : Result :=
  if mA ≤ 170000 then idle s
  else if railsOn s then
    let s := mainStop (raise (loseRing s) 0x0701 3 (args := [mA])) 3 .tripped
    .next { s with power := { s.power with trip := some .overCurrent, tripAt := s.time.tick } }
  else if s.power.state = .tripped ∧ s.power.trip = some .thermal ∧ s.power.tripAt = s.time.tick ∧ s.power.lastOff = 4 then
    let s := raise s 0x0701 3 (args := [mA])
    .next { s with power := { s.power with lastOff := 3 } }
  else idle s

/-! ### The coolant signal (R423) -/

/-- PUMP_OK_CHANGE: a new level, stable for `stable` ACLK cycles, is taken (R465). -/
def execPumpOkChange (level : Bool) (stable : Nat) (s : State) : Result :=
  if s.pins.pumpOk = level ∨ s.tap.pinsTaken ∨ !(takesLevel s stable s.pins.pumpAt) then idle s
  else
    .next { s with pins := { s.pins with
      pumpOk := level, pumpLowSince := if level then none else some s.time.tick,
      pumpHighSince := if level then some s.time.tick else none, pumpAt := s.time.tick } }

/-- PUMP_LOST: PUMP_OK has been low for more than 100 ms: every d goes to 4 and m to SEARCH_FLOOR. -/
def execPumpLost (s : State) : Result :=
  let low := !s.pins.pumpOk && decide (s.pins.pumpLowSince.getD 0 + 100000000 < s.time.tick)
  if ctl s 0x20000B = 0 ∨ !low ∨ s.power.pumpLost ∨ !(railsOn s) then idle s
  else
    let s := raise { s with power := { s.power with pumpLost := true } } 0x0707 2
    .next (setMeter (setDuty s (List.range 8) (fun _ => 4)) (ctl s 0x200006))

/-- PUMP_RESTORED: PUMP_OK has been high for 1 s, or is no longer used. The levels are released; an engaged cap raises them as
R419 states. -/
def execPumpRestored (s : State) : Result :=
  let high := s.pins.pumpOk && decide (s.pins.pumpHighSince.getD 0 + 1000000000 ≤ s.time.tick)
  if !s.power.pumpLost || !(high || ctl s 0x20000B == 0) then idle s
  else
    let s := raise { s with power := { s.power with pumpLost := false } } 0x0708 0
    .next (if s.power.capOn then s else setMeter (setDuty s (List.range 8) (fun _ => 64)) 64)

end Sys2Proof.Machine
end

