-- ==== Sys2Proof/Machine/SecOps.lean ====
section
/-!
DEFINITION. Operations of the security block: image staging, quotes, debug tokens, erasure (R442, R444, R450-R455).
-/
namespace Sys2Proof.Machine

/-! ### Firmware images (R442) -/

/-- The slot that an image is written into: the one that is not running; in the recovery service, where none runs, either (R441,
R442). -/
def stagedSlot (s : State) : Nat := if s.sec.recovery then s.sec.recSlot else 1 - s.sec.run % 2

/-- The recovery service chooses the slot of an image at its first segment. -/
def chooseSlot (s : State) : State :=
  if s.sec.recovery ∧ s.sec.staged.isEmpty then
    { s with free := s.free + 1, sec := { s.sec with recSlot := Config.recoverySlot s.free % 2 } }
  else s

def setSlot (s : State) (n : Nat) (f : FwImage) : State :=
  if n = 0 then { s with sec := { s.sec with slotA := f } } else { s with sec := { s.sec with slotB := f } }

/-- A segment is written at FW_UPD_OFFSET; what the slot held is an image no more. -/
def stageSegment (s : State) (data : Nat) : State :=
  let s := chooseSlot s
  let n := stagedSlot s
  let s := setSlot s n { imageOf s n with valid := false }
  { s with sec := { s.sec with staged := keep (ctl s 0xA00004) data s.sec.staged } }

/-- The check of the staged slot ends. -/
def commitImage (s : State) (f : FwImage) : State :=
  let n := stagedSlot s
  let good := slotPasses s f
  let s := setSlot s n { f with valid := good }
  let r := if good then 1 else 2
  let s := { s with sec := { s.sec with committing := false, staged := [], updResult := r, pref := if good then n else s.sec.pref } }
  raise s 0x0802 0 7 0 (args := [r, n])

/-! ### Quotes (R444) -/

/-- FW_VERSION as read: 0 in the recovery service (R441). -/
def fwVersion (s : State) : Nat := if s.sec.recovery || !s.dict.ready then 0 else (imageOf s s.sec.run).version

/-- SERIAL, zero-padded to 20 B. -/
def serialBytes : List Byte := (Config.serial ++ List.replicate 20 0).take 20

/-- Bytes 0-479 of a quote. -/
def quoteBody (s : State) (n : Nat) (nonce : List Byte) : List Byte :=
  leBytes 44 (put 0 0x5154 + put 16 1 + put 24 (if s.sec.debugOpened then 1 else 0) + put 32 (s.sec.secVersion % 2 ^ 32)
      + put 64 (fwVersion s % 2 ^ 32) + put 96 (s.time.base % 2 ^ 64) + put 160 (n % 2 ^ 64))
    ++ serialBytes ++ (nonce ++ List.replicate 32 0).take 32 ++ (s.sec.meas.flatten ++ List.replicate 384 0).take 384

/-- The pair that an identity key names. -/
def keyPair : IdentityKey → Nat
  | .derived => Config.derivedPair Config.fusedSecret
  | .drawn n => Config.drawnPair n

/-- The quote of 576 B, signed under the identity key. -/
def quoteOf (s : State) (key : IdentityKey) (n : Nat) (nonce : List Byte) : List Byte :=
  let b := quoteBody s n nonce
  b ++ (Config.quoteSignature (keyPair key) b ++ List.replicate 96 0).take 96

/-! ### Debug tokens (R450-R452) -/

/-- The outstanding challenge has not lapsed: DBG_CHALLENGE_LIFE is 600 s. -/
def challengeLives (s : State) : Option Nat :=
  match s.sec.challenge with
  | none => none
  | some c => if s.time.tick < c.2 + ctl s 0xA00032 * 1000000000 then some c.1 else none

/-- Check 4: MAGIC, VER, SCOPE and the reserved bits. -/
def tokenForm (t : Nat) : Bool :=
  bits t 15 0 == 0x4454 && bits t 23 16 == 1 && bits t 31 24 == 1 && bits t 63 32 == 0 && bits t 1279 480 == 0

/-- Checks 2 to 7 of R452 in order: the DBG_RESULT of the first that fails. -/
def tokenCheck (s : State) (t : Nat) (signed : Bool) : Option Nat :=
  if s.sec.dbg ≠ .closed ∨ !(running s) then some 1
  else if ctl s 0xA00030 ≠ 1 then some 2
  else if !(tokenForm t) then some 3
  else if bits t 223 64 ≠ leNat serialBytes then some 4
  else if challengeLives s ≠ some (bits t 479 224) then some 5
  else if !signed then some 6
  else none

/-! ### Erasure (R453) -/

/-- The fabric ports go to DISABLED. -/
def fabricOff (s : State) : State :=
  (List.range 8).foldl (fun s i =>
    let p := fabPort s i
    if p.state = .up then portDown s i .disabled Config.portDisabledArg
    else setFabPort s i { p with state := .disabled, since := s.time.tick }) s

/-- Steps 1 and 2: both host ports are reset and held down, fabric ports go to DISABLED, the keys are zeroised. -/
def beginErasure (s : State) : State :=
  let s := fabricOff (resetPorts s 0 true)
  let s := { s with portA := { s.portA with held := true }, portB := { s.portB with held := true } }
  { s with sec := { s.sec with dbg := .erasing, dbgSince := s.time.tick, identity := none, farKey := none, quote := none, nonce := none,
                               perstHeld := false } }

/-- A write of DBG_TOKEN past check 1: `false` where the item is refused. Check 6 consumes the challenge. -/
def applyToken (s : State) (t : Nat) (signed : Bool) : State × Bool :=
  match tokenCheck s t signed with
  | none =>
    let s := beginErasure { s with sec := { s.sec with challenge := none } }
    (s, true)
  | some r =>
    let s := if 5 ≤ r then { s with sec := { s.sec with challenge := none } } else s
    (raise { s with sec := { s.sec with dbgResult := r } } 0x0804 1 7 0 (args := [r]), false)

/-- Entries of windows whose objects an erasure takes away. -/
def windowGone (k : Nat) : Bool := ((entryAt (k / 65536)).map (fun e => e.win == 9 || e.win == 10)).getD false

/-- Steps 3 and 4: memories are zero, and nothing that they held exists. -/
def erase (s : State) : State :=
  { s with
    rlocks := [], pinSlots := s.pinSlots.map (fun p => (p.1, { p.2 with live := false })), pageReqs := [], indexes := [],
    ring0 := {}, ring1 := {}, queries := [], bridges := [], strums := [], strays := [], dense := {},
    fabric := { s.fabric with ingress := [] }, log := { s.log with ring := [] },
    dict := { s.dict with vals := s.dict.vals.filter (fun v => !(windowGone v.1)) } }

/-- Steps 5 and 6: fresh keys, MEAS5, the count and the event; the debug port opens and the host ports are released. A PERST_N
that came meanwhile is applied now (R455). -/
def openDebug (s : State) : State :=
  let n := s.sec.keysDrawn
  let c := min 0xFFFFFFFF (s.sec.openCount + 1)
  let held := s.sec.perstHeld
  let s := { s with sec := { s.sec with
    keysDrawn := n + 2, farKey := some (n + 1), identity := some (.drawn (n + 2)), openCount := c, debugOpened := true, dbg := .open_,
    perstHeld := false } }
  let s := raise (extend s 5 (sha384 [1, 0, 0, 0])) 0x0805 2 7 0 (args := [c])
  let s := { s with portA := { s.portA with held := s.pins.perst }, portB := { s.portB with held := s.pins.perst } }
  if !held then s else if s.log.isFatal then warmRestart s 1 else resetPorts s 3 s.pins.perst

end Sys2Proof.Machine
end

