-- ==== Sys2Proof/Machine/DictRead.lean ====
section
/-!
DEFINITION. What an entry of the object dictionary reads as: selectors and windows, the object an entry shows, numeric values,
octet strings, and the checks of a read item (R356-R365, R383, R448 and the tables that define the entries).
-/
namespace Sys2Proof.Machine

/-! ### Paths, selectors and objects (R361, R366, R368) -/

/-- A path, and a change of one. -/
def pathOf (s : State) (n : Nat) : Path := nth s.dict.paths n {}
def withPath (s : State) (n : Nat) (f : Path → Path) : State := { s with dict := { s.dict with paths := modAt s.dict.paths n f } }

/-- A management-port path; the other two are the mailboxes. -/
def isMgmt (path : Nat) : Bool := decide (2 ≤ path)
def mailboxPort (path : Nat) : Port := if path = 1 then .b else .a

/-- A selector's value without its reserved bits, which read as zero (R9): ACC_SEL holds die, logical core and tile (R276), CHAN_SEL
a handle's generation and slot (R197). -/
def unreserved (key v : Nat) : Nat :=
  match key with
  | 0xB00010 => v &&& (put 16 7 + put 8 63 + 31)
  | 0x410001 => v &&& 0xFFF00FFF
  | _ => v

/-- A selector's value for an item: bound by the message, else the path's own. -/
def selVal (s : State) (path : Nat) (binds : List (Nat × Nat)) (key : Nat) : Nat :=
  unreserved key ((look binds key).getD ((look (pathOf s path).sels key).getD (defaultOf key)))

/-- The slot that CHAN_SEL names for a path; a mailbox sees the slots of its own port only (R198, R232). -/
def selSlot (s : State) (path h : Nat) : Option Nat :=
  let n := bits h 11 0
  if genOf s n = bits h 31 20 ∧ (chan s n).state ≠ .free ∧ (isMgmt path ∨ portOf s n = mailboxPort path) then some n
  else none

/-- The partition that INDEX_SEL and PART_SEL name. -/
def partSel (s : State) (i p : Nat) : Option (Index × Part) := (indexAt s i).bind (fun x => (partAt x p).map (fun y => (x, y)))

/-- The training tablature that TRAIN_TAB_SEL names (R300). -/
def trainSel (s : State) (n : Nat) : Option Tablature := (look s.dense.tabs n).filter trainsTab

/-- The object that a window entry shows; `none` where it does not exist (R59: nor where the selected partition does not). An entry that belongs to no window has object 0. -/
def objOf (s : State) (path : Nat) (binds : List (Nat × Nat)) (e : DictEnt) : Option Nat :=
  let sel := selVal s path binds
  let idx := sel 0x610001
  let given (n : Nat) (b : Bool) : Option Nat := if b then some n else none
  match e.win with
  | 0 => some 0
  | 1 => selSlot s path (sel 0x410001)
  | 2 => given idx ((indexAt s idx).any (fun x => decide (sel 0x610002 < x.parts.length) || e.key / 256 != 0x6110))
  | 3 => given (idx * 64 + sel 0x610002) (partSel s idx (sel 0x610002)).isSome
  | 4 => some (sel 0x502001)
  | 5 => given (sel 0x701001 * 16 + sel 0x701002) (sel 0x701002 < 15)
  | 6 =>
    let t := sel 0x711001
    let n := if e.key / 256 = 0x7111 then sel 0x711002 else sel 0x711003
    given (t * 1024 + n) ((trainSel s t).any (fun t =>
      if e.key / 256 = 0x7111 then decide (n < (stashesOf t).length) else (spansOf t).any (fun sp => sp.layer == n)))
  | 7 => some (sel 0x800008)
  | 8 => some (sel 0x801001)
  | 9 => given (sel 0x802001) (look s.dense.tabs (sel 0x802001)).isSome
  | 10 => given (sel 0x810001) (indexAt s (sel 0x810001)).isSome
  | 11 => some (sel 0x111001)
  | _ => some (sel 0xB00010)

/-! ### Numeric values -/

def ofBool (b : Bool) : Nat := if b then 1 else 0

/-- The lowest value of a list; `d` where it is empty. -/
def least (d : Nat) (l : List Nat) : Nat :=
  match l with
  | [] => d
  | a :: r => r.foldl min a

/-- Identity, control and inventory (R2, R384, R387). -/
def readControl (s : State) (path : Nat) (key : Nat) : Option Nat :=
  match key with
  | 0x100005 => some (fwVersion s)
  | 0x100102 => some dictEntries.length
  | 0x100103 => some (ofBool s.dict.ready)
  | 0x100104 => some path
  | 0x101002 => some (ofBool (pathOf s path).unlock.isSome)
  | 0x102002 => some s.dict.saveState
  | 0x102003 => some s.dict.saveCount
  | 0x102005 => some s.dict.loadResult
  | 0x102006 => some s.dict.loadDefaulted
  | 0x103004 => some (s.pins.modId % 8 + 1)
  | 0x103005 => some (if s.dict.dupAddr then 3 else s.dict.link)
  | 0x103006 => some ((s.dict.paths.drop 2).filter (fun p => p.peer.isSome)).length
  | 0x110005 => some s.power.stackOk
  | 0x110006 => some s.power.farOk
  | 0x110007 => some (sumOf (s.integ.dies.map (fun d => (d.map.filter (·.isSome)).length)))
  | 0x110008 => some (sumOf (s.integ.dies.map (fun d => (d.phys.filter (· == .spareFree)).length)))
  | _ => none

/-- PLL_LOCKED (R438): MCLK runs from dictionary-ready; the others lock in step 2 of main start, and in Q2 only the clocks of the
hub dies, host ports and fabric ports stay (R414, R431). -/
def pllLocked (s : State) : Nat :=
  let ports := put 50 3 + put 52 (if twoPorts s then 3 else 1) + put 54 0xFF
  let main :=
    match s.power.state with
    | .a0 | .a1 | .q1 => put 0 (2 ^ 50 - 1) + ports
    | .starting => if 2 ≤ s.power.mainStep then put 0 (2 ^ 50 - 1) + ports else 0
    | .q2 => put 16 3 + ports
    | _ => 0
  main + put 62 (ofBool s.dict.ready)

/-- Power, thermal state and clocks (R24, R436-R438). -/
def readPower (s : State) (key : Nat) : Option Nat :=
  match key with
  | 0x200001 => some (pwrCode s.power.state)
  | 0x200002 => some (avgWatts s)
  | 0x200004 => some (least 64 ((runningDies s).map (fun d => nth s.power.thr.duty d 64)))
  | 0x200005 => some s.power.thr.meter
  | 0x20000A => some (s.power.a1Time + a1Spent s)
  | 0x20000C => some s.power.lastOff
  | 0x20000D => some s.power.step
  | 0x201003 => some (ofBool s.power.capOn)
  | 0x210001 => some (encodeSigned 32 ((s.power.temps.take 58).foldl max (tempOf s 0)))
  | 0x210009 => some (ofBool s.pins.pumpOk)
  | 0x21000A => some (ofBool s.power.throttling)
  | 0x220001 => some (s.time.base % 2 ^ 64)
  | 0x220002 => some (pllLocked s)
  | _ => none

/-- Slots that are not FREE, the admin channels of the ports included (R231). -/
def channelsOpen (s : State) : Nat :=
  (s.chans.filter (fun c => c.2.state != .free && !(isAdmin s c.1))).length + (if twoPorts s then 2 else 1)

/-- Free range-lock entries (R231). -/
def rlocksLeft (s : State) : Nat :=
  let held (p : Port) : Nat := (s.rlocks.filter (fun l => portOf s l.slot == p)).length
  if twoPorts s then 512 - max (held .a) (held .b) else 1024 - s.rlocks.length

/-- Memories, channels and search resources (R58, R115, R133, R231, R327). -/
def readPools (s : State) (key : Nat) : Option Nat :=
  match key with
  | 0x300002 => some (recordArea s * 16)
  | 0x300004 => some (chunksFree s)
  | 0x300005 => some (least 32 ((List.range 16).map (cacheFree s)))
  | 0x310002 => some (rerankArea s)
  | 0x310003 => some (2 * ringBytes s - (ringUsed s s.ring0 + ringUsed s s.ring1))
  | 0x310004 => some (idmapEntries s)
  | 0x310005 => some (idmapEntries s - idmapUsed s)
  | 0x320004 => some (streamPool s)
  | 0x320005 => some (s.dense.sharedFreeMin.getD 0)
  | 0x400001 => some (ofBool (twoPorts s))
  | 0x400003 => some (channelsOpen s)
  | 0x400004 => some (rlocksLeft s)
  | 0x500009 => some (7168 - (List.range 16).foldl (fun m k => max m (entriesOn s k)) 0)
  | 0x50000A => some (8192 - (List.range 8).foldl (fun m d => max m (dieGranules s d)) 0)
  | 0x50000B => some (16384 - max (hubGranules s 0) (hubGranules s 1))
  | 0x600001 => some s.indexes.length
  | _ => none

def chanCode : ChanState → Nat
  | .free => 0
  | .active => 1
  | .aborting => 2
  | .error => 3
  | .destroying => 4

/-- The channel window (R232). -/
def readChannel (c : Channel) (key : Nat) : Option Nat :=
  match key with
  | 0x411001 => some (chanCode c.state)
  | 0x411002 => some c.cfg.tenant
  | 0x411003 => some (put 20 (ofBool c.cfg.pasid.isSome) + c.cfg.pasidField)
  | 0x411004 => some c.cfg.sqN
  | 0x411005 => some c.cfg.cqN
  | 0x411006 => some c.head
  | 0x411007 => some c.cmds.length
  | 0x411008 => some c.reports.length
  | 0x411009 => some c.errCause
  | 0x41100A => some c.coalTime
  | 0x41100B => some c.coalCount
  | _ => none

def luthierCode : LuthierState → Nat
  | .run => 0
  | .press => 1
  | .full => 2
  | .quiet => 3
  | .drop => 4

def retuneCode : RetuneState → Nat
  | .idle => 0
  | .sample => 1
  | .fit => 2
  | .armed => 3
  | .pass1 => 4
  | .pass2 => 5
  | .ready => 6
  | .switched => 7

/-- Age of the oldest committed, unmerged entry (R157). -/
def mergeLag (s : State) (x : Index) : Nat :=
  let times := (unmerged x).filterMap (fun e => look x.pubs e.commit)
  s.time.base - least s.time.base times

/-- Samples gathered, or slots passed in the present pass (R190). -/
def retuneProgress (s : State) (x : Index) : Nat :=
  match x.retune.state with
  | .pass1 | .pass2 => min (indexSlots x) (passUnits s x / 1000000000)
  | .ready | .switched => x.retune.passed / 1000000000
  | _ => x.retune.samples.length

/-- Groups with a constant element in the newest version (R169, R190). -/
def constGroups (x : Index) : Nat :=
  match newestVer x with
  | none => 0
  | some v => ((List.range (v.elems.length / 16 + 1)).filter (fun g => ((v.elems.drop (16 * g)).take 16).any (·.const))).length

/-- The index window (R59, R88, R98, R157, R190, R386, R476). -/
def readIndex (s : State) (i : Nat) (x : Index) (key : Nat) : Option Nat :=
  match key with
  | 0x611001 => some (if x.cfg.format = .c then 1 else 0)
  | 0x611002 => some x.cfg.codeType
  | 0x611003 => some x.parts.length
  | 0x611004 => some x.cfg.partFn
  | 0x611005 => some x.cfg.rrFmt
  | 0x611006 => some (if x.cfg.rrFmt = 0 then 0 else x.cfg.rrDims)
  | 0x611007 => some x.cfg.metric
  | 0x611008 => some x.cfg.kernel
  | 0x611009 => some x.cfg.promoteBits
  | 0x61100A => some x.cfg.vecDims
  | 0x61100B => some x.cfg.owner
  | 0x61100C => some (i % 2)
  | 0x613001 => some x.quality
  | 0x613002 => some (ofBool x.route)
  | 0x614001 => some x.current
  | 0x614002 => some x.lowWater
  | 0x614003 => some (luthierCode x.luthier)
  | 0x614004 => some (unmerged x).length
  | 0x614005 => some (mergeLag s x)
  | 0x614006 => some (sumOf (x.parts.map (repairPending x)))
  | 0x614007 => some (sumOf (x.parts.map (reclaimPending x)))
  | 0x614008 => some (s.pinSlots.filter (fun p => p.2.live && p.2.index == i)).length
  | 0x615001 => some ((newestVer x).map (·.num) |>.getD 0)
  | 0x615002 => some x.vers.length
  | 0x615003 => some (retuneCode x.retune.state)
  | 0x615004 => some (retuneProgress s x)
  | 0x615005 => some x.retune.shadowEpoch
  | 0x615006 => some x.retune.switchEpoch
  | 0x615007 => some (((liveVers x x.current).getLast?.map (·.mse.toNat)).getD 0)
  | 0x615008 => some x.retune.mseShadow.toNat
  | 0x615009 => some (constGroups x)
  | 0x61500A => some x.drift.insertClamp
  | 0x61500B => some x.drift.insertNan
  | 0x61500C => some x.drift.events
  | _ => none

/-- The partition window (R59). -/
def readPart (p : Part) (key : Nat) : Option Nat :=
  match key with
  | 0x612001 => some p.mask
  | 0x612002 => some p.perStack
  | 0x612003 => some (occupied p)
  | 0x612004 => some (sumOf (p.chains.map (fun c => (c.2.entries.filter (fun e => (mergeEpoch c.2 e.pos).isNone)).length)))
  | 0x612005 => some p.quota
  | 0x612006 => some p.mirror.length
  | _ => none

/-- Indexes that name a kernel slot (R112). -/
def kernelRefs (s : State) (n : Nat) : Nat := (s.indexes.filter (fun x => x.2.cfg.kernel == n)).length

/-- The state of a die as DIE_RUN shows it (R276). -/
def dieRun (s : State) (d : Nat) : Nat :=
  if (dieCores s d).map.any (·.isNone) then 3
  else
    match runOfDie s d with
    | none => 0
    | some r => if r.ending.isSome then 2 else 1

/-- A statistics slot (R191). -/
def readStat (t : StatSlot) (key : Nat) : Option Nat :=
  match key with
  | 0x701101 => some t.elems
  | 0x701102 => some t.sat
  | 0x701103 => some t.under
  | 0x701104 => some t.nan
  | 0x701105 => some t.sse.toNat
  | 0x701106 => some t.ssx.toNat
  | _ => none

/-- The training window (R300): stash state of the lowest die of DIE_MASK. -/
def readTrain (t : Tablature) (n : Nat) (key : Nat) : Option Nat :=
  let st := stashOf t ((members t.dieMask 8).headD 0) n
  match key with
  | 0x711101 => some st.v
  | 0x711102 => some (sumOf (st.tags.zipIdx.map (fun r => if r.1.isSome then 2 ^ r.2 else 0)))
  | 0x711201 => some (encodeSigned 32 (gradExpOf t n))
  | 0x711202 => some ((look t.train.lrEff n).map (·.toNat) |>.getD 0)
  | 0x711203 => some ((look t.train.rung n).getD 0)
  | _ => none

/-- Dense compute outside windows (R276). -/
def readDense (s : State) (key : Nat) : Option Nat :=
  if key = 0x720001 then some s.dense.tabs.length
  else if key = 0x720004 then some s.dense.waiting.length
  else if 0x720201 ≤ key ∧ key ≤ 0x720208 then some (dieRun s (key - 0x720201))
  else none

def timeCode : TimeState → Nat
  | .free => 0
  | .acquire => 1
  | .locked => 2
  | .holdover => 3
  | .master => 4

def portCode : PortState → Nat
  | .disabled => 0
  | .training => 1
  | .up => 2

/-- The fabric (R352). -/
def readFabric (s : State) (obj key : Nat) : Option Nat :=
  match key with
  | 0x800006 => some (timeCode s.time.sync)
  | 0x800007 => some (encodeSigned 64 s.time.offset)
  | 0x800009 => if obj = myId s then some 0xFE else none
  | 0x801102 => some (portCode (fabPort s obj).state)
  | 0x801103 => some (fabPort s obj).peer
  | _ => none

/-- Records now poisoned and not rebuilt (R409). -/
def poisonedRecords (s : State) : Nat := sumOf (s.indexes.map (fun x => sumOf (x.2.parts.map (fun p => p.poisoned.length))))

def dbgCode : DbgState → Nat
  | .closed => 0
  | .erasing => 1
  | .open_ => 2

/-- A counter as read: those of waits count the waits that still run (R275, R300, R328). -/
def liveCounter (s : State) (sub : Nat) : Nat :=
  let dies (f : Nat → Nat) : Nat := sumOf ((List.range 8).map f)
  counter s sub + (match sub with
    | 0x51 => dies (fun d => interlockCycles s d (dieSeq s d))
    | 0x56 => dies (tagWaited s)
    | 0x63 => dies (poolWaited s)
    | 0x64 => dies (regWaited s)
    | 0x65 => sumOf (s.dense.limitSince.map (fun c => cclkOf (s.time.tick - c.2)))
    | _ => 0)

/-- The log, counters and security (R408, R409, R457). -/
def readRest (s : State) (key : Nat) : Option Nat :=
  match key with
  | 0x900001 => some s.log.next
  | 0x900002 => some (logOldest s.log)
  | 0x900003 => some s.log.lost
  | 0x900004 => some s.log.ack
  | 0x910009 => some (poisonedRecords s)
  | 0xA00001 => some s.sec.secVersion
  | 0xA00002 => some s.sec.pref
  | 0xA00003 => some s.sec.run
  | 0xA00007 => some s.sec.updResult
  | 0xA00021 => some (ofBool s.portA.ideSecure + 2 * ofBool s.portB.ideSecure)
  | 0xA00034 => some s.sec.dbgResult
  | 0xA00035 => some (dbgCode s.sec.dbg)
  | 0xA00037 => some s.sec.openCount
  | _ => if key / 256 = 0x9100 then some (liveCounter s (key % 256)) else none

/-- The value of a window entry that its object holds. -/
def readWindow_ (s : State) (e : DictEnt) (obj : Nat) : Option Nat :=
  match e.win with
  | 1 => readChannel (chan s obj) e.key
  | 2 => (indexAt s obj).bind (fun x => readIndex s obj x e.key)
  | 3 => (partSel s (obj / 64) (obj % 64)).bind (fun x => readPart x.2 e.key)
  | 4 =>
    let k := (look s.kernels obj).getD {}
    if e.key = 0x502102 then some (ofBool k.valid) else if e.key = 0x502103 then some k.cost
    else if e.key = 0x502104 then some (kernelRefs s obj) else none
  | 5 => readStat ((look s.dense.stats obj).getD {}) e.key
  | 6 => (trainSel s (obj / 1024)).bind (fun t => readTrain t (obj % 1024) e.key)
  | 11 =>
    let d := dieCores s obj
    if e.key = 0x111103 then some (d.phys.filter (· == .spareFree)).length
    else if e.key = 0x111104 then some (d.phys.filter (· == .fenced)).length
    else if e.key = 0x111105 then some (ofBool (d.map.any (·.isNone))) else none
  | _ => none

/-- The first of several answers. -/
def firstOf : List (Option Nat) → Option Nat
  | [] => none
  | some v :: _ => some v
  | none :: r => firstOf r

/-- The value of a numeric entry for an object: what a unit of the module holds, else the selector, else the stored value. -/
def readNum (s : State) (path : Nat) (binds : List (Nat × Nat)) (e : DictEnt) (obj : Nat) : Nat :=
  if e.sel then selVal s path binds e.key
  else
    (firstOf [readWindow_ s e obj, readControl s path e.key, readPower s e.key, readPools s e.key, readDense s e.key,
      readFabric s obj e.key, readRest s e.key]).getD (ctlObj s e.key obj)

/-! ### Strings and octet strings -/

def ascii (t : String) : List Byte := t.toList.map (fun c => BitVec.ofNat 8 c.toNat)

/-- STR entries (R2); SERIAL has up to 20 characters. -/
def readStr (key : Nat) : List Byte :=
  match key with
  | 0x100001 => ascii "Luallisko"
  | 0x100002 => ascii "Ilmuster"
  | 0x100003 => ascii "IM1632-LC"
  | 0x100004 => ascii "B0"
  | _ => Config.serial.take 20

/-- PHYS_STATE codes (R387). -/
def physCode : PhysState → Nat
  | .active => 0
  | .spareFree => 1
  | .spareInService => 2
  | .fenced => 3
  | .failedTest => 4

/-- The tile that ACC_SEL names: its tag in the first 8 bytes, then its 8 KiB of elements, an FP32 encoding or a zero-extended FP16
one each, then its 64 FP32 row sums (R253, R274; DEDUCED, log entry 23). -/
def accData (s : State) (sel : Nat) : List Byte :=
  let t := tileOf (coreOf s (bits sel 18 16) (bits sel 13 8)) (bits sel 4 0)
  let mode := match t.mode with
    | .unwritten => 0
    | .float => 1
    | .correction => 2
    | .subtract => 3
  (List.range 8).map (Config.accTag mode t.fp16)
    ++ ((List.range 2048).map (fun i => leBytes 4 (if t.fp16 then (tileWord t i).toNat % 65536 else (tileWord t i).toNat))).flatten
    ++ ((List.range 64).map (fun r => leBytes 4 (tileSum t r).toNat)).flatten

/-- The management port's MAC address (R375). -/
def macAddress (s : State) : List Byte := [0x02, 0x4C, 0x41, 0x49, 0x4D, BitVec.ofNat 8 s.pins.modId]

/-- OCT entries that a path may read. -/
def readOct (s : State) (e : DictEnt) (obj : Nat) : List Byte :=
  match e.key with
  | 0x103003 => macAddress s
  | 0x111101 => (dieCores s obj).phys.map (fun p => BitVec.ofNat 8 (physCode p))
  | 0x111102 => (dieCores s obj).map.map (fun p => BitVec.ofNat 8 (p.getD 0xFF))
  | 0x210002 => (s.power.temps.map (fun t => leBytes 2 (encodeSigned 16 t))).flatten
  | 0x502101 => leBytes 256 ((look s.kernels obj).getD {}).block
  | 0x600003 => leBytes 32 (sumOf (s.indexes.map (fun x => 2 ^ x.1)))
  | 0x900006 => (((heldEvents s.log).reverse.take 16).map eventBytes).flatten
  | 0x900007 => (s.log.fatal.map eventBytes).flatten
  | 0xA00011 => s.sec.quote.getD []
  | 0xA00012 => Config.attCert
  | 0xA00013 => s.sec.meas.flatten
  | 0xB00005 => (s.integ.dies.map (fun d => (d.score.map (leBytes 2)).flatten)).flatten
  | 0xB00011 => accData s obj
  | _ => leBytes e.len (ctlObj s e.key obj)

/-- The value of an entry for an object, in its encoding (R357). -/
def readBytesOf (s : State) (path : Nat) (binds : List (Nat × Nat)) (e : DictEnt) (obj : Nat) : List Byte :=
  if e.typ = 0x0A then readStr e.key
  else if e.typ = 0x0B then (readOct s e obj ++ List.replicate e.len 0).take e.len
  else leBytes e.len (readNum s path binds e obj)

/-! ### Checks of a read item (R362, R383, R441, R444, R448) -/

/-- Item statuses (R362, R369). -/
def stOk : Nat := 0x00
def stNoEntry : Nat := 0x01
def stReadOnly : Nat := 0x02
def stWriteOnly : Nat := 0x03
def stLocked : Nat := 0x04
def stType : Nat := 0x05
def stNoObject : Nat := 0x06
def stRange : Nat := 0x07
def stNotIdle : Nat := 0x08
def stRefused : Nat := 0x09
def stUnavailable : Nat := 0x0A
def stSegment : Nat := 0x0B
def stDenied : Nat := 0x0C

/-- The index of an entry lies in a range. -/
def keyIn (key lo hi : Nat) : Bool := decide (lo ≤ key / 256 ∧ key / 256 ≤ hi)

/-- The power state admits an entry from a path (R383); the recovery service serves less (R441). -/
def available (s : State) (path : Nat) (key : Nat) : Bool :=
  if s.sec.recovery then
    isMgmt path && (keyIn key 0x1000 0x11FF || keyIn key 0x9000 0x90FF || keyIn key 0xA000 0xA0FF || key == 0x200009)
  else if running s || quiescent s then true
  else isMgmt path && (keyIn key 0x1000 0x11FF || keyIn key 0x2000 0x22FF || keyIn key 0x9000 0x90FF || keyIn key 0xA000 0xA0FF)

/-- ATT_QUOTE cannot be read before the quote is made, nor during an erasure (R444, R455). -/
def quoteWaits (s : State) (key : Nat) : Bool := key == 0xA00011 && (s.sec.quote.isNone || s.sec.dbg == .erasing)

/-- ACC_DATA is readable while debug is open and its die runs no die program (R274). -/
def accRefused (s : State) (path : Nat) (binds : List (Nat × Nat)) (key : Nat) : Bool :=
  key == 0xB00011 && (s.sec.dbg != .open_ || (runOfDie s (bits (selVal s path binds 0xB00010) 18 16)).isSome)

/-- The status of a read, before its value is taken. -/
def readStatus (s : State) (path : Nat) (binds : List (Nat × Nat)) (key : Nat) : Nat :=
  match entryAt key with
  | none => stNoEntry
  | some e =>
    if e.acc = 2 then stWriteOnly
    else if key = 0xA00031 ∧ !(isMgmt path) then stDenied
    else if !(available s path key) || quoteWaits s key then stUnavailable
    else if accRefused s path binds key then stRefused
    else stOk

/-- A read of DBG_CHALLENGE draws a fresh value, which is outstanding from now on (R450). -/
def drawChallenge (s : State) (fresh : List Byte) : State :=
  { s with sec := { s.sec with challenge := some (leNat ((fresh ++ List.replicate 32 0).take 32), s.time.tick) } }

/-- Random bytes that a message's read draws: nothing constrains them (R450). -/
def randomBytes (s : State) : State × List Byte :=
  let f := freshFill s
  (f.1, (List.range 32).map (Config.freeByte f.2))

/-- One read of an entry (R365): its status, and its value where the status is OK. An entry of a window whose object does not
exist reads as 0. -/
def readItem (s : State) (path : Nat) (binds : List (Nat × Nat)) (key : Nat) : State × Nat × List Byte :=
  let st := readStatus s path binds key
  match entryAt key with
  | none => (s, st, [])
  | some e =>
    if st ≠ stOk then (s, st, [])
    else if key = 0xA00031 then
      let r := randomBytes s
      (drawChallenge r.1 r.2, st, r.2)
    else
      match objOf s path binds e with
      | none => (s, st, List.replicate e.len 0)
      | some obj => (s, st, readBytesOf s path binds e obj)

end Sys2Proof.Machine
end

