-- ==== Sys2Proof/Machine/DictWrite.lean ====
section
/-!
DEFINITION. A write item of the object dictionary: the checks of R362 in their order, and what each entry's write does
(R358-R364, R379-R381, R442-R457 and the tables that define the entries).
-/
namespace Sys2Proof.Machine

/-! ### Idle conditions (R358) -/

/-- A walker context of a die is occupied, by a query's walk or by a luthier walk (R19, R145). -/
def diesWalks (s : State) (d : Nat) : Bool :=
  (heldWalks s).any (fun w => w.core / 64 == d) || (heldLuthier s).any (fun w => w.core.any (fun c => c / 64 == d))

/-- No QUERY frame of a group is held in the ingress buffers. -/
def noQueryHeld (s : State) (group : Nat) : Bool := s.fabric.ingress.all (fun h => !(h.frame.typ == 1 && h.frame.group == group))

/-- The idle condition of an RWI entry for its object (R19, R58, R112, R156, R231, R327, R352, R353). -/
def isIdle (s : State) (e : DictEnt) (obj : Nat) : Bool :=
  if e.key = 0x300001 ∨ e.key = 0x300003 ∨ e.key = 0x310001 ∨ e.key = 0x680006 then s.indexes.isEmpty
  else if e.key = 0x320001 then s.dense.runs.isEmpty && (List.range 8).all (fun d => !(diesWalks s d))
  else if e.key = 0x400002 then s.chans.all (fun c => c.2.state == .free || isAdmin s c.1)
  else if e.key = 0x502101 then kernelRefs s obj == 0
  else if 0x720101 ≤ e.key ∧ e.key ≤ 0x720108 then (runOfDie s (e.key - 0x720101)).isNone && !(diesWalks s (e.key - 0x720101))
  else if e.key = 0x800001 then s.fabric.ports.all (fun p => p.state == .disabled)
  else if e.win = 9 then s.dense.runs.all (fun r => r.tab != obj)
  else if e.win = 10 then s.queries.all (fun q => q.index != obj) && noQueryHeld s (shardGroup s obj)
  else true

/-! ### Further conditions (R362) -/

/-- A tree map names the module itself, or one module twice (R341, R348): parent and packed children. -/
def mapClash (s : State) (parent children : Nat) : Bool :=
  let kids := childrenOf children
  let own := myId s
  (own != 0xFFFF && (parent == own || kids.contains own)) || !(decide kids.Nodup) || (parent != 0xFFFF && kids.contains parent)

/-- Another enabled object of the family has the same group: the family's objects, ENABLE and GROUP keys, object, group. -/
def groupClash (s : State) (objs : List Nat) (enKey grKey obj group : Nat) : Bool :=
  objs.any (fun i => i != obj && ctlObj s enKey i == 1 && ctlObj s grKey i == group)

/-- The checks of R341 on a shard entry's new value. -/
def shardRefused (s : State) (key i v : Nat) : Bool :=
  let objs := s.indexes.map Prod.fst
  match key with
  | 0x811001 => v == 1 && groupClash s objs 0x811001 0x811002 i (shardGroup s i)
  | 0x811002 => groupClash s objs 0x811001 0x811002 i v
  | 0x811003 => decide (v ≤ ctlObj s 0x811004 i)
  | 0x811004 => decide (ctlObj s 0x811003 i ≤ v)
  | 0x811005 => mapClash s v (ctlObj s 0x811006 i)
  | 0x811006 => mapClash s (shardParent s i) v
  | _ => false

/-- The same checks on a collective entry (R348). -/
def collRefused (s : State) (key i v : Nat) : Bool :=
  let objs := s.dense.tabs.map Prod.fst
  match key with
  | 0x802101 => v == 1 && groupClash s objs 0x802101 0x802102 i (collGroup s i)
  | 0x802102 => groupClash s objs 0x802101 0x802102 i v
  | 0x802103 => mapClash s v (ctlObj s 0x802104 i)
  | 0x802104 => mapClash s (ctlObj s 0x802103 i) v
  | _ => false

/-- An admitted dense command that has not completed names a tablature (R266). -/
def tabNamed (s : State) (n : Nat) : Bool :=
  s.dense.runs.any (fun r => r.tab == n) ||
    s.chans.any (fun c => c.2.cmds.any (fun o =>
      laneOf (cOpcode o.word) == .dense && !(isFetched o) && !(isDone o) && dTab o.word == n))

/-- Every further condition stated with an entry: `true` where it fails. -/
def furtherFails (s : State) (e : DictEnt) (obj v : Nat) : Bool :=
  if e.win = 10 then shardRefused s e.key obj v
  else if e.win = 9 then collRefused s e.key obj v
  else
    match e.key with
    | 0x300006 => !(sharesOk v (ctl s luthierKey))
    | 0x680005 => !(sharesOk (ctl s sweepKey) v)
    | 0x320001 => !(splitOk v)
    | 0x400002 => !(twoPorts s)
    | 0x502101 => !(kernelOk v)
    | 0x102001 => s.dict.saving.isSome
    | 0x102004 => s.dict.saving.isSome
    | 0x200008 => !(mayMainStart s)
    | 0x720003 => (look s.dense.tabs v).isNone || tabNamed s v
    | 0x800009 => obj == myId s
    | 0xB00003 => !(served s (v / 64) (v % 64))
    | 0xA00036 => s.sec.dbg != .open_
    | _ => false

/-! ### What a write does -/

/-- The erased saved set (R381). -/
def erasedCopy : SavedCopy := {}

/-- EXPERT_UNLOCK (R379). -/
def setUnlock (s : State) (path v : Nat) : State :=
  withPath s path (fun p => { p with unlock := if v = 0 then none else some s.time.tick })

/-- SAVE captures the values; the set is in flash when SAVE_DONE tells (R380). -/
def beginSave (s : State) : State := { s with dict := { s.dict with saving := some (capture s), saveState := 1 } }

/-- A kernel block is accepted (R111). -/
def storeKernel (s : State) (n v : Nat) : State :=
  { s with kernels := keep n { block := v, valid := true, cost := kernelCost v } s.kernels }

/-- The keys of the collective window. -/
def collKeys : List Nat := [0x802101, 0x802102, 0x802103, 0x802104]

/-- A tablature's space is free; what its number held in the collective window is gone (R266). -/
def unloadTab (s : State) (n : Nat) : State :=
  collKeys.foldl (fun s k => setCtl s k n (defaultOf k)) { s with dense := { s.dense with tabs := forget s.dense.tabs n } }

/-- A write of INT_COALESCE_TIME or INT_COALESCE_COUNT (R202, R232). -/
def setCoalesce (s : State) (slot key v : Nat) : State :=
  let c := chan s slot
  setChan s slot (if key = 0x41100A then { c with coalTime := v } else { c with coalCount := v })

/-- A write of an index's QUALITY or ROUTE_THROUGH, or a clear of one of its counters (R88, R190). -/
def setIndexEntry (s : State) (i key v : Nat) : State :=
  withIndex s i (fun x =>
    match key with
    | 0x613001 => { x with quality := v }
    | 0x613002 => { x with route := v == 1 }
    | 0x61500A => { x with drift := { x.drift with insertClamp := 0 } }
    | 0x61500B => { x with drift := { x.drift with insertNan := 0 } }
    | 0x61500C => { x with drift := { x.drift with events := 0 } }
    | _ => x)

/-- STAT_CLEAR (R176, R191). -/
def clearStat (s : State) (obj v : Nat) : State :=
  if v = 1 then { s with dense := { s.dense with stats := forget s.dense.stats obj } } else s

/-- PORT_ENABLE (R338). -/
def enablePort (s : State) (i v : Nat) : State :=
  let s := setCtl s 0x801101 i v
  if v = 0 then portDown s i .disabled Config.portDisabledArg
  else if (fabPort s i).state = .disabled ∧ railsOn s then
    setFabPort s i { fabPort s i with state := .training, since := s.time.tick }
  else s

/-- A new synchronisation state; what was under way with the old one ends. -/
def setSync (s : State) (t : TimeState) : State :=
  { s with time := { s.time with sync := t, exch := none, missed := 0, slewLeft := 0 } }

/-- TIME_MASTER and TIME_PARENT_PORT (R350): a LOCKED module whose new parent port is not UP goes to HOLDOVER. -/
def setMaster (s : State) (v : Nat) : State :=
  let s := setCtl s 0x800003 0 v
  if s.time.sync = .free ∧ v = 1 then setSync s .master
  else if s.time.sync = .master ∧ v = 0 then setSync s .free
  else s
def setParent (s : State) (v : Nat) : State :=
  let s := setCtl s 0x800004 0 v
  if s.time.sync = .free ∧ v < 8 then setSync s .acquire
  else if s.time.sync ≠ .master ∧ v = 0xFF then setSync s .free
  else if v < 8 ∧ (fabPort s v).state ≠ .up then timeParentLost s v
  else s

/-- ATT_NONCE starts a quote; the last one is no longer readable (R444). -/
def askQuote (s : State) (v : Nat) : State := { s with sec := { s.sec with nonce := some (leBytes 32 v), quote := none } }

/-- A warm restart follows the answer of the message that asks for it (R376, R425, R454). -/
def askRestart (s : State) (cause : Nat) : State := { s with dict := { s.dict with restart := some cause } }

/-- An applied write of an entry for its object (R362-R364). -/
def applyWrite (s : State) (path : Nat) (e : DictEnt) (obj v : Nat) : State :=
  if e.sel then withPath s path (fun p => { p with sels := keep e.key v p.sels })
  else if e.key / 256 = 0x9100 then clearCounter s (e.key % 256)
  else
    match e.key with
    | 0x101001 => setUnlock s path v
    | 0x102001 => beginSave s
    | 0x102004 => { s with dict := { s.dict with copyA := erasedCopy, copyB := erasedCopy } }
    | 0x200008 => startMain s
    | 0x200009 => askRestart s 2
    | 0x210003 => noteCool (setCtl s e.key 0 v)
    | 0x210004 => noteCool (setCtl s e.key 0 v)
    | 0x210005 => noteCool (setCtl s e.key 0 v)
    | 0x400002 => splitChannels s v
    | 0x41100A => setCoalesce s obj e.key v
    | 0x41100B => setCoalesce s obj e.key v
    | 0x502101 => storeKernel s obj v
    | 0x613001 => setIndexEntry s obj e.key v
    | 0x613002 => setIndexEntry s obj e.key v
    | 0x61500A => setIndexEntry s obj e.key v
    | 0x61500B => setIndexEntry s obj e.key v
    | 0x61500C => setIndexEntry s obj e.key v
    | 0x680013 => setCtl (fixPasses s) e.key obj v
    | 0x701107 => clearStat s obj v
    | 0x720003 => unloadTab s v
    | 0x800003 => setMaster s v
    | 0x800004 => setParent s v
    | 0x801101 => enablePort s obj v
    | 0x900004 => { s with log := { s.log with ack := v } }
    | 0xA00005 => stageSegment s v
    | 0xA00006 => { s with sec := { s.sec with committing := true } }
    | 0xA00010 => askQuote s v
    | 0xA00020 => refreshReady (setCtl s e.key 0 v)
    | 0xA00036 => askRestart s Config.debugCloseArg
    | 0xB00003 => fenceCoreOp s v 2
    | 0xB00004 => { s with integ := { s.integ with clearNext := true } }
    | _ => setCtl s e.key obj v

/-! ### The checks of a write item (R362) -/

/-- The access policy (R448). -/
def denied (s : State) (path : Nat) (e : DictEnt) : Bool :=
  !(isMgmt path) && (keyIn e.key 0xA000 0xA0FF || (ctl s 0xA00022 == 0 && !e.sel))

/-- The value's type and length as the item gives them (R357). -/
def typeFits (e : DictEnt) (typ len : Nat) : Bool := typ == e.typ && len == e.len

/-- The value lies in its range; LOG_ACK has LOG_NEXT_SEQ for its end (R357, R408). -/
def inItsRange (s : State) (e : DictEnt) (v : Nat) : Bool := valueOk e v && (e.key != 0x900004 || decide (v ≤ s.log.next))

/-- The status of a write for an object, of all checks but those of DBG_TOKEN: the first that fails decides. -/
def writeStatus (s : State) (path : Nat) (binds : List (Nat × Nat)) (typ len v key : Nat) : Nat :=
  match entryAt key with
  | none => stNoEntry
  | some e =>
    if e.acc = 0 ∨ e.acc = 4 then stReadOnly
    else if denied s path e then stDenied
    else if e.expert && !e.sel && (pathOf s path).unlock.isNone then stLocked
    else if !(typeFits e typ len) then stType
    else if !(available s path key) || (key == 0xA00010 && s.sec.dbg == .erasing) then stUnavailable
    else
      match objOf s path binds e with
      | none => stNoObject
      | some obj =>
        if !(inItsRange s e v) then stRange
        else if e.acc = 3 && !(isIdle s e obj) then stNotIdle
        else if furtherFails s e obj v then stRefused
        else stOk

/-- A write of an E entry restarts the path's expert timeout (R379). -/
def restartUnlock (s : State) (path : Nat) (e : DictEnt) : State :=
  if e.expert then withPath s path (fun p => { p with unlock := p.unlock.map (fun _ => s.time.tick) }) else s

/-- One write of an entry: the state after it and its status. `signed` says whether a debug token's signature verifies. -/
def writeItem (s : State) (path : Nat) (binds : List (Nat × Nat)) (typ len v key : Nat) (signed : Bool) : State × Nat :=
  let st := writeStatus s path binds typ len v key
  match entryAt key with
  | none => (s, st)
  | some e =>
    if st ≠ stOk then (s, st)
    else if key = 0xA00033 then
      let r := applyToken s v signed
      (r.1, if r.2 then stOk else stRefused)
    else
      match objOf s path binds e with
      | none => (s, stNoObject)
      | some obj => (restartUnlock (applyWrite s path e obj v) path e, stOk)

/-! ### Items and messages end -/

/-- An item answered with another status than OK is counted (R385). -/
def countStatus (s : State) (st : Nat) : State := if st = stOk then s else bump s 0x81 1

/-- A WRITE of any entry discards the path's staging (R369). -/
def dropStage (s : State) (path : Nat) : State := withPath s path (fun p => { p with stage := none })

/-- A message came on the path (R377). -/
def usePath (s : State) (path : Nat) : State := withPath s path (fun p => { p with lastUse := s.time.tick })

/-- The message is answered: a restart that it asked for follows. -/
def endMessage (s : State) : State :=
  match s.dict.restart with
  | some c => warmRestart s c
  | none => s

/-- A message of one WRITE item, as a command of the table names it: the value in the entry's own type and length. Before
dictionary-ready nothing is processed (R370). -/
def writeOne (s : State) (path key v : Nat) (signed : Bool := false) : State :=
  if !s.dict.ready then s
  else
    match entryAt key with
    | none => bump s 0x81 1
    | some e =>
      let r := writeItem (dropStage (usePath s path) path) path [] e.typ e.len v key signed
      endMessage (countStatus r.1 r.2)

/-! ### Commands that write one entry -/

/-- EXPERT_UNLOCK. -/
def execExpertUnlock (path value : Nat) (s : State) : Result := .next (writeOne s path 0x101001 value)

/-- SAVE. -/
def execSave (path value : Nat) (s : State) : Result := .next (writeOne s path 0x102001 value)

/-- RESTORE_DEFAULTS. -/
def execRestoreDefaults (path value : Nat) (s : State) : Result := .next (writeOne s path 0x102004 value)

/-- COUNTER_CLEAR: a write of a counter that a write of 0 clears; any other entry is no counter (R363). -/
def execCounterClear (path entry value : Nat) (s : State) : Result :=
  if (entryAt entry).any (·.clears) then .next (writeOne s path entry value) else idle s

/-- STAT_CLEAR. -/
def execStatClear (path value : Nat) (s : State) : Result := .next (writeOne s path 0x701107 value)

/-- FENCE_CORE. -/
def execFenceCore (path value : Nat) (s : State) : Result := .next (writeOne s path 0xB00003 value)

/-- FENCE_CLEAR. -/
def execFenceClear (path value : Nat) (s : State) : Result := .next (writeOne s path 0xB00004 value)

/-- TAB_UNLOAD. -/
def execTabUnload (path value : Nat) (s : State) : Result := .next (writeOne s path 0x720003 value)

/-- CORE_PART. -/
def execCorePart (path die value : Nat) (s : State) : Result := .next (writeOne s path (0x720101 + die) value)

/-- KERNEL_CODE. -/
def execKernelCode (path : Nat) (block : List Byte) (s : State) : Result := .next (writeOne s path 0x502101 (leNat block))

/-- LOG_ACK. -/
def execLogAck (path value : Nat) (s : State) : Result := .next (writeOne s path 0x900004 value)

/-- POWER_ON. -/
def execPowerOn (path value : Nat) (s : State) : Result := .next (writeOne s path 0x200008 value)

/-- RESET_REQUEST. -/
def execResetRequest (path value : Nat) (s : State) : Result := .next (writeOne s path 0x200009 value)

/-- PORT_ENABLE. -/
def execPortEnable (path value : Nat) (s : State) : Result := .next (writeOne s path 0x801101 value)

/-- TIME_MASTER. -/
def execTimeMaster (path value : Nat) (s : State) : Result := .next (writeOne s path 0x800003 value)

/-- TIME_PARENT_PORT. -/
def execTimeParentPort (path value : Nat) (s : State) : Result := .next (writeOne s path 0x800004 value)

/-- FW_UPD_DATA. -/
def execFwUpdData (path : Nat) (data : List Byte) (s : State) : Result := .next (writeOne s path 0xA00005 (leNat data))

/-- FW_UPD_COMMIT. -/
def execFwUpdCommit (path value : Nat) (s : State) : Result := .next (writeOne s path 0xA00006 value)

/-- ATT_NONCE. -/
def execAttNonce (path : Nat) (nonce : List Byte) (s : State) : Result := .next (writeOne s path 0xA00010 (leNat nonce))

/-- DBG_TOKEN. -/
def execDbgToken (path : Nat) (token : List Byte) (signed : Bool) (s : State) : Result :=
  .next (writeOne s path 0xA00033 (leNat token) signed)

/-- DBG_CLOSE. -/
def execDbgClose (path value : Nat) (s : State) : Result := .next (writeOne s path 0xA00036 value)

/-- DBG_CHALLENGE: a read by a management-port path draws the value that the random source supplies. -/
def execDbgChallenge (path : Nat) (fresh : List Byte) (s : State) : Result :=
  if !s.dict.ready then idle s
  else
    let st := readStatus s path [] 0xA00031
    if st = stOk then .next (drawChallenge s fresh) else .next (countStatus s st)

end Sys2Proof.Machine
end

