-- ==== Sys2Proof/Machine/Messages.lean ====
section
/-!
DEFINITION. The messages of the object dictionary: header, selector bindings, items, the checks of a whole message, responses
(R365-R371).
-/
namespace Sys2Proof.Machine

/-! ### Header and parts (R367, R368) -/

def mMagic (h : Nat) : Nat := bits h 15 0
def mVer (h : Nat) : Nat := bits h 23 16
def mOp (h : Nat) : Nat := bits h 31 24
def mReqId (h : Nat) : Nat := bits h 63 32
def mItems (h : Nat) : Nat := bits h 79 64
def mSels (h : Nat) : Nat := bits h 81 80
def mNext (h : Nat) : Bool := bit h 82

/-- The reserved fields of a request's header, MSG_STATUS among them. -/
def mReserved (h : Nat) : Bool := bits h 87 83 == 0 && bits h 95 88 == 0 && bits h 127 96 == 0

/-- The header of a message's bytes. -/
def msgHeader (bs : List Byte) : Nat := numAt bs 0 16

/-- A response header: REQ_ID, OP, items, MSG_STATUS, and NEXT as the request has it. -/
def respHeader (h items status : Nat) : List Byte :=
  leBytes 16 (0x4144 + put 16 (mVer h) + put 24 ((mOp h + 0x80) % 256) + put 32 (mReqId h) + put 64 items
    + put 82 (ofBool (mNext h)) + put 88 status)

/-- The key index·256 + subindex of an item's low word. -/
def itemKey (w : Nat) : Nat := bits w 15 0 * 256 + bits w 23 16

/-- Padding to 4 bytes. -/
def pad4 (n : Nat) : Nat := roundUp n 4

/-- A parsed item: key, TYPE, OFFSET, SEG_LEN, value or data. -/
structure Item where
  key : Nat
  typ : Nat := 0
  off : Nat := 0
  segLen : Nat := 0
  data : List Byte := []
  deriving DecidableEq, Repr

/-- Selector bindings: `none` where one is cut off or a reserved field is not zero. -/
def parseBinds : Nat → List Byte → Option (List (Nat × Nat) × List Byte)
  | 0, bs => some ([], bs)
  | n + 1, bs =>
    let w := numAt bs 0 16
    if bs.length < 16 || bits w 63 24 != 0 then none
    else (parseBinds n (bs.drop 16)).map (fun r => ((itemKey w, bits w 127 64) :: r.1, r.2))

/-- Bytes of an item before its value. -/
def itemHead (op : Nat) : Nat :=
  match op with
  | 1 => 4
  | 2 => 8
  | 3 => 4
  | _ => 12

/-- Items of a request: `none` where one is cut off or a reserved field is not zero. -/
def parseItems (op : Nat) : Nat → List Byte → Option (List Item × List Byte)
  | 0, bs => some ([], bs)
  | n + 1, bs =>
    let w := numAt bs 0 (itemHead op)
    let hasData := op == 2 || op == 5
    let len := if hasData then bits w 47 32 else 0
    let used := itemHead op + pad4 len
    let reserved := if hasData then bits w 63 48 else bits w 31 24
    if bs.length < used || reserved != 0 then none
    else
      let i : Item := {
        key := itemKey w, typ := if hasData then bits w 31 24 else 0,
        off := if op = 4 then bits w 63 32 else if op = 5 then bits w 95 64 else 0,
        segLen := if op = 4 then bits w 95 64 else 0, data := slice bs (itemHead op) len }
      (parseItems op n (bs.drop used)).map (fun r => (i :: r.1, r.2))

/-- A message's bindings and items; `none` where its length differs from the sum of its parts (R370). -/
def parseMsg (bs : List Byte) : Option (List (Nat × Nat) × List Item) :=
  let h := msgHeader bs
  (parseBinds (mSels h) (bs.drop 16)).bind (fun b =>
    (parseItems (mOp h) (mItems h) b.2).bind (fun i => if i.2.isEmpty then some (b.1, i.1) else none))

/-! ### DESCRIBE (R371) -/

/-- The first entry above a key; the table is in ascending order. -/
def entryAfter (key : Nat) : Option DictEnt := dictEntries.find? (fun e => decide (key < e.key))

/-- The entry that an item describes. -/
def described (next : Bool) (key : Nat) : Option DictEnt := if next then entryAfter key else entryAt key

/-- The stated range of an entry as it stands: LOG_ACK ends at LOG_NEXT_SEQ (R408), SHARD_NUM below SHARD_COUNT of the selected index
(R352). -/
def statedRange (s : State) (path : Nat) (binds : List (Nat × Nat)) (e : DictEnt) : Option (Nat × Nat) :=
  if e.key = 0x900004 then some (0, s.log.next)
  else if e.key = 0x811004 then some (0, (((objOf s path binds e).map (ctlObj s 0x811003)).getD 4096) - 1)
  else if e.ranged then some (e.lo, e.hi) else none

/-- The 64-byte descriptor of an entry. -/
def descriptor (s : State) (path : Nat) (binds : List (Nat × Nat)) (e : DictEnt) : List Byte :=
  let range := (statedRange s path binds e).getD (0, 0)
  let short (v : Nat) : Nat := if e.len ≤ 8 ∧ e.typ ≠ 0x0A ∧ e.typ ≠ 0x0B then v else 0
  leBytes 32 (put 0 e.acc + put 8 (ofBool e.expert) + put 16 (ofBool e.persist) + put 24 (ofBool e.sel)
      + put 25 (ofBool (e.win != 0)) + put 26 (ofBool e.clears) + put 32 e.len
      + put 64 (short range.1) + put 128 (short range.2) + put 192 (short e.dflt))
    ++ ((ascii e.name).take 32 ++ List.replicate 32 0).take 32

/-! ### Checks of the whole message (R370) -/

/-- The size of a response item, from the entry's length. -/
def itemSize (op : Nat) (next : Bool) (i : Item) : Nat :=
  let len (k : Nat) : Nat := ((entryAt k).map (·.len)).getD 0
  match op with
  | 1 => 8 + pad4 (len i.key)
  | 3 => if (described next i.key).isSome then 72 else 8
  | 4 => 8 + pad4 (min i.segLen (len i.key))
  | _ => 8

/-- A binding names a selector, with a value in its range (R368). -/
def bindOk (b : Nat × Nat) : Bool := (entryAt b.1).any (fun e => e.sel && valueOk e b.2)

/-- MSG_STATUS of a message of a path whose messages are limited to `limit` bytes. -/
def msgStatus (s : State) (limit : Nat) (bs : List Byte) : Nat :=
  let h := msgHeader bs
  if mVer h ≠ 1 then 1
  else if mOp h < 1 ∨ 5 < mOp h then 2
  else if mItems h < 1 || decide (1024 < mItems h) || !(mReserved h) || (mNext h && mOp h != 3) then 3
  else
    match parseMsg bs with
    | none => 3
    | some m =>
      if limit < 16 + sumOf (m.2.map (itemSize (mOp h) (mNext h))) then 4
      else if !(m.1.all bindOk) then 5
      else if !s.dict.ready then 6
      else 0

/-! ### Items (R365, R368, R369) -/

/-- A response item. -/
def respItem (key status typ : Nat) (v : List Byte) : List Byte :=
  leBytes 8 (key / 256 % 65536 + put 16 (key % 256) + put 24 typ + put 32 v.length + put 48 status)
    ++ v ++ List.replicate (pad4 v.length - v.length) 0

/-- The type an item's response shows. -/
def typeOf (key : Nat) : Nat := ((entryAt key).map (·.typ)).getD 0

/-- A SEG_READ item. -/
def segReadItem (s : State) (path : Nat) (binds : List (Nat × Nat)) (i : Item) : State × Nat × List Byte :=
  let st := readStatus s path binds i.key
  if st ≠ stOk then (s, st, [])
  else
    match entryAt i.key with
    | none => (s, stNoEntry, [])
    | some e =>
      if e.typ ≠ 0x0B then (s, stType, [])
      else if i.segLen < 1 || decide (16384 < i.segLen) || decide (e.len ≤ i.off) then (s, stRange, [])
      else
        let r := readItem s path binds i.key
        (r.1, r.2.1, slice r.2.2 i.off i.segLen)

/-- A SEG_WRITE item: staged, and checked and applied as one write by the segment that completes the entry's length. -/
def segWriteItem (s : State) (path : Nat) (binds : List (Nat × Nat)) (i : Item) : State × Nat :=
  match entryAt i.key with
  | none => (dropStage s path, stNoEntry)
  | some e =>
    if e.typ ≠ 0x0B ∨ i.typ ≠ 0x0B then (dropStage s path, stType)
    else
      let old := if i.off = 0 then some [] else
        match (pathOf s path).stage with
        | some g => if g.1 = i.key ∧ g.2.length = i.off then some g.2 else none
        | none => none
      match old with
      | none => (dropStage s path, stSegment)
      | some b =>
        let whole := b ++ i.data
        if whole.length < e.len then (withPath s path (fun p => { p with stage := some (i.key, whole) }), stOk)
        else writeItem (dropStage s path) path binds i.typ whole.length (leNat whole) i.key (Config.tokenSigned whole)

/-- One item of a message: the state after it and its response. -/
def runItem (s : State) (path op : Nat) (next : Bool) (binds : List (Nat × Nat)) (i : Item) : State × List Byte :=
  match op with
  | 1 =>
    let r := readItem s path binds i.key
    (countStatus r.1 r.2.1, respItem i.key r.2.1 (typeOf i.key) r.2.2)
  | 2 =>
    let r := writeItem (dropStage s path) path binds i.typ i.data.length (leNat i.data) i.key (Config.tokenSigned i.data)
    (countStatus r.1 r.2, respItem i.key r.2 (typeOf i.key) [])
  | 3 =>
    (match described next i.key with
     | none => (countStatus s stNoEntry, respItem i.key stNoEntry 0 [])
     | some e =>
       if available s path e.key then (s, respItem e.key stOk e.typ (descriptor s path binds e))
       else (countStatus s stUnavailable, respItem e.key stUnavailable e.typ []))
  | 4 =>
    let r := segReadItem s path binds i
    (countStatus r.1 r.2.1, respItem i.key r.2.1 (typeOf i.key) r.2.2)
  | _ =>
    let r := segWriteItem s path binds i
    (countStatus r.1 r.2, respItem i.key r.2 (typeOf i.key) [])

/-- The items of a message in their order. -/
def runItems (path op : Nat) (next : Bool) (binds : List (Nat × Nat)) : List Item → State → State × List Byte
  | [], s => (s, [])
  | i :: r, s =>
    let a := runItem s path op next binds i
    let b := runItems path op next binds r a.1
    (b.1, a.2 ++ b.2)

/-- A message of a path, whose MAGIC is right: the state after it and its response. -/
def runMessage (s : State) (path limit : Nat) (bs : List Byte) : State × List Byte :=
  let h := msgHeader bs
  let st := msgStatus s limit bs
  match parseMsg bs with
  | none => (s, respHeader h 0 st)
  | some m =>
    if st ≠ 0 then (s, respHeader h 0 st)
    else
      let r := runItems path (mOp h) (mNext h) m.1.reverse m.2 s
      (r.1, respHeader h (mItems h) 0 ++ r.2)

end Sys2Proof.Machine
end

