-- ==== Sys2Proof/Machine/Dictionary.lean ====
section
/-!
DEFINITION. Access paths of the dictionary: the BAR 2 mailbox, the management port with its paths and kept responses, the
message commands, and the timed events of paths and of the saved set (R366, R370-R381).
-/
namespace Sys2Proof.Machine

/-! ### The management port (R374-R378) -/

/-- The port answers dictionary messages: the management controller has started (R430), no duplicate address was found, and
the TAP does not hold the pins. -/
def mgmtUp (s : State) : Bool := s.pins.aux && s.pins.sampled && !s.dict.dupAddr && !s.tap.pinsTaken

/-- A datagram that R376 calls malformed. -/
def malformedDatagram (bs : List Byte) : Bool :=
  decide (bs.length < 16 ∨ 1232 < bs.length) || mMagic (msgHeader bs) != 0x4144

/-- A path is open, and its time without a message is over (R377). -/
def pathIdle (s : State) (p : Path) : Bool := p.peer.isSome && decide (p.lastUse + ctl s 0x103007 * 1000000000 ≤ s.time.tick)

/-- A released path begins with Defaults when it is opened again. -/
def releaseIdle (s : State) : State :=
  { s with dict := { s.dict with paths := s.dict.paths.map (fun p => if pathIdle s p then {} else p) } }

/-- The open path of a peer. -/
def peerPath (s : State) (peer : Peer) : Option Nat :=
  lowestFrom (fun n => (pathOf s n).peer == some peer) 2 16

/-- The path that a new peer gets: the lowest that is not open, else the one used least recently. -/
def newPath (s : State) : Nat :=
  match lowestFrom (fun n => (pathOf s n).peer.isNone) 2 16 with
  | some n => n
  | none => ((List.range 15).map (· + 3)).foldl (fun b n => if (pathOf s n).lastUse < (pathOf s b).lastUse then n else b) 2

/-- The path that a message of a peer uses. -/
def openPath (s : State) (peer : Peer) : State × Nat :=
  let s := releaseIdle s
  match peerPath s peer with
  | some n => (usePath s n, n)
  | none =>
    let n := newPath s
    (usePath (withPath s n (fun _ => { peer := some peer })) n, n)

/-- A message to ff02::1 is processed only when it reads or describes identity and inventory entries (R378). -/
def allNodesOk (bs : List Byte) : Bool :=
  let h := msgHeader bs
  (mOp h == 1 || mOp h == 3) &&
    (match parseMsg bs with
     | none => false
     | some m => m.2.all (fun i => keyIn i.key 0x1000 0x11FF))

/-- A datagram leaves the port. -/
def sendDatagram (s : State) (peer : Peer) (bs : List Byte) : State := { s with dict := { s.dict with sent := (peer, bs) :: s.dict.sent } }

/-- A well-formed dictionary datagram: answered again from the kept responses, or processed, answered and its response kept
(R376, R378). -/
def answerDatagram (s : State) (peer : Peer) (bs : List Byte) : State :=
  let o := openPath s peer
  match (pathOf o.1 o.2).replies.find? (fun r => r.1 == mReqId (msgHeader bs)) with
  | some r => sendDatagram o.1 peer r.2
  | none =>
    let r := runMessage o.1 o.2 1232 bs
    let s := withPath r.1 o.2 (fun p => { p with replies := ((mReqId (msgHeader bs), r.2) :: p.replies).take 8 })
    endMessage (sendDatagram s peer r.2)

/-! ### The mailbox (R372, R373) -/

/-- Change a port's mailbox. -/
def withBox (s : State) (p : Port) (f : Mailbox → Mailbox) : State := setPort s p { port s p with mb := f (port s p).mb }

/-- The response stands in MB_RSP: RSP_BYTES is set, BUSY cleared, DONE set, and with IRQ_EN the message of the vector follows. -/
def answerBox (s : State) (p : Port) (bs : List Byte) : State :=
  let s := withBox s p (fun m => { m with rsp := writeBytes m.rsp 0 bs, rspBytes := bs.length, busy := false, taken := 0, done := true })
  let m := (port s p).mb
  if m.irqEn then sendMsi s p m.vector else s

/-- The request of a busy mailbox. -/
def boxRequest (m : Mailbox) : List Byte := readBytes m.req 0 m.taken

/-- The request in a mailbox is processed as a message of PATH 0 or 1. A wrong MAGIC has no response (R370). -/
def answerMailbox (s : State) (p : Port) : State :=
  let bs := boxRequest (port s p).mb
  if mMagic (msgHeader bs) ≠ 0x4144 then answerBox s p []
  else
    let r := runMessage (usePath s (portNo p)) (portNo p) 16384 bs
    endMessage (answerBox r.1 p r.2)

/-- MB_STATUS.READY: from dictionary-ready. -/
def boxReady (s : State) : Bool := s.dict.ready

/-- The fields of MB_CTRL. -/
def setBoxCtrl (s : State) (p : Port) (value : Nat) : State :=
  withBox s p (fun m => { m with irqEn := bit value 27, vector := bits value 26 16, reqBytes := bits value 14 0 })

/-- The answer to a REQ_BYTES out of range: the header that stands in MB_REQ as a response of BAD_FORMAT, with REQ_ID 0. -/
def badBytesHeader (m : Mailbox) : List Byte :=
  leBytes 16 (0x4144 + put 16 (readNat m.req 2 1) + put 24 ((readNat m.req 3 1 + 0x80) % 256) + put 88 3)

/-- A port whose registers the host can reach. -/
def portLive (s : State) (p : Port) : Bool := (port s p).linkUp

/-- A write of MB_CTRL: with GO = 1 it submits the request; while BUSY, or before READY, GO is ignored and OVERRUN set. A
REQ_BYTES below 16 or above 16,384 is answered at once with BAD_FORMAT and REQ_ID 0. -/
def mailboxGo (s : State) (p : Port) (value : Nat) : State :=
  let s := setBoxCtrl s p value
  let m := (port s p).mb
  if !(bit value 31) then s
  else if m.busy || !(boxReady s) then withBox s p (fun m => { m with overrun := true })
  else if m.reqBytes < 16 ∨ 16384 < m.reqBytes then answerBox s p (badBytesHeader m)
  else withBox s p (fun m => { m with busy := true, taken := m.reqBytes })

/-- A write of MB_STATUS: DONE and OVERRUN are cleared by a write of 1. -/
def mbStatusClear (s : State) (p : Port) (value : Nat) : State :=
  withBox s p (fun m => { m with done := m.done && !(bit value 2), overrun := m.overrun && !(bit value 3) })

/-- MAILBOX_GO. -/
def execMailboxGo (p : Port) (value : Nat) (s : State) : Result :=
  if portLive s p then .next (mailboxGo s p value) else idle s

/-- MB_STATUS_CLEAR. -/
def execMbStatusClear (p : Port) (value : Nat) (s : State) : Result :=
  if portLive s p then .next (mbStatusClear s p value) else idle s

/-! ### Message commands (R365-R371) -/

/-- The bytes of a message that stands at its source. -/
def messageAt (s : State) (src : MsgSrc) : Option (List Byte) :=
  match src with
  | .mailbox p => if (port s p).mb.busy then some (boxRequest (port s p).mb) else none
  | .datagram _ _ _ bs => some bs

/-- The message is discarded or refused before its items: a datagram whose checksum fails or that is malformed, a wrong MAGIC in
a mailbox, or an OP outside 1-5. -/
def malformed (src : MsgSrc) (bs : List Byte) : Bool :=
  let h := msgHeader bs
  (match src with
   | .mailbox _ => mMagic h != 0x4144
   | .datagram _ _ ok bs => !ok || malformedDatagram bs) || decide (mOp h < 1 ∨ 5 < mOp h)

/-- A message is taken from its source (R366, R370, R376). -/
def takeMessage (s : State) (src : MsgSrc) : State :=
  match src with
  | .mailbox p => answerMailbox s p
  | .datagram peer allNodes ok bs =>
    if !(mgmtUp s) then s
    else if ctl s 0x103001 = 0 then s
    else if !ok || malformedDatagram bs then bump s 0x80 1
    else if allNodes && !(allNodesOk bs) then s
    else answerDatagram s peer bs

/-- A message command of one OP: nothing where no message of it stands at the source. -/
def runOp (op : Nat) (src : MsgSrc) (s : State) : Result :=
  match messageAt s src with
  | none => idle s
  | some bs => if malformed src bs || mOp (msgHeader bs) != op then idle s else .next (takeMessage s src)

/-- READ. -/
def execRead (src : MsgSrc) (s : State) : Result := runOp 1 src s

/-- WRITE. -/
def execWrite (src : MsgSrc) (s : State) : Result := runOp 2 src s

/-- DESCRIBE. -/
def execDescribe (src : MsgSrc) (s : State) : Result := runOp 3 src s

/-- SEG_READ. -/
def execSegRead (src : MsgSrc) (s : State) : Result := runOp 4 src s

/-- SEG_WRITE. -/
def execSegWrite (src : MsgSrc) (s : State) : Result := runOp 5 src s

/-- MALFORMED_MESSAGE: a datagram that finds the receive queue of 32 full is discarded and counted; a malformed message is
discarded, or answered with its header alone. -/
def execMalformedMessage (src : MsgSrc) (queueFull : Bool) (s : State) : Result :=
  match messageAt s src with
  | none => idle s
  | some bs =>
    match src, queueFull with
    | .datagram _ _ _ _, true => if mgmtUp s && ctl s 0x103001 == 1 then .next (bump s 0x80 1) else idle s
    | _, _ => if malformed src bs then .next (takeMessage s src) else idle s

/-! ### Neighbour discovery and echo (R375; message formats PRESUMED, log entry 140) -/

/-- The port's one IPv6 address, formed from its MAC address. -/
def linkLocal (s : State) : List Byte :=
  [0xFE, 0x80, 0, 0, 0, 0, 0, 0, 0x00, 0x4C, 0x41, 0xFF, 0xFE, 0x49, 0x4D, BitVec.ofNat 8 s.pins.modId]

/-- The addresses that name no node and all nodes. -/
def unspecified : List Byte := List.replicate 16 0
def allNodes : List Byte := [0xFF, 0x02] ++ List.replicate 13 0 ++ [0x01]

/-- The sum of the 16-bit words of a message, with its carries added back. -/
def wordSum (bs : List Byte) : Nat :=
  let t := sumOf (bs.zipIdx.map (fun b => if b.2 % 2 = 0 then 256 * b.1.toNat else b.1.toNat))
  let u := t % 65536 + t / 65536
  u % 65536 + u / 65536

/-- An ICMPv6 message with its checksum over addresses, length and protocol. -/
def icmpMessage (s : State) (dest : List Byte) (kind : Nat) (body : List Byte) : List Byte :=
  let n := body.length + 4
  let pseudo := linkLocal s ++ dest ++ (leBytes 4 n).reverse ++ [0, 0, 0, 58]
  let sum := 65535 - wordSum (pseudo ++ [BitVec.ofNat 8 kind, 0, 0, 0] ++ body)
  [BitVec.ofNat 8 kind, 0] ++ (leBytes 2 sum).reverse ++ body

/-- An ICMPv6 message leaves the port. -/
def sendIcmp (s : State) (dest : List Byte) (kind : Nat) (body : List Byte) : State :=
  { s with dict := { s.dict with icmp := (dest, icmpMessage s dest kind body) :: s.dict.icmp } }

/-- The advertisement that answers a solicitation: flags, target, and the MAC address as an option. A node without an address is
answered on the all-nodes address. -/
def advertise (s : State) (source : List Byte) : State :=
  let known := source != unspecified
  sendIcmp s (if known then source else allNodes) 136
    ([if known then 0x60 else 0x20, 0, 0, 0] ++ linkLocal s ++ [2, 1] ++ macAddress s)

/-- NEIGHBOUR_DISCOVERY: a solicitation of the port's address is answered, also where another node holds it; an echo request to
it is answered unless one does; a failed duplicate address detection is logged (R375). -/
def execNeighbourDiscovery (message : NdMessage) (s : State) : Result :=
  if !s.pins.aux || !s.pins.sampled || s.tap.pinsTaken then idle s
  else
    match message with
    | .duplicate => if s.dict.dupAddr then idle s else .next (raise { s with dict := { s.dict with dupAddr := true } } 0x0604 2 7 0)
    | .solicitation source target => if target = linkLocal s then .next (advertise s source) else idle s
    | .echo source dest body => if dest = linkLocal s ∧ mgmtUp s then .next (sendIcmp s source 129 body) else idle s

/-- PLCA_BEACON_CHANGE: PLCA while BEACONs are seen, else the CSMA/CD fallback (R374). -/
def execPlcaBeaconChange (seen : Bool) (s : State) : Result :=
  if !s.pins.aux || s.tap.pinsTaken then idle s
  else .next { s with dict := { s.dict with link := if seen then 1 else 2 } }

/-! ### Timed events (R377, R379, R381) -/

/-- DAP_PATH_RELEASE: the path loses selectors, unlock, staging and kept responses. -/
def execDapPathRelease (path : Nat) (s : State) : Result :=
  if isMgmt path && pathIdle s (pathOf s path) then .next (withPath s path (fun _ => {})) else idle s

/-- EXPERT_UNLOCK_EXPIRY: EXPERT_TIMEOUT passed without a write to an E entry on the path. -/
def execExpertUnlockExpiry (path : Nat) (s : State) : Result :=
  match (pathOf s path).unlock with
  | none => idle s
  | some t =>
    if t + ctl s 0x101003 * 1000000000 ≤ s.time.tick then .next (withPath s path (fun p => { p with unlock := none })) else idle s

/-- The copy that a SAVE overwrites: one that is not valid, else the one with the lower sequence number (R381). -/
def savesToA (d : Dict) : Bool :=
  !d.copyA.valid || (d.copyB.valid && decide (d.copyA.seq < d.copyB.seq))

/-- SAVE_DONE: the captured set is in FL1 under a sequence number above the other's. Past the rated 100,000 SAVEs it may fail, and
the previous set stands. -/
def execSaveDone (good : Bool) (s : State) : Result :=
  match s.dict.saving with
  | none => idle s
  | some vals =>
    let d := s.dict
    if good then
      let c : SavedCopy := { seq := max d.copyA.seq d.copyB.seq + 1, valid := true, vals := vals }
      let d := if savesToA d then { d with copyA := c } else { d with copyB := c }
      .next { s with dict := { d with saving := none, saveState := 2, saveCount := min 0xFFFFFFFF (d.saveCount + 1) } }
    else if d.saveCount < 100000 then idle s
    else
      .next (raise { s with dict := { breakSave d with saveState := 3 } } 0x0601 2 7 0 (args := [d.saveCount]))

end Sys2Proof.Machine
end

