-- ==== Sys2Proof/Machine/FabricLink.lean ====
section
/-!
DEFINITION. Fabric port and link-control commands and time synchronisation (R335-R338, R349-R350).
-/
namespace Sys2Proof.Machine

/-- PORT_TRAINING_DONE: training complete and FEC locked; FSEQ 0 each way, credits full (R338). -/
def execPortTrainingDone (i : Nat) (s : State) : Result :=
  let p := fabPort s i
  if p.state = .training then
    .next (setFabPort s i { p with
      state := .up, since := s.time.tick, txSeq := 0, rxSeq := 0, nakked := false,
      unacked := [], queue := [], unrec := [], sentFlits := List.replicate 8 0, peerFreed := List.replicate 8 0,
      freed := List.replicate 8 0, lastLc := s.time.tick })
  else idle s

/-- PORT_TRAINING_TIMEOUT: tF_TRAIN Max of 500 ms elapsed; log and restart training (R338, R355). -/
def execPortTrainingTimeout (i : Nat) (s : State) : Result :=
  let p := fabPort s i
  if p.state = .training ∧ p.since + 500000000 ≤ s.time.tick then
    .next (raise (setFabPort s i { p with since := s.time.tick }) 0x0502 2 5 i (args := [3]))
  else idle s

/-- FEC_LOCK_LOST: an UP port loses FEC lock (1) or has had 16 unrecovered frames within 1 ms (2), and trains again
(R338). -/
def execFecLockLost (i cause : Nat) (s : State) : Result :=
  let p := fabPort s i
  let recent := (p.unrec.filter (fun t => decide (s.time.tick < t + 1000000))).length
  if p.state = .up ∧ (cause = 1 ∨ (cause = 2 ∧ 16 ≤ recent)) then .next (portDown s i .training cause)
  else idle s

/-- ACK: frames up to the named one are retired (R337). -/
def execAck (i : Nat) (l : LinkControl) (s : State) : Result :=
  match takeLc s i l with
  | none => idle s
  | some s =>
    let p := fabPort s i
    if p.unacked.any (fun u => u.fseq == l.aseq) then
      let rest := (p.unacked.dropWhile (fun u => u.fseq != l.aseq)).drop 1
      .next (pump (setFabPort s i { p with unacked := rest }) i)
    else .next (pump s i)

/-- NAK: the sender transmits again from the named frame, RPL increased by 1 (R337). -/
def execNak (i : Nat) (l : LinkControl) (s : State) : Result :=
  match takeLc s i l with
  | none => idle s
  | some s =>
    let p := fabPort s i
    let before := p.unacked.takeWhile (fun u => u.fseq != l.aseq)
    let again := (p.unacked.dropWhile (fun u => u.fseq != l.aseq)).map (fun u => { u with rpl := min 3 (u.rpl + 1) })
    let s := setFabPort s i { p with unacked := before ++ again, out := again.reverse ++ p.out }
    .next (pump (bump s 0x71 again.length) i)

/-- CREDIT: the totals of freed receive flits are taken (R335, R336). -/
def execCredit (i : Nat) (l : LinkControl) (s : State) : Result :=
  match takeLc s i l with
  | none => idle s
  | some s => .next (pump s i)

/-- LINK_CONTROL_SEND: an UP port sends a link-control flit between frames (R336). -/
def execLinkControlSend (i : Nat) (s : State) : Result :=
  if (fabPort s i).state = .up then .next (sendLc s i .credit 0) else idle s

/-- TIME_EXCHANGE_START: every TIME_INTERVAL a module that is not the master asks its time parent (R349).
Every time of an exchange is the port's copy of the time base, `lag` behind ACLK (R22). -/
def execTimeExchangeStart (lag : Nat) (s : State) : Result :=
  let i := ctl s 0x800004
  let t := s.time
  let due := match t.lastStart with
    | none => true
    | some x => decide (x + ctl s 0x800005 ≤ t.tick)
  if i < 8 ∧ (t.sync = .acquire ∨ t.sync = .locked ∨ t.sync = .holdover) ∧ (fabPort s i).state = .up ∧ due = true
      ∧ t.exch = none then
    let s := { s with time := { t with exch := some { num := t.nextNum, t1 := seenTime s lag, sent := t.tick },
                                       nextNum := (t.nextNum + 1) % 4096, lastStart := some t.tick } }
    .next (sendLc s i .timeReq t.nextNum (seenTime s lag))
  else idle s

/-- TIME_REQ: answered with the arrival time t2 and the send time t3 (R349). -/
def execTimeReq (i : Nat) (l : LinkControl) (lagIn lagOut : Nat) (s : State) : Result :=
  match takeLc s i l with
  | none => idle s
  | some s => .next (sendLc (pump s i) i .timeRsp l.aseq (seenTime s lagIn) (seenTime s lagOut))

/-- The offset of an exchange: ((t2 - t1) - (t4 - t3)) / 2 (R349). -/
def exchangeOffset (t1 t2 t3 t4 : Nat) : Int := (((t2 : Int) - t1) - ((t4 : Int) - t3)).tdiv 2

/-- A signed value as the 64-bit argument of an event. -/
def arg64 (i : Int) : Nat := encodeSigned 64 i

/-- TIME_RSP: the offset steps or slews the time base (R350); an answer after more than 10 µs finds its exchange dropped (R349). -/
def execTimeRsp (i : Nat) (l : LinkControl) (lag : Nat) (s : State) : Result :=
  match takeLc s i l with
  | none => idle s
  | some s =>
    let s := pump s i
    match s.time.exch with
    | none => .next s
    | some e =>
      if e.num ≠ l.aseq ∨ ctl s 0x800004 ≠ i ∨ e.sent + 10000 < s.time.tick then .next s
      else
        let off := exchangeOffset e.t1 l.tA l.tB (seenTime s lag)
        let t := { s.time with exch := none, missed := 0, offset := off }
        match t.sync with
        | .acquire =>
          .next (raise { s with time := { t with base := (t.base + off).toNat, sync := .locked, slewLeft := 0 } }
            0x0506 1 (args := [arg64 off]))
        | .locked =>
          let s := { s with time := { t with slewLeft := off } }
          if 1000 < off.natAbs then .next (raise s 0x0508 1 (args := [arg64 off])) else .next s
        | .holdover => .next { s with time := { t with slewLeft := off, sync := .locked } }
        | .free => .next { s with time := { s.time with exch := none } }
        | .master => .next { s with time := { s.time with exch := none } }

/-- TIME_EXCHANGE_TIMEOUT: an exchange without answer within 10 µs is dropped; 8 in a row leave LOCKED (R349, R350). -/
def execTimeExchangeTimeout (s : State) : Result :=
  match s.time.exch with
  | none => idle s
  | some e =>
    if e.sent + 10000 ≤ s.time.tick then
      let t := { s.time with exch := none, missed := s.time.missed + 1 }
      if t.sync = .locked ∧ 8 ≤ t.missed then
        .next (raise { s with time := { t with sync := .holdover, slewLeft := 0 } } 0x0507 2)
      else .next { s with time := t }
    else idle s

/-- TIME_SLEW: an ACLK cycle in which the time base adds or removes 1 ns, at most once every 5,000 ns, so that it never steps
backward (R350; DESIGN CHOICE, log entry 1). -/
def execTimeSlew (s : State) : Result :=
  let t := s.time
  let due := match t.lastSlew with
    | none => true
    | some x => decide (x + 5000 ≤ t.tick)
  if t.slewLeft = 0 ∨ due = false then idle s
  else if 0 < t.slewLeft then
    .next (passTime s { t with base := t.base + 41, tick := t.tick + 40, slewLeft := t.slewLeft - 1, lastSlew := some t.tick })
  else
    .next (passTime s { t with base := t.base + 39, tick := t.tick + 40, slewLeft := t.slewLeft + 1, lastSlew := some t.tick })

end Sys2Proof.Machine
end

