-- ==== Sys2Proof/Machine/Registers.lean ====
section
/-!
DEFINITION. Register writes of the host: BAR 0, BAR 2, and the enables of a port's PCIe capabilities (R193-R196, R372).
-/
namespace Sys2Proof.Machine

/-- Replace half of a 64-bit register. -/
def setHalf (old : Nat) (high : Bool) (v : Nat) : Nat :=
  if high then put 32 (v % 2 ^ 32) + old % 2 ^ 32 else put 32 (old / 2 ^ 32) + v % 2 ^ 32

/-- A 32-bit write of BAR 0 at an aligned offset (R194): the admin queue registers take writes only while ENABLED is 0 (R196). -/
def writeBar0 (s : State) (p : Port) (off v : Nat) : State :=
  let h := port s p
  let setup (f : HostPort → HostPort) : State := if h.enabled then s else setPort s p (f h)
  if off = 0x10 then setup (fun h => { h with adminSq := setHalf h.adminSq false v })
  else if off = 0x14 then setup (fun h => { h with adminSq := setHalf h.adminSq true v })
  else if off = 0x18 then setup (fun h => { h with adminCq := setHalf h.adminCq false v })
  else if off = 0x1C then setup (fun h => { h with adminCq := setHalf h.adminCq true v })
  else if off = 0x20 then setup (fun h => { h with adminSizes := v })
  else if off = 0x24 then adminCtrl s p v
  else if 0x10000 ≤ off ∧ off < 0x18000 then ringDoorbell s p ((off - 0x10000) / 8) v (off % 8 == 0)
  else if 0x20000 ≤ off ∧ off < 0x28000 then setMsix s p ((off - 0x20000) / 4) v
  else s

/-- A 32-bit write of the registers of BAR 2. -/
def writeBar2 (s : State) (p : Port) (off v : Nat) : State :=
  if off = 0 then mailboxGo s p v else if off = 4 then mbStatusClear s p v else s

/-- A write of MB_REQ (R372); while BUSY it is ignored and OVERRUN is set (R373). -/
def writeReq (s : State) (p : Port) (off width v : Nat) : State :=
  withBox s p (fun m =>
    if m.busy then { m with overrun := true } else { m with req := writeBytes m.req (off - 0x1000) (leBytes width v) })

/-- The feature whose control stands at an offset, and whether the module has it (R193). The numbering is PRESUMED, log entry 11. -/
def featureAt (off : Nat) : Option LinkFeature :=
  [.pasid, .ats, .pri, .linkIde, .msix, .selectiveIde, .msi, .intx, .srIov][off]?
def supported (f : LinkFeature) : Bool :=
  match f with
  | .pasid | .ats | .pri | .linkIde | .msix => true
  | .selectiveIde | .msi | .intx | .srIov => false

/-- The host writes a feature's control: the enables of PASID, ATS and PRI, the upper bits of PRI being its allocation (R193). The
control of a feature that the module lacks is no register of it, and the write is dropped as PCIe prescribes (R14); the keys of IDE
and the table of MSI-X have commands and registers of their own. -/
def writeCap (s : State) (p : Port) (off v : Nat) : State :=
  let h := port s p
  match (featureAt off).filter supported with
  | some .pasid => setPort s p { h with pasidOn := bit v 0 }
  | some .ats => setPort s p { h with atsOn := bit v 0 }
  | some .pri => issuePages (setPort s p { h with priOn := bit v 0, priAlloc := if bit v 0 then v / 2 else 0 })
  | _ => s

/-- A 32-bit access, or a 64-bit one as two of 32 bits in ascending order; any other is ignored (R194). -/
def regAccess (f : State → Nat → Nat → State) (s : State) (off width v : Nat) : State :=
  if !(aligned off width) then s
  else if width = 4 then f s off v
  else if width = 8 then f (f s off (v % 2 ^ 32)) (off + 4) (v / 2 ^ 32)
  else s

/-- REGISTER_WRITE. -/
def execRegisterWrite (p : Port) (bar off width value : Nat) (s : State) : Result :=
  if !(portLive s p) then idle s
  else if bar = 0 then .next (regAccess (fun s o v => writeBar0 s p o v) s off width value)
  else if bar = 2 then
    if 0x1000 ≤ off ∧ off < 0x5000 then
      if aligned off width && [1, 2, 4, 8].contains width then .next (writeReq s p off width value) else idle s
    else .next (regAccess (fun s o v => writeBar2 s p o v) s off width value)
  else if bar = 7 then .next (writeCap s p off value)
  else idle s

/-! ### Registers as the host reads them (R194, R195, R372) -/

/-- DEV_STATUS. -/
def devStatus (s : State) (p : Port) : Nat :=
  ofBool (port s p).ready + 2 * ofBool s.log.isFatal + put 12 (pwrCode s.power.state % 4)

/-- ADMIN_STATUS. -/
def adminStatus (s : State) (p : Port) : Nat := ofBool (port s p).enabled + 2 * ofBool (port s p).error

/-- ADMIN_CTRL. -/
def adminCtrlRead (s : State) (p : Port) : Nat := ofBool (port s p).enable

/-- MB_CTRL; GO reads 0. -/
def mbCtrl (s : State) (p : Port) : Nat :=
  let m := (port s p).mb
  m.reqBytes + put 16 m.vector + put 27 (ofBool m.irqEn)

/-- MB_STATUS. -/
def mbStatus (s : State) (p : Port) : Nat :=
  let m := (port s p).mb
  ofBool (boxReady s) + 2 * ofBool m.busy + 4 * ofBool m.done + 8 * ofBool m.overrun + put 16 m.rspBytes

/-- A byte of MB_RSP: zero while BUSY (R373). -/
def mbRsp (s : State) (p : Port) (off : Nat) : Byte :=
  let m := (port s p).mb
  if m.busy then 0 else readByte m.rsp off

/-- A 32-bit word of BAR 0 as read at an aligned offset; the lag of TIME_NOW is at most 80 ns. -/
def readBar0 (s : State) (p : Port) (off lag : Nat) : Nat :=
  let h := port s p
  match off with
  | 0x00 => devStatus s p
  | 0x08 => seenTime s lag % 2 ^ 32
  | 0x0C => seenTime s lag / 2 ^ 32 % 2 ^ 32
  | 0x10 => h.adminSq % 2 ^ 32
  | 0x14 => h.adminSq / 2 ^ 32
  | 0x18 => h.adminCq % 2 ^ 32
  | 0x1C => h.adminCq / 2 ^ 32
  | 0x20 => h.adminSizes
  | 0x24 => adminCtrlRead s p
  | 0x28 => adminStatus s p
  | _ =>
    if 0x20000 ≤ off ∧ off < 0x28000 then msixWord h ((off - 0x20000) / 4)
    else if 0x30000 ≤ off ∧ off < 0x30100 then
      sumOf ((List.range 32).map (fun i => if h.msixPending.contains (8 * (off - 0x30000) + i) then 2 ^ i else 0))
    else 0

/-- A read of the registers of BAR 0 (R194): an aligned 64-bit one is two of 32 bits; a misaligned one, or one of another width, reads
zero. -/
def readRegister (s : State) (p : Port) (off width lag : Nat) : Nat :=
  if !(aligned off width) then 0
  else if width = 4 then readBar0 s p off lag
  else if width = 8 then readBar0 s p off lag + put 32 (readBar0 s p (off + 4) lag)
  else 0

/-- A read of BAR 2 (R372): the two registers as R194 has it, MB_REQ and MB_RSP at any naturally aligned width up to 64 bits, zero
elsewhere. -/
def readBar2 (s : State) (p : Port) (off width : Nat) : Nat :=
  let reg (o : Nat) : Nat := if o = 0 then mbCtrl s p else if o = 4 then mbStatus s p else 0
  if !(aligned off width) then 0
  else if off < 8 then (if width = 4 then reg off else if width = 8 then reg off + put 32 (reg (off + 4)) else 0)
  else if !(List.contains [1, 2, 4, 8] width) then 0
  else if 0x1000 ≤ off ∧ off < 0x5000 then leNat (readBytes (port s p).mb.req (off - 0x1000) width)
  else if 0x8000 ≤ off ∧ off < 0xC000 then leNat ((List.range width).map (fun i => mbRsp s p (off - 0x8000 + i)))
  else 0

/-! ### Requests of the host (R14, R193) -/

/-- A word of configuration space that the manual fixes, laid out as PCIe has it: the IDs at 0, the class code at 8 over a revision
that the manual does not give. -/
def configWord (off : Nat) : Option Nat :=
  match off with
  | 0 => some (put 16 deviceId + Config.vendorId % 2 ^ 16)
  | 8 => some (put 8 classCode + Config.pcieRevision % 2 ^ 8)
  | _ => none

/-- A memory read of the host: `none` is PCIe's response to an unsupported request, for a BAR that is not implemented or an offset
outside it (R14, R193). -/
def hostRead (s : State) (p : Port) (bar off width lag : Nat) : Option Nat :=
  match barBytes bar with
  | none => none
  | some n =>
    if n < off + width then none
    else if bar = 0 then some (readRegister s p off width lag) else some (readBar2 s p off width)

end Sys2Proof.Machine
end

