-- ==== Sys2Proof/Machine/Security.lean ====
section
/-!
DEFINITION. Internal and link events of the security block: the end of a firmware check, quotes, challenges, erasure, IDE and
SPDM (R442-R455).
-/
namespace Sys2Proof.Machine

/-- FW_COMMIT_CHECK_DONE: the check that FW_UPD_COMMIT asked for ends. -/
def execFwCommitCheckDone (image : FwImage) (s : State) : Result :=
  if s.sec.committing then .next (commitImage s image) else idle s

/-- QUOTE_READY: the quote is made and takes the next QUOTE_SEQ; the nonce is used up. -/
def execQuoteReady (s : State) : Result :=
  match s.sec.nonce, s.sec.identity with
  | some nonce, some key =>
    if s.sec.dbg = .erasing then idle s
    else
      let n := s.sec.quoteSeq + 1
      .next { s with sec := { s.sec with quoteSeq := n, nonce := none, quote := some (quoteOf s key n nonce) } }
  | _, _ => idle s

/-- DBG_CHALLENGE_LAPSE: DBG_CHALLENGE_LIFE after its issue the outstanding challenge lapses (R450). -/
def execDbgChallengeLapse (s : State) : Result :=
  if s.sec.challenge.isSome && (challengeLives s).isNone then .next { s with sec := { s.sec with challenge := none } } else idle s

/-- DEBUG_ERASURE_DONE: memories are zero, nothing that they held exists, the debug port opens and the host ports are
released (R453, R455). -/
def execDebugErasureDone (s : State) : Result :=
  if s.sec.dbg = .erasing then .next (openDebug (erase s)) else idle s

/-- IDE_KEY_MANAGEMENT: keys are set within an authenticated SPDM session, and the stream may enter the secure state
(R445). -/
def execIdeKeyManagement (p : Port) (secure : Bool) (s : State) : Result :=
  let h := port s p
  if !h.linkUp || !h.spdm then idle s
  else .next (refreshReady (setPort s p { h with ideKeyed := true, ideSecure := h.ideSecure || secure }))

/-- IDE_FAILED: the stream leaves the secure state: the port is reset and the event logged (R426, R445). -/
def execIdeFailed (p : Port) (s : State) : Result :=
  if (port s p).ideSecure then .next (raise (portResetOp s p 0 false) 0x0803 2 0 0 (args := [portNo p])) else idle s

/-- SPDM_REQUEST: a session stands when the host has authenticated it with ATT_CERT, while the identity key is held (R445,
R447). -/
def execSpdmRequest (p : Port) (authentic : Bool) (s : State) : Result :=
  let h := port s p
  if !h.linkUp || s.sec.identity.isNone then idle s else .next (setPort s p { h with spdm := h.spdm || authentic })

end Sys2Proof.Machine
end

