-- ==== Sys2Proof/Machine/TapOps.lean ====
section
/-!
DEFINITION. The boundary-scan test access port (R449, R472). The order of its cells is the model's (log entry 139).
-/
namespace Sys2Proof.Machine

/-! ### The boundary register (R449, R460, R461) -/

/-- Cells of a signal: how many, whether main power feeds them, and whether they can drive a pin. -/
structure CellGroup where
  pins : Nat
  main : Bool
  drives : Bool
  deriving DecidableEq, Repr

/-- The signal pins of both connectors, in the order of R460 and R461: PCIe transmit, receive and clock; PWR_EN and PERST_N; PWRGD_OUT,
ALERT_N and THERMTRIP_N; PUMP_OK; LED_STAT; MOD_ID and HOST_SPLIT; REFCLK_FAB; REFCLK_MGT; MGT_TRX; DBG_CK; DBG_DIO; fabric transmit and
receive. -/
def boundary : List CellGroup :=
  [⟨32, true, true⟩, ⟨32, true, false⟩, ⟨2, true, false⟩, ⟨2, false, false⟩, ⟨3, false, true⟩, ⟨1, false, false⟩, ⟨2, false, true⟩,
   ⟨5, false, false⟩, ⟨2, true, false⟩, ⟨1, false, false⟩, ⟨2, false, true⟩, ⟨1, false, false⟩, ⟨1, false, true⟩, ⟨64, true, true⟩,
   ⟨64, true, false⟩]

/-- The cells whose group passes a test, as bits of the boundary register. -/
def cellMask (want : CellGroup → Bool) : List CellGroup → Nat
  | [] => 0
  | g :: r => (if want g then 2 ^ g.pins - 1 else 0) ||| (cellMask want r <<< g.pins)

/-- The domain of a cell is powered. -/
def cellPowered (s : State) (g : CellGroup) : Bool := s.pins.aux && (!g.main || railsOn s)

/-- What the cells capture: those of a domain that is not powered capture 0. -/
def captureCells (s : State) (pins : Nat) : Nat := pins &&& cellMask (cellPowered s) boundary

/-- The cells that drive their pin, and what they drive: under EXTEST and CLAMP the update latches, in powered domains. -/
def drivers (s : State) : Nat :=
  match s.tap.instr with
  | .extest | .clamp => if s.tap.pinsTaken then cellMask (fun g => g.drives && cellPowered s g) boundary else 0
  | _ => 0
def driven (s : State) : Nat := s.tap.update &&& drivers s

/-! ### Instructions -/

/-- The TAP takes an instruction: it has power and is not held in reset. -/
def tapLive (s : State) : Bool := s.pins.aux && !s.tap.inReset

/-- An instruction is current; those that leave the pins their function give them back. -/
def setTap (s : State) (i : TapInstr) (captured : Nat) (taken : Bool) : State :=
  { s with tap := { s.tap with instr := i, captured := captured, pinsTaken := taken } }

/-- Work runs: a command, a walk, a die program or the luthier, or a host or fabric link is up. -/
def workRuns (s : State) : Bool :=
  railsOn s && (s.chans.any (fun c => !c.2.cmds.isEmpty) || !(atRest s) || !(luthierDrained s) || s.portA.linkUp || s.portB.linkUp
    || (List.range 8).any (fun i => (fabPort s i).state == .up))

/-- EXTEST, CLAMP and HIGHZ: the pins leave their function, in any state; what that does to running work is not defined (safe,
log entry 93). -/
def takePins (s : State) (i : TapInstr) : Result :=
  if !(tapLive s) then idle s
  else if workRuns s then .fault (.notDefined 449)
  else .next (setTap s i s.tap.captured true)

/-- BYPASS: the bypass register captures 0. -/
def execBypass (s : State) : Result := if tapLive s then .next (setTap s .bypass 0 false) else idle s

/-- IDCODE: the code of stepping B0. -/
def execIdcode (s : State) : Result := if tapLive s then .next (setTap s .idcode 0x1632A4B7 false) else idle s

/-- SAMPLE/PRELOAD: the cells capture the pins, and the update latches take what is shifted in. -/
def execSamplePreload (captured preload : Nat) (s : State) : Result :=
  if !(tapLive s) then idle s
  else
    let s := setTap s .samplePreload (captureCells s captured) false
    .next { s with tap := { s.tap with update := preload } }

/-- EXTEST. -/
def execExtest (s : State) : Result := takePins s .extest

/-- CLAMP. -/
def execClamp (s : State) : Result := takePins s .clamp

/-- HIGHZ. -/
def execHighz (s : State) : Result := takePins s .highz

/-- TAP_RESET: TRST_N holds the TAP in reset, whose instruction is IDCODE, or releases it. PRESUMED, log entry 12. -/
def execTapReset (asserted : Bool) (s : State) : Result :=
  if asserted then .next { s with tap := { s.tap with inReset := true, instr := .idcode, pinsTaken := false } }
  else .next { s with tap := { s.tap with inReset := false } }

/-! ### TDO and the debug pins (R472) -/

/-- What the TAP controller does: it shifts a data register or the instruction register, or neither. -/
inductive ScanState
  | shiftDr | shiftIr | other
  deriving DecidableEq, Repr

/-- TDO while bit `n` of a scan is shifted, least significant bit first: `none` is released. The instruction register captures 1
(PRESUMED, log entry 12). -/
def tdo (s : State) (c : ScanState) (n : Nat) : Option Bool :=
  if !(tapLive s) then none
  else
    match c with
    | .shiftDr => some (bit s.tap.captured n)
    | .shiftIr => some (n == 0)
    | .other => none

/-- DBG_CK and DBG_DIO as the debug port sees them, and DBG_DIO as the port drives it: neither while DBG_STATE is not 2. -/
def debugPinsLive (s : State) : Bool := s.sec.dbg == .open_
def debugPinSeen (s : State) (level : Bool) : Option Bool := if debugPinsLive s then some level else none
def debugPinDriven (s : State) (wanted : Option Bool) : Option Bool := if debugPinsLive s then wanted else none

end Sys2Proof.Machine
end

