-- ==== Sys2Proof/Machine/Dispatch.lean ====
section
/-!
DEFINITION. The command table: each command runs its meaning.
-/
namespace Sys2Proof.Machine

def exec (i : Instr) (s : State) : Host.Outcome State Fault Refusal :=
  match i with
  | .search slot seq lag => Sys2Proof.Machine.execSearch slot seq lag s
  | .searchExact slot seq lag => Sys2Proof.Machine.execSearchExact slot seq lag s
  | .fetch slot seq => Sys2Proof.Machine.execFetch slot seq s
  | .insert slot seq => Sys2Proof.Machine.execInsert slot seq s
  | .delete slot seq => Sys2Proof.Machine.execDelete slot seq s
  | .upsert slot seq => Sys2Proof.Machine.execUpsert slot seq s
  | .encode slot seq => Sys2Proof.Machine.execEncode slot seq s
  | .encodeSearch slot seq lag => Sys2Proof.Machine.execEncodeSearch slot seq lag s
  | .run slot seq => Sys2Proof.Machine.execRun slot seq s
  | .tuneStep slot seq => Sys2Proof.Machine.execTuneStep slot seq s
  | .barrier slot seq => Sys2Proof.Machine.execBarrier slot seq s
  | .snapshotPin slot seq pick => Sys2Proof.Machine.execSnapshotPin slot seq pick s
  | .snapshotRelease slot seq => Sys2Proof.Machine.execSnapshotRelease slot seq s
  | .createChannel slot seq => Sys2Proof.Machine.execCreateChannel slot seq s
  | .destroyChannel slot seq => Sys2Proof.Machine.execDestroyChannel slot seq s
  | .abortChannel slot seq => Sys2Proof.Machine.execAbortChannel slot seq s
  | .createIndex slot seq => Sys2Proof.Machine.execCreateIndex slot seq s
  | .dropIndex slot seq => Sys2Proof.Machine.execDropIndex slot seq s
  | .loadTablature slot seq => Sys2Proof.Machine.execLoadTablature slot seq s
  | .setPowerState slot seq => Sys2Proof.Machine.execSetPowerState slot seq s
  | .getLog slot seq unread => Sys2Proof.Machine.execGetLog slot seq unread s
  | .mergeNow slot seq => Sys2Proof.Machine.execMergeNow slot seq s
  | .retuneStart slot seq => Sys2Proof.Machine.execRetuneStart slot seq s
  | .retuneCommit slot seq => Sys2Proof.Machine.execRetuneCommit slot seq s
  | .sqDoorbell port slot value => Sys2Proof.Machine.execSqDoorbell port slot value s
  | .cqDoorbell port slot value => Sys2Proof.Machine.execCqDoorbell port slot value s
  | .adminCtrlWrite port value => Sys2Proof.Machine.execAdminCtrlWrite port value s
  | .adminChannelEnable port => Sys2Proof.Machine.execAdminChannelEnable port s
  | .registerWrite port bar off width value => Sys2Proof.Machine.execRegisterWrite port bar off width value s
  | .commandFetchDone slot words => Sys2Proof.Machine.execCommandFetchDone slot words s
  | .writeAccept slot seq lag => Sys2Proof.Machine.execWriteAccept slot seq lag s
  | .writeApply idx stack pick payloadOk => Sys2Proof.Machine.execWriteApply idx stack pick payloadOk s
  | .fetchAdmit slot seq => Sys2Proof.Machine.execFetchAdmit slot seq s
  | .batchClose idx => Sys2Proof.Machine.execBatchClose idx s
  | .epochPublish idx lag => Sys2Proof.Machine.execEpochPublish idx lag s
  | .strumClose idx => Sys2Proof.Machine.execStrumClose idx s
  | .sweepStart stack => Sys2Proof.Machine.execSweepStart stack s
  | .sweepDone stack => Sys2Proof.Machine.execSweepDone stack s
  | .searchStart tag core lag => Sys2Proof.Machine.execSearchStart tag core lag s
  | .queryRegistrationDone tag => Sys2Proof.Machine.execQueryRegistrationDone tag s
  | .walkPlace tag part core => Sys2Proof.Machine.execWalkPlace tag part core s
  | .walkDescent tag part => Sys2Proof.Machine.execWalkDescent tag part s
  | .expandRequest stack outcome => Sys2Proof.Machine.execExpandRequest stack outcome s
  | .recordRebuild idx part slot => Sys2Proof.Machine.execRecordRebuild idx part slot s
  | .expandResponse tag part pick lag => Sys2Proof.Machine.execExpandResponse tag part pick lag s
  | .mergeListArrival tag pick lag headerOk => Sys2Proof.Machine.execMergeListArrival tag pick lag headerOk s
  | .dieLastAccept tag die lag => Sys2Proof.Machine.execDieLastAccept tag die lag s
  | .hubLastAccept tag lag => Sys2Proof.Machine.execHubLastAccept tag lag s
  | .rerankDone tag bad => Sys2Proof.Machine.execRerankDone tag bad s
  | .searchCut tag lag => Sys2Proof.Machine.execSearchCut tag lag s
  | .searchDeadline tag lag => Sys2Proof.Machine.execSearchDeadline tag lag s
  | .completionWrite slot seq lag => Sys2Proof.Machine.execCompletionWrite slot seq lag s
  | .intCoalesceExpiry slot => Sys2Proof.Machine.execIntCoalesceExpiry slot s
  | .abortComplete slot => Sys2Proof.Machine.execAbortComplete slot s
  | .channelFreed slot => Sys2Proof.Machine.execChannelFreed slot s
  | .dropIndexFinish idx => Sys2Proof.Machine.execDropIndexFinish idx s
  | .translationResponse slot seq acc answer => Sys2Proof.Machine.execTranslationResponse slot seq acc answer s
  | .pageResponse slot seq acc resolved => Sys2Proof.Machine.execPageResponse slot seq acc resolved s
  | .pageRequestTimeout slot seq acc => Sys2Proof.Machine.execPageRequestTimeout slot seq acc s
  | .atsInvalidation port slot seq => Sys2Proof.Machine.execAtsInvalidation port slot seq s
  | .mergeBatchStart idx part stack core => Sys2Proof.Machine.execMergeBatchStart idx part stack core s
  | .mergeBatchDone idx part stack => Sys2Proof.Machine.execMergeBatchDone idx part stack s
  | .repairScanStart idx part => Sys2Proof.Machine.execRepairScanStart idx part s
  | .repairScanDone idx part pick => Sys2Proof.Machine.execRepairScanDone idx part pick s
  | .lowWaterUpdate idx => Sys2Proof.Machine.execLowWaterUpdate idx s
  | .entryRelease idx part stack => Sys2Proof.Machine.execEntryRelease idx part stack s
  | .slotReclaim idx part slot => Sys2Proof.Machine.execSlotReclaim idx part slot s
  | .pinExpire pin => Sys2Proof.Machine.execPinExpire pin s
  | .retuneSampleTimeout idx => Sys2Proof.Machine.execRetuneSampleTimeout idx s
  | .retuneFitDone idx => Sys2Proof.Machine.execRetuneFitDone idx s
  | .retuneArm idx => Sys2Proof.Machine.execRetuneArm idx s
  | .retunePassDone idx => Sys2Proof.Machine.execRetunePassDone idx s
  | .retuneRetire idx => Sys2Proof.Machine.execRetuneRetire idx s
  | .denseStart slot seq args inDir outDir => Sys2Proof.Machine.execDenseStart slot seq args inDir outDir s
  | .lineIssue die => Sys2Proof.Machine.execLineIssue die s
  | .macroStart die core unit => Sys2Proof.Machine.execMacroStart die core unit s
  | .macroComplete die core unit => Sys2Proof.Machine.execMacroComplete die core unit s
  | .barrierRelease slot seq => Sys2Proof.Machine.execBarrierRelease slot seq s
  | .runComplete slot seq => Sys2Proof.Machine.execRunComplete slot seq s
  | .descriptorBurstDone die stream data => Sys2Proof.Machine.execDescriptorBurstDone die stream data s
  | .blockFetchDone die stream data bad present => Sys2Proof.Machine.execBlockFetchDone die stream data bad present s
  | .blockWriteDone die stream present => Sys2Proof.Machine.execBlockWriteDone die stream present s
  | .stallDetect die => Sys2Proof.Machine.execStallDetect die s
  | .dieProgramAbort slot seq cause => Sys2Proof.Machine.execDieProgramAbort slot seq cause s
  | .dieAbortDone slot seq => Sys2Proof.Machine.execDieAbortDone slot seq s
  | .parityError place addr recovered => Sys2Proof.Machine.execParityError place addr recovered s
  | .memUncorrectable place => Sys2Proof.Machine.execMemUncorrectable place s
  | .hubReloadDone die => Sys2Proof.Machine.execHubReloadDone die s
  | .fenceDecay => Sys2Proof.Machine.execFenceDecay s
  | .reqTimeout kind => Sys2Proof.Machine.execReqTimeout kind s
  | .read src => Sys2Proof.Machine.execRead src s
  | .write src => Sys2Proof.Machine.execWrite src s
  | .describe src => Sys2Proof.Machine.execDescribe src s
  | .segRead src => Sys2Proof.Machine.execSegRead src s
  | .segWrite src => Sys2Proof.Machine.execSegWrite src s
  | .dapPathRelease path => Sys2Proof.Machine.execDapPathRelease path s
  | .expertUnlock path value => Sys2Proof.Machine.execExpertUnlock path value s
  | .expertUnlockExpiry path => Sys2Proof.Machine.execExpertUnlockExpiry path s
  | .save path value => Sys2Proof.Machine.execSave path value s
  | .saveDone good => Sys2Proof.Machine.execSaveDone good s
  | .restoreDefaults path value => Sys2Proof.Machine.execRestoreDefaults path value s
  | .counterClear path entry value => Sys2Proof.Machine.execCounterClear path entry value s
  | .statClear path value => Sys2Proof.Machine.execStatClear path value s
  | .fenceCore path value => Sys2Proof.Machine.execFenceCore path value s
  | .fenceClear path value => Sys2Proof.Machine.execFenceClear path value s
  | .tabUnload path value => Sys2Proof.Machine.execTabUnload path value s
  | .corePart path die value => Sys2Proof.Machine.execCorePart path die value s
  | .kernelCode path block => Sys2Proof.Machine.execKernelCode path block s
  | .logAck path value => Sys2Proof.Machine.execLogAck path value s
  | .powerOn path value => Sys2Proof.Machine.execPowerOn path value s
  | .resetRequest path value => Sys2Proof.Machine.execResetRequest path value s
  | .portEnable path value => Sys2Proof.Machine.execPortEnable path value s
  | .timeMaster path value => Sys2Proof.Machine.execTimeMaster path value s
  | .timeParentPort path value => Sys2Proof.Machine.execTimeParentPort path value s
  | .fwUpdData path data => Sys2Proof.Machine.execFwUpdData path data s
  | .fwUpdCommit path value => Sys2Proof.Machine.execFwUpdCommit path value s
  | .fwCommitCheckDone image => Sys2Proof.Machine.execFwCommitCheckDone image s
  | .attNonce path nonce => Sys2Proof.Machine.execAttNonce path nonce s
  | .quoteReady => Sys2Proof.Machine.execQuoteReady s
  | .dbgChallenge path fresh => Sys2Proof.Machine.execDbgChallenge path fresh s
  | .dbgChallengeLapse => Sys2Proof.Machine.execDbgChallengeLapse s
  | .dbgToken path token signed => Sys2Proof.Machine.execDbgToken path token signed s
  | .debugErasureDone => Sys2Proof.Machine.execDebugErasureDone s
  | .dbgClose path value => Sys2Proof.Machine.execDbgClose path value s
  | .ideKeyManagement port secure => Sys2Proof.Machine.execIdeKeyManagement port secure s
  | .ideFailed port => Sys2Proof.Machine.execIdeFailed port s
  | .bypass => Sys2Proof.Machine.execBypass s
  | .idcode => Sys2Proof.Machine.execIdcode s
  | .samplePreload captured preload => Sys2Proof.Machine.execSamplePreload captured preload s
  | .extest => Sys2Proof.Machine.execExtest s
  | .clamp => Sys2Proof.Machine.execClamp s
  | .highz => Sys2Proof.Machine.execHighz s
  | .portTrainingDone port => Sys2Proof.Machine.execPortTrainingDone port s
  | .portTrainingTimeout port => Sys2Proof.Machine.execPortTrainingTimeout port s
  | .fecLockLost port cause => Sys2Proof.Machine.execFecLockLost port cause s
  | .query port rx lag => Sys2Proof.Machine.execQuery port rx lag s
  | .list port rx lag => Sys2Proof.Machine.execList port rx lag s
  | .rowList port rx => Sys2Proof.Machine.execRowList port rx s
  | .cancel port rx => Sys2Proof.Machine.execCancel port rx s
  | .fabricLastAccept tag lag => Sys2Proof.Machine.execFabricLastAccept tag lag s
  | .ack port lc => Sys2Proof.Machine.execAck port lc s
  | .nak port lc => Sys2Proof.Machine.execNak port lc s
  | .credit port lc => Sys2Proof.Machine.execCredit port lc s
  | .linkControlSend port => Sys2Proof.Machine.execLinkControlSend port s
  | .timeExchangeStart lag => Sys2Proof.Machine.execTimeExchangeStart lag s
  | .timeReq port lc lagIn lagOut => Sys2Proof.Machine.execTimeReq port lc lagIn lagOut s
  | .timeRsp port lc lag => Sys2Proof.Machine.execTimeRsp port lc lag s
  | .timeExchangeTimeout => Sys2Proof.Machine.execTimeExchangeTimeout s
  | .timeSlew => Sys2Proof.Machine.execTimeSlew s
  | .auxPowerOn modId split => Sys2Proof.Machine.execAuxPowerOn modId split s
  | .strapSample => Sys2Proof.Machine.execStrapSample s
  | .auxPowerLoss => Sys2Proof.Machine.execAuxPowerLoss s
  | .pwrEnRise stable => Sys2Proof.Machine.execPwrEnRise stable s
  | .pwrEnFall stable => Sys2Proof.Machine.execPwrEnFall stable s
  | .mainStartStepDone failedCores => Sys2Proof.Machine.execMainStartStepDone failedCores s
  | .startupFailed unit stackOk farOk => Sys2Proof.Machine.execStartupFailed unit stackOk farOk s
  | .perstNAssert stable => Sys2Proof.Machine.execPerstNAssert stable s
  | .perstNRelease stable => Sys2Proof.Machine.execPerstNRelease stable s
  | .portReset port cause => Sys2Proof.Machine.execPortReset port cause s
  | .linkUp port => Sys2Proof.Machine.execLinkUp port s
  | .powerSample watts => Sys2Proof.Machine.execPowerSample watts s
  | .capLoopStep dies memories => Sys2Proof.Machine.execCapLoopStep dies memories s
  | .capRaise => Sys2Proof.Machine.execCapRaise s
  | .thermalThrottle => Sys2Proof.Machine.execThermalThrottle s
  | .thermalTrip sensor => Sys2Proof.Machine.execThermalTrip sensor s
  | .overcurrent mA => Sys2Proof.Machine.execOvercurrent mA s
  | .pumpOkChange level stable => Sys2Proof.Machine.execPumpOkChange level stable s
  | .pumpLost => Sys2Proof.Machine.execPumpLost s
  | .pumpRestored => Sys2Proof.Machine.execPumpRestored s
  | .powerCommitPoint => Sys2Proof.Machine.execPowerCommitPoint s
  | .powerEntryAbandon => Sys2Proof.Machine.execPowerEntryAbandon s
  | .powerEntryComplete lag => Sys2Proof.Machine.execPowerEntryComplete lag s
  | .powerReturnComplete => Sys2Proof.Machine.execPowerReturnComplete s
  | .bufferReadDone slot seq buf data => Sys2Proof.Machine.execBufferReadDone slot seq buf data s
  | .exactSweepDone tag stack bad => Sys2Proof.Machine.execExactSweepDone tag stack bad s
  | .searchMeterToken => Sys2Proof.Machine.execSearchMeterToken s
  | .regBucketRefill die => Sys2Proof.Machine.execRegBucketRefill die s
  | .temperatureChange sensor value => Sys2Proof.Machine.execTemperatureChange sensor value s
  | .auxStartupDone => Sys2Proof.Machine.execAuxStartupDone s
  | .mailboxGo port value => Sys2Proof.Machine.execMailboxGo port value s
  | .mbStatusClear port value => Sys2Proof.Machine.execMbStatusClear port value s
  | .malformedMessage src queueFull => Sys2Proof.Machine.execMalformedMessage src queueFull s
  | .neighbourDiscovery message => Sys2Proof.Machine.execNeighbourDiscovery message s
  | .plcaBeaconChange seen => Sys2Proof.Machine.execPlcaBeaconChange seen s
  | .badFrame port rx => Sys2Proof.Machine.execBadFrame port rx s
  | .spdmRequest port authentic => Sys2Proof.Machine.execSpdmRequest port authentic s
  | .tapReset asserted => Sys2Proof.Machine.execTapReset asserted s

end Sys2Proof.Machine
end

