-- ==== Sys2Proof/Machine/Layouts.lean ====
section
/-!
DEFINITION. Where the module's own structures lie, bit by bit: record headers and records of both formats, their stripes over a
stack, side-list entries and chunk trailers, mirror entries, journal headers, frets, query-table entries, expand requests and
responses, version parameter blocks (R29, R33, R34, R39, R44, R45, R47, R50, R53, R61, R65, R67, R69, R70, R99, R100). State holds
what these words carry field by field; the words are read off it here. Reserved bits are zero, since no field stands in them.
-/
namespace Sys2Proof.Machine

/-! ### Fields -/

/-- A field of `width` bits at bit `lo` of a word. -/
def fieldAt (lo width v : Nat) : Nat := put lo (v % 2 ^ width)

/-- A flag at bit `lo` of a word. -/
def flagAt (lo : Nat) (v : Bool) : Nat := put lo v.toNat

/-- A run of `n` fields of `width` bits from bit `lo`, `stride` bits apart; `d` fills those past the end of the list. -/
def fieldsAt (lo stride width d : Nat) (l : List Nat) (n : Nat) : Nat :=
  sumOf ((List.range n).map (fun i => fieldAt (lo + stride * i) width (nth l i d)))

/-- FORMAT of a record, and the format it names; 0b10 and 0b11 are reserved (R29). -/
def formatCode : Format → Nat
  | .w => 0
  | .c => 1
def formatOf : Nat → Option Format
  | 0 => some .w
  | 1 => some .c
  | _ => none

/-! ### Records (R29, R33, R34, R39) -/

/-- Neighbour entries of a record (R28). -/
def nbrSlots (f : Format) : Nat := if f = .w then 32 else 24

/-- The 32-byte header of a record (R29). -/
def headerWord (f : Format) (r : Rec) : Nat :=
  fieldAt 0 64 r.extId + fieldAt 64 64 r.filterTag + fieldAt 128 48 r.commit + fieldAt 176 8 r.state.toNat + fieldAt 184 8 r.gen
    + fieldAt 192 48 r.delete + fieldAt 240 8 r.codeVer + fieldAt 248 2 (formatCode f) + fieldAt 250 6 r.nbrCount

/-- A record of 4096 bits in Format W, 2048 in Format C: header, code, sketches, neighbour entries (R33, R34). -/
def recWord (f : Format) (r : Rec) : Nat :=
  headerWord f r + fieldAt 256 (codeBits f) r.code +
    match f with
    | .w => fieldsAt 1024 64 64 0 r.sketch 32 + fieldsAt 3072 32 32 nullSlot r.nbr 32
    | .c => fieldsAt 640 32 32 0 r.sketch 24 + fieldsAt 1408 26 26 nullSlot r.nbr 24

/-- The record that a word spells; none where FORMAT is not the index's (R29, R33, R34). -/
def recOfWord (f : Format) (w : Nat) : Option Rec :=
  if formatOf (bits w 249 248) ≠ some f then none
  else some
    { extId := bits w 63 0, filterTag := bits w 127 64, commit := bits w 175 128, state := BitVec.ofNat 8 (bits w 183 176),
      gen := bits w 191 184, delete := bits w 239 192, codeVer := bits w 247 240, nbrCount := bits w 255 250,
      code := bits w (255 + codeBits f) 256,
      sketch := (List.range (nbrSlots f)).map (fun i => match f with
        | .w => bits w (1024 + 64 * i + 63) (1024 + 64 * i)
        | .c => bits w (640 + 32 * i + 31) (640 + 32 * i)),
      nbr := (List.range (nbrSlots f)).map (fun i => match f with
        | .w => bits w (3072 + 32 * i + 25) (3072 + 32 * i)
        | .c => bits w (1408 + 26 * i + 25) (1408 + 26 * i)) }

/-- The fields of a record fit their places, which every record of the module meets (R29, R33, R34, R35). -/
def recFits (f : Format) (r : Rec) : Bool :=
  decide (r.extId < 2 ^ 64) && decide (r.filterTag < 2 ^ 64) && decide (r.commit ≤ noEpoch) && decide (r.delete ≤ noEpoch) &&
  decide (r.gen < 256) && decide (r.codeVer < 256) && decide (r.nbrCount ≤ nbrSlots f) && decide (r.code < 2 ^ codeBits f) &&
  r.sketch.all (fun k => decide (k < 2 ^ (if f = .w then 64 else 32))) && r.nbr.all (fun n => decide (n ≤ nullSlot)) &&
  decide (r.sketch.length ≤ nbrSlots f) && decide (r.nbr.length ≤ nbrSlots f)

/-- Where the base die keeps 32-byte piece `j` of the record at index `q` of a stack's record area: channel, pseudo-channel, and
byte within the pseudo-channel's part of the area (R39). -/
def pieceHome (f : Format) (q j : Nat) : Nat × Nat × Nat :=
  match f with
  | .w => (j, q % 2, q / 2 * 32)
  | .c => (8 * (q % 2) + j, q / 2 % 2, q / 4 * 32)

/-- The index of a record in its stack's record area, and the homes of all its pieces (R39, R41). -/
def recIndex (x : Index) (p : Part) (slot : Nat) : Nat := recAddr x p slot / recBytes x.cfg.format
def recHomes (x : Index) (p : Part) (slot : Nat) : List (Nat × Nat × Nat) :=
  (List.range (recBytes x.cfg.format / 32)).map (pieceHome x.cfg.format (recIndex x p slot))

/-! ### Side lists (R44, R45) -/

/-- A side-list entry of 144 B in Format W, 96 B in Format C; `pn` is its partition (R44). -/
def sideWord (f : Format) (pn : Nat) (e : SideEntry) : Nat :=
  fieldAt 0 64 e.extId + fieldAt 64 64 e.filterTag + fieldAt 128 48 e.commit + fieldAt 176 8 e.state.toNat + fieldAt 184 8 e.gen
    + fieldAt 192 48 e.delete + fieldAt 240 8 e.codeVer + fieldAt 248 2 (formatCode f) + fieldAt 256 32 (slotId pn e.slot)
    + fieldAt 384 (codeBits f) e.code

/-- The trailer of chunk `k` of a chain: entries written in it and the index of the next chunk (R45). -/
def chunkTrailer (c : Chain) (k : Nat) : Option Nat :=
  c.chunks[k]?.map (fun h => fieldAt 32 16 h.2 + fieldAt 0 32 ((c.chunks[k + 1]?.map Prod.fst).getD 0xFFFFFFFF))

/-- Byte offset in its 64 KiB chunk of the entry with ordinal `k` there, and of the chunk's trailer (R45). -/
def entryOffset (f : Format) (k : Nat) : Nat := k * sideBytesOf f
def trailerOffset : Nat := 65536 - 16

/-! ### The mirror (R47, R50) -/

/-- A mirror entry of 192 B in Format W, 128 B in Format C (R47). -/
def mirrorWord (f : Format) (pn : Nat) (m : Mirror) : Nat :=
  fieldAt 0 32 (slotId pn m.slot) + fieldAt 32 8 m.codeVer + fieldAt 40 8 m.layer + fieldAt 48 8 m.nbr.length + flagAt 56 m.entry
    + fieldAt 64 (codeBits f) m.code + fieldsAt (64 + codeBits f) 32 32 nullSlot m.nbr 16

/-- The mirror of a partition in the backing copy, and in the hub store of a die: the luthier finishes both before it commits the
epoch that publishes a change, so a hub store differs from the backing copy only while it awaits its reload, when it holds
nothing that a walk may read, and a die that holds no stack of the set mirrors nothing (R48, R50). -/
def backingMirror (x : Index) (pn : Nat) : List Mirror := ((partAt x pn).map (·.mirror)).getD []
def hubMirror (s : State) (d : Nat) (x : Index) (pn : Nat) : Option (List Mirror) :=
  match partAt x pn with
  | some p => if admitsWalks s d && (diesOfMask p.mask).contains d then some p.mirror else none
  | none => none

/-! ### The write journal (R53) -/

/-- COMMIT_EPOCH of an entry: all ones until it is committed. -/
def journalEpoch (e : JEntry) : Nat := if e.state = 3 then e.epoch else noEpoch

/-- The 64-byte header of a journal entry. HANDLE is the one that the command was fetched under. SLOT_ID of an entry with no slot
yet reads 0: DESIGN CHOICE, log entry 118. -/
def journalHeader (e : JEntry) : Nat :=
  fieldAt 0 64 (wExtId e.word) + fieldAt 64 16 e.seq + fieldAt 80 8 (cOpcode e.word) + fieldAt 96 32 (put 20 e.gen + e.slot)
    + fieldAt 128 48 (journalEpoch e) + fieldAt 176 8 e.state + fieldAt 184 8 e.index + fieldAt 192 64 e.acceptTime
    + fieldAt 304 32 (e.slotId.getD 0) + fieldAt 336 8 e.slotGen + fieldAt 352 32 e.payload.length
    + (if cOpcode e.word = 0x11 then 0 else fieldAt 408 8 (wElemFmt e.word) + fieldAt 416 16 (wDims e.word))

/-- A journal entry as bytes: header, payload, padding (R53). -/
def journalBytes (e : JEntry) : List Byte :=
  leBytes 64 (journalHeader e) ++ e.payload ++ List.replicate (roundUp e.payload.length 64 - e.payload.length) 0

/-! ### Walks (R61, R65, R67, R69, R70) -/

/-- A fret of 64 bits (R61). -/
def fretWord (f : Fret) : Nat :=
  fieldAt 0 26 f.slot + fieldAt 26 3 f.tag + flagAt 29 f.exact + flagAt 30 f.inFlight + flagAt 31 f.expanded + fieldAt 32 32 f.key.toNat

/-- A query-table entry of 256 B (R65). -/
def qtabWord (q : Query) : Nat :=
  let a := q.opers[0]?
  let b := q.opers[1]?
  let num (o : Option Operand) (f : Operand → Nat) : Nat := (o.map f).getD 0
  fieldAt 0 768 (num a (·.code)) + fieldAt 768 768 (num b (·.code)) + fieldAt 1536 64 (num a (·.sketch))
    + fieldAt 1600 64 (num b (·.sketch)) + fieldAt 1664 64 q.filter.mask + fieldAt 1728 64 q.filter.value
    + fieldAt 1792 48 q.epoch + fieldAt 1840 8 (num a (·.ver)) + fieldAt 1848 8 (num b (·.ver)) + fieldAt 1856 8 q.filter.op
    + fieldAt 1864 8 q.index + flagAt 1872 b.isSome

/-- An expand request of 16 B, of a query of index `index` (R67). -/
def requestWord (index : Nat) (r : ExpandReq) : Nat :=
  fieldAt 0 26 r.slot + fieldAt 49 6 r.part + fieldAt 55 8 index + fieldAt 63 3 r.expTag + fieldAt 66 17 r.context
    + fieldAt 83 13 r.qtab + fieldAt 96 32 r.bound.toNat

/-- The 32-byte header of an expand response, and a survivor entry (R69, R70). -/
def responseHeader (r : Response) : Nat :=
  fieldAt 0 26 r.slot + flagAt 51 r.poison + flagAt 52 r.verMiss + flagAt 53 r.routedDeleted + flagAt 54 r.filterFail
    + flagAt 55 r.followed + flagAt 56 r.eligible + fieldAt 57 6 r.survivors.length + fieldAt 63 3 r.expTag
    + fieldAt 66 17 r.context + fieldAt 83 13 r.qtab + fieldAt 96 32 r.nodeKey.toNat + fieldAt 192 64 r.extId
def survivorWord (p : Nat × W32) : Nat := fieldAt 0 26 p.1 + fieldAt 32 32 p.2.toNat

/-- An expand response as bytes. -/
def responseBytes (r : Response) : List Byte :=
  leBytes 32 (responseHeader r) ++ (r.survivors.map (fun p => leBytes 8 (survivorWord p))).flatten

/-! ### Version parameter blocks (R99, R100) -/

/-- The 512-byte parameter block of a code version. -/
def paramBlock (index : Nat) (c : IndexCfg) (v : CodeVer) : Nat :=
  let b := elemBits c.codeType
  let n (l : List W32) : List Nat := l.map BitVec.toNat
  fieldsAt 0 32 32 0 (n v.sketchTable) 65 + fieldAt 2080 32 v.distG.toNat + fieldAt 2112 32 v.distOff.toNat
    + fieldAt 2144 8 index + fieldAt 2152 8 v.num + fieldAt 2160 8 c.codeType + fieldAt 2168 4 c.metric
    + fieldAt 2172 2 (formatCode c.format)
    + (if c.codeType = 0 then 0
       else fieldsAt 2176 32 32 0 (n v.groupW) 12 + fieldsAt 2560 b b 0 (v.elems.map (·.zp)) (codeElems c))

/-- The blocks of an index: the master copies that every stack of the index holds, and the copies in the hub store of a die that
holds such a stack; both go when the version is retired or the index is gone, since they are read off the versions that the
index holds (R100). What the parameter caches hold is state of its own. -/
def masterBlocks (s : State) (i : Nat) : List Nat :=
  match indexAt s i with
  | some x => x.vers.map (paramBlock i x.cfg)
  | none => []
def hubBlocks (s : State) (d i : Nat) : Option (List Nat) :=
  match indexAt s i with
  | some x => if admitsWalks s d && (indexDies x).contains d then some (masterBlocks s i) else none
  | none => none

/-! ### Flits, frames and link control (R332, R333, R335) -/

/-- The parity bit that gives `n` bits an even number of ones with it. -/
def parityBit (n w : Nat) : Nat := (popcount n w) % 2

/-- A flit: DATA, FSEQ, RPL, FT, the parity of the control word and of each data word (R332). -/
def flitWord (ft rpl fseq data : Nat) : Nat :=
  let w := fieldAt 0 480 data + fieldAt 480 12 fseq + fieldAt 492 2 rpl + fieldAt 494 2 ft
  w + fieldAt 496 1 (parityBit 16 (bits w 495 480))
    + sumOf ((List.range 15).map (fun i => fieldAt (497 + i) 1 (parityBit 32 (bits w (32 * i + 31) (32 * i)))))

/-- Every parity bit of a flit agrees with the bits that it covers (R332). -/
def flitParity (w : Nat) : Bool :=
  parityBit 16 (bits w 495 480) == bits w 496 496 &&
    (List.range 15).all (fun i => parityBit 32 (bits w (32 * i + 31) (32 * i)) == bits w (497 + i) (497 + i))

/-- DATA of a head flit (R333). -/
def headData (f : Frame) : Nat :=
  flagAt 304 (f.tc == 1) + fieldAt 305 3 f.hops + fieldAt 308 8 f.typ + fieldAt 316 12 f.dst + fieldAt 328 12 f.src
    + fieldAt 340 12 f.origin + fieldAt 352 16 f.len + fieldAt 368 16 f.group + fieldAt 384 32 f.ptag + fieldAt 416 64 f.cutTime

/-- The flits of a frame's transmission: its head, and its payload in pieces of 60 bytes, the last padded with zeros. -/
def frameFlits (u : Sent) : List Nat :=
  flitWord 1 u.rpl u.fseq (headData u.frame) ::
    (List.range (ceilDiv u.frame.len 60)).map (fun i => flitWord 2 u.rpl u.fseq (numAt u.frame.payload (60 * i) 60))

/-- What parity tells of the flits of a frame as they arrive (R337). -/
def frameParity : List Nat → FrameParity
  | [] => .headBad
  | h :: r => if !(flitParity h) then .headBad else if r.all flitParity then .good else .payloadBad

/-- LC_OP (R335). -/
def lcCode : LcOp → Nat
  | .ack => 1
  | .nak => 2
  | .credit => 3
  | .timeReq => 4
  | .timeRsp => 5

/-- The link-control flit that the module sends (R335). -/
def lcFlit (l : LcOut) : Nat :=
  flitWord 3 0 0 (fieldAt 192 64 l.tB + fieldAt 256 64 l.tA + fieldsAt 320 16 16 0 l.credits 8 + fieldAt 448 16 l.peerId
    + fieldAt 464 12 l.aseq + fieldAt 476 4 (lcCode l.op))

/-- A link-control flit as it is received (R335). -/
def lcOfFlit (w : Nat) : LinkControl :=
  { parityOk := flitParity w, aseq := bits w 475 464, peerId := bits w 463 448,
    credits := (List.range 8).map (fun c => bits w (320 + 16 * c + 15) (320 + 16 * c)), tA := bits w 319 256, tB := bits w 255 192 }

end Sys2Proof.Machine
end

