-- ==== Sys2Proof/Safety.lean ====
section
/-!
DEFINITION. What claims are stated in: how a command ends, which command it is that finished, and what stays the same.
-/
namespace Sys2Proof.Machine

/-- The command answers the next state `t`. -/
def Completes (c : Instr) (s t : State) : Prop := exec c s = .next t

/-- The command stops neither with a fault nor with a refusal. -/
def Runs (c : Instr) (s : State) : Prop := ∃ t, exec c s = .next t

/-- The command `seq` of channel `slot` has ended its work and will report `k`; its completion waits to be written (R202). -/
def Finished (s : State) (slot seq : Nat) (k : Compl) : Prop :=
  ∃ o, outCmd s slot seq = some o ∧ o.stage = .done k ∧ seq ∈ (chan s slot).dones

/-- `t` differs from `s` in nothing but the command `seq` of channel `slot`. -/
def SameButCmd (s t : State) (slot seq : Nat) : Prop :=
  t = { s with chans := t.chans } ∧ (∀ n, n ≠ slot → chan t n = chan s n)
    ∧ chan t slot = { chan s slot with cmds := (chan t slot).cmds, dones := (chan t slot).dones }
    ∧ (∀ q, q ≠ seq → outCmd t slot q = outCmd s slot q)

/-- A write of an entry through access path `path` passes every check of R362 (the message itself opens nothing, resets the
path's staging and counts as its last use). `v` is the value's number. -/
def WriteOk (s : State) (path key v : Nat) : Prop :=
  s.dict.ready = true ∧ s.dict.restart = none ∧ path < s.dict.paths.length
    ∧ ∃ e, entryAt key = some e ∧ writeStatus (dropStage (usePath s path) path) path [] e.typ e.len v key = stOk

/-- Messages and nothing else of the dictionary's paths: `t` has the stored values, saved sets and the rest of `s`. -/
def SameButPaths (s t : State) : Prop := t.dict = { s.dict with paths := t.dict.paths }

/-- A frame that the link layer takes at port `i`: the port is UP, the frame is the next in order and without errors, and the
module has an identifier (R337, R339). -/
def Received (s : State) (i : Nat) (rx : RxFrame) : Prop :=
  (fabPort s i).state = .up ∧ rx.fseq = (fabPort s i).rxSeq ∧ rx.parity = .good ∧ unassigned s = false

/-- A port is as it was, but for the flits that its peer is owed and the receive class that a waiting frame came from (R336). -/
def SamePort (p q : FabPort) : Prop :=
  q = { p with freed := q.freed, queue := q.queue } ∧ q.queue.map (·.frame) = p.queue.map (·.frame)

/-- The log is in order (R401): entries newest first, each with a number below the next one; the early ring holds at most 256,
the ring of the far tier at most 65,536, and only while the far tier is ready; FL1 keeps the last 16 entries of severity 3. -/
def LogOk (l : Log) (farUp : Bool) : Prop :=
  (l.early ++ l.ring).Pairwise (fun a b => b.seq < a.seq) ∧ (∀ e, e ∈ l.early ++ l.ring → e.seq < l.next)
    ∧ l.early.length ≤ 256 ∧ l.ring.length ≤ 65536 ∧ (farUp = true → l.early = []) ∧ (farUp = false → l.ring = [])
    ∧ l.fatal.length ≤ 16 ∧ (∀ e, e ∈ l.fatal → e.severity = 3)

/-- The TAP leaves the pins alone in reset, and takes them only by EXTEST, CLAMP or HIGHZ (R449). -/
def TapOk (t : Tap) : Prop :=
  (t.inReset = true → t.instr = .idcode ∧ t.pinsTaken = false)
    ∧ (t.pinsTaken = true → t.instr = .extest ∨ t.instr = .clamp ∨ t.instr = .highz)

/-- An expand request of a walk whose timer has run out (R394). -/
def RunOut (s : State) (tag part expTag : Nat) (r : ExpandReq) : Bool :=
  r.tag == tag && r.part == part && r.expTag == expTag && decide (r.since + ctl s 0xB00006 ≤ s.time.tick)

end Sys2Proof.Machine
end

