-- ==== Sys2Proof/Certificates/Slice0/Obligations.lean ====
section
/-!
DEFINITION. The statements about the module: what each command does and what it leaves alone, what a step is, and what
every step keeps. `R<n>` names a numbered rule of the manual. A conclusion of the form `t = [s with f := t.f]` (written with
braces) says that every part of the state but those listed is what it was.
-/
open Sys2Proof Sys2Proof.Machine

/-- A step runs the command at the front of the queue on the rest of the state. -/
def Obligations.StepRunsFrontCommand : Prop :=
  ∀ (c : Instr) (rest : List Instr) (s : State),
    step { s with pending := c :: rest } = exec c { s with pending := rest }

/-- With no command waiting one ACLK cycle of 40 ns passes: the time base and the tick of the always-on domain advance, and the slots
that a retune pass reaches meanwhile take it (R187); nothing else changes (the empty-queue step is the model's choice: log
entry 1). -/
def Claims.EmptyQueueLetsOneAclkCyclePass : Prop :=
  ∀ s : State, s.pending = [] → s.pins.aux = true →
    ∃ t, step s = .next t ∧ t = { s with time := t.time, indexes := t.indexes }
      ∧ t.time = { s.time with base := s.time.base + 40, tick := s.time.tick + 40 }
      ∧ (∀ i x, indexAt s i = some x → ∃ x', indexAt t i = some x'
        ∧ x' = { x with parts := x'.parts, retune := { x.retune with table := x'.retune.table } }
        ∧ (inPass x.retune = false → x' = x) ∧ (x.retune.state = .pass1 → x'.parts = x.parts)
        ∧ (x.retune.state = .pass2 → x'.retune = x.retune))

/-- First in, first out: a command's own effect leaves the queue of waiting commands alone, so a step takes away its front and
nothing else. -/
def Claims.CommandsLeaveTheQueueToTheStep : Prop :=
  (∀ (c : Instr) (s t : State), exec c s = .next t → t.pending = s.pending)
  ∧ (∀ s t : State, step s = .next t → t.pending = s.pending.tail)

/-- Commands leave the queue to the step; with none waiting one ACLK cycle passes (model: log entry 1). -/
def Obligations.EmptyQueueLetsACycleAndQueueIsFifo : Prop :=
  Claims.EmptyQueueLetsOneAclkCyclePass ∧ Claims.CommandsLeaveTheQueueToTheStep

/-- What auxiliary power-on leaves before the management controller has started (R430, R413, R361, R199, R406, R457, R472):
PWR_STATE 4, DICT_READY 0, nothing stored in the dictionary, every channel slot FREE with GEN 0, every counter 0, DBG_STATE
closed, the TAP in reset; that IDCODE is selected there is the model's choice (log entry 12). -/
def Claims.ResetIsAuxiliaryPowerOn : Prop :=
  State.reset.power.state = .off ∧ State.reset.dict.ready = false ∧ State.reset.pending = [] ∧ State.reset.time.base = 0
    ∧ (∀ key obj, ctlObj State.reset key obj = defaultOf key)
    ∧ (∀ slot, (chan State.reset slot).state = .free ∧ (chan State.reset slot).gen = 0)
    ∧ (∀ sub, counter State.reset sub = 0)
    ∧ State.reset.sec.dbg = .closed ∧ State.reset.tap.inReset = true ∧ State.reset.tap.instr = .idcode
    ∧ State.reset.tap.pinsTaken = false ∧ (∀ i, indexAt State.reset i = none)

/-- What every step keeps holds after auxiliary power-on. -/
def Claims.ResetKeepsTheRules : Prop :=
  LogOk State.reset.log State.reset.power.farUp ∧ TapOk State.reset.tap ∧ State.reset.sec.dbg = .closed
    ∧ State.reset.pins.sampled = false

/-- The state after reset is that of auxiliary power-on and keeps the rules that every step keeps. -/
def Obligations.ResetIsAuxiliaryPowerOn : Prop :=
  Claims.ResetIsAuxiliaryPowerOn ∧ Claims.ResetKeepsTheRules

/-- A doorbell of a channel of its port that is ACTIVE or in ERROR, with the slot's GEN and a pointer inside the queue, moves
that pointer and nothing else of any channel (R200, R199, R220). In A0 and A1 it restarts the idle time of R225 and changes nothing
more; in Q1 and Q2 it may also start a return (R415). In the cycle of a commit point it wins: the commit point is abandoned (R225).
The order of the checks is the model's (log entry 31). -/
def Claims.DoorbellMovesItsPointer : Prop :=
  ∀ (s : State) (p : Port) (slot value : Nat),
    (port s p).linkUp = true → portOf s slot = p → genOf s slot = bits value 31 20 →
    ((chan s slot).state = .active ∨ (chan s slot).state = .error) →
    ((∀ e, s.power.entry = some e → e.committed = true → e.commitAt ≠ s.time.tick) →
    (bits value 15 0 < (chan s slot).cfg.sqN →
      ∃ t, exec (.sqDoorbell p slot value) s = .next t ∧ chan t slot = { chan s slot with tail := bits value 15 0 }
        ∧ (∀ n, n ≠ slot → chan t n = chan s n) ∧ t = { s with chans := t.chans, power := t.power }
        ∧ t.power = { s.power with idleSince := s.time.tick, returning := t.power.returning }
        ∧ (running s = true → t.power.returning = s.power.returning))
    ∧ (bits value 15 0 < (chan s slot).cfg.cqN →
      ∃ t, exec (.cqDoorbell p slot value) s = .next t ∧ chan t slot = { chan s slot with cqHead := bits value 15 0 }
        ∧ (∀ n, n ≠ slot → chan t n = chan s n) ∧ t = { s with chans := t.chans, power := t.power }
        ∧ t.power = { s.power with idleSince := s.time.tick, returning := t.power.returning }
        ∧ (running s = true → t.power.returning = s.power.returning)))
    ∧ (∀ e, s.power.entry = some e → e.committed = true → e.commitAt = s.time.tick → bits value 15 0 < (chan s slot).cfg.sqN →
      ∃ t, exec (.sqDoorbell p slot value) s = .next t ∧ chan t slot = { chan s slot with tail := bits value 15 0 }
        ∧ t.power.entry = some { e with committed := false } ∧ t = { s with chans := t.chans, power := t.power, indexes := t.indexes })

/-- What R199 and R200 discard: a doorbell whose GEN differs from the slot's, or whose slot is FREE, only counts in
STALE_DOORBELL; one of a slot that is ABORTING (R222) or DESTROYING (the model's choice: log entry 31) has no effect at all. -/
def Claims.StaleDoorbellIsCountedOnly : Prop :=
  ∀ (s : State) (p : Port) (slot value : Nat), (port s p).linkUp = true → portOf s slot = p →
    (genOf s slot ≠ bits value 31 20 ∨ (chan s slot).state = .free →
      exec (.sqDoorbell p slot value) s = .next (bump s 0x41 1) ∧ exec (.cqDoorbell p slot value) s = .next (bump s 0x41 1))
    ∧ (genOf s slot = bits value 31 20 → ((chan s slot).state = .aborting ∨ (chan s slot).state = .destroying) →
      exec (.sqDoorbell p slot value) s = .next s ∧ exec (.cqDoorbell p slot value) s = .next s)

/-- R200: a doorbell whose VALUE is at or above the queue's entry count is discarded and logged, and the channel carries on. -/
def Claims.DoorbellsOutOfRangeAreLogged : Prop :=
  ∀ (s : State) (p : Port) (slot value : Nat), (port s p).linkUp = true → portOf s slot = p →
    genOf s slot = bits value 31 20 → ((chan s slot).state = .active ∨ (chan s slot).state = .error) →
    ((chan s slot).cfg.sqN ≤ bits value 15 0 →
      ∃ t, exec (.sqDoorbell p slot value) s = .next t ∧ t.log.next = s.log.next + 1 ∧ t = { s with log := t.log, ctr := t.ctr })
    ∧ ((chan s slot).cfg.cqN ≤ bits value 15 0 →
      ∃ t, exec (.cqDoorbell p slot value) s = .next t ∧ t.log.next = s.log.next + 1 ∧ t = { s with log := t.log, ctr := t.ctr })

/-- A doorbell moves its pointer; a stale one is counted, one out of range is logged, and neither has another effect. -/
def Obligations.DoorbellsMoveTheirPointerOrAreDiscarded : Prop :=
  Claims.DoorbellMovesItsPointer ∧ Claims.StaleDoorbellIsCountedOnly ∧ Claims.DoorbellsOutOfRangeAreLogged

/-- ADMIN_CTRL.ENABLE (R196). Written 1 while the admin channel is FREE it is held until READY; the held ENABLE then checks
the queue fields: in range, the admin slot becomes ACTIVE with queues of those sizes, all pointers 0, and ENABLED reads 1;
out of range, ADMIN_STATUS.ERROR is set and the slot stays FREE. Written 0 on a live admin channel it aborts it. -/
def Claims.AdminChannelIsEnabledAndDisabled : Prop :=
  ∀ (s : State) (p : Port),
    ((port s p).linkUp = true →
      (∀ value, bit value 0 = true → (chan s (adminSlot s p)).state = .free →
        exec (.adminCtrlWrite p value) s = .next (setPort s p { port s p with enable := true, enReq := true }))
      ∧ (∀ value, bit value 0 = false →
        ((chan s (adminSlot s p)).state = .active ∨ (chan s (adminSlot s p)).state = .error) →
        ∃ t, exec (.adminCtrlWrite p value) s = .next t ∧ (port t p).enable = false
          ∧ (chan t (adminSlot s p)).state = .aborting ∧ (chan t (adminSlot s p)).cmds = []))
    ∧ ((port s p).enReq = true → (port s p).ready = true → (chan s (adminSlot s p)).state = .free →
      (p = .b → twoPorts s = true) →
      (adminFieldsOk (port s p) = true →
        ∃ t, exec (.adminChannelEnable p) s = .next t ∧ (chan t (adminSlot s p)).state = .active
          ∧ (chan t (adminSlot s p)).cfg.sqN = adminSq (port s p) + 1 ∧ (chan t (adminSlot s p)).cfg.cqN = adminCq (port s p) + 1
          ∧ (chan t (adminSlot s p)).cfg.sqAddr = (port s p).adminSq ∧ (chan t (adminSlot s p)).cfg.cqAddr = (port s p).adminCq
          ∧ (chan t (adminSlot s p)).head = 0 ∧ (chan t (adminSlot s p)).tail = 0 ∧ (chan t (adminSlot s p)).cqTail = 0
          ∧ (chan t (adminSlot s p)).cqHead = 0 ∧ (chan t (adminSlot s p)).seq = 0 ∧ (chan t (adminSlot s p)).phase = true
          ∧ port t p = { port s p with error := false, enReq := false, enabled := true }
          ∧ (∀ n, n ≠ adminSlot s p → chan t n = chan s n)
          ∧ t = { s with chans := t.chans, portA := t.portA, portB := t.portB })
      ∧ (adminFieldsOk (port s p) = false →
        exec (.adminChannelEnable p) s = .next (setPort s p { port s p with error := true, enReq := false })))

/-- CREATE_CHANNEL (R209, R199): with its fields in range it takes the lowest FREE slot of the issuing port that is no admin
slot; the slot becomes ACTIVE with the command's set-up, empty queues and a GEN that is never 0; the RESULT is the handle.
With no slot free the status is CAPACITY. No other channel's set-up or state changes. -/
def Claims.CreateChannelTakesTheLowestFreeSlot : Prop :=
  ∀ (s : State) (slot seq : Nat) (o : OutCmd),
    admitting s slot seq 0x80 = some o → reservedOk o.word = true → createFieldsOk s (portOf s slot) o.word = true →
    (∀ n, n ∈ portSlots s (portOf s slot) → (chan s n).state = .free →
      (∀ m, m ∈ portSlots s (portOf s slot) → m < n → (chan s m).state ≠ .free) →
      ∃ t, exec (.createChannel slot seq) s = .next t
        ∧ (chan t n).state = .active ∧ (chan t n).cfg = createCfg o.word ∧ (chan t n).gen ≠ 0
        ∧ ((chan s n).gen ≠ 0 → (chan t n).gen = (chan s n).gen)
        ∧ (chan t n).head = 0 ∧ (chan t n).tail = 0 ∧ (chan t n).cqTail = 0 ∧ (chan t n).cqHead = 0 ∧ (chan t n).seq = 0
        ∧ (chan t n).phase = true ∧ (chan t n).cmds = [] ∧ (chan t n).coalTime = 0 ∧ (chan t n).coalCount = 1
        ∧ Finished t slot seq { status := .ok, result := (chan t n).gen * 2 ^ 20 + n }
        ∧ (∀ m, m ≠ n → m ≠ slot → chan t m = chan s m) ∧ t = { s with chans := t.chans })
    ∧ ((∀ n, n ∈ portSlots s (portOf s slot) → (chan s n).state ≠ .free) →
      ∃ t, exec (.createChannel slot seq) s = .next t ∧ Finished t slot seq { status := .capacity } ∧ SameButCmd s t slot seq)

/-- ADMIN_CTRL enables and disables the admin channel; CREATE_CHANNEL takes the lowest free slot. -/
def Obligations.ChannelsComeUp : Prop :=
  Claims.AdminChannelIsEnabledAndDisabled ∧ Claims.CreateChannelTakesTheLowestFreeSlot

/-- Register writes of the host (R194-R196, R372): each half of ADMIN_SQ_ADDR and ADMIN_CQ_ADDR and ADMIN_SIZES take a 32-bit
write while ENABLED is 0 and keep their value while it is 1; a write of MB_REQ stores its bytes and, while BUSY, only sets
OVERRUN; a misaligned access is ignored. -/
def Claims.RegisterWritesLandInTheirRegister : Prop :=
  ∀ (s : State) (p : Port) (v : Nat), portLive s p = true → v < 2 ^ 32 →
    ((port s p).enabled = false →
      exec (.registerWrite p 0 0x10 4 v) s
          = .next (setPort s p { port s p with adminSq := setHalf (port s p).adminSq false v })
      ∧ exec (.registerWrite p 0 0x14 4 v) s
          = .next (setPort s p { port s p with adminSq := setHalf (port s p).adminSq true v })
      ∧ exec (.registerWrite p 0 0x18 4 v) s
          = .next (setPort s p { port s p with adminCq := setHalf (port s p).adminCq false v })
      ∧ exec (.registerWrite p 0 0x1C 4 v) s
          = .next (setPort s p { port s p with adminCq := setHalf (port s p).adminCq true v })
      ∧ exec (.registerWrite p 0 0x20 4 v) s = .next (setPort s p { port s p with adminSizes := v }))
    ∧ ((port s p).enabled = true →
      ∀ off, off ∈ [0x10, 0x14, 0x18, 0x1C, 0x20] → exec (.registerWrite p 0 off 4 v) s = .next s)
    ∧ (∀ off, 0x1000 ≤ off → off < 0x5000 → off % 4 = 0 →
      ((port s p).mb.busy = false →
        ∃ t, exec (.registerWrite p 2 off 4 v) s = .next t ∧ readNat (port t p).mb.req (off - 0x1000) 4 = v
          ∧ (∀ a, a < off - 0x1000 ∨ off - 0x1000 + 4 ≤ a → readByte (port t p).mb.req a = readByte (port s p).mb.req a)
          ∧ t = setPort s p { port s p with mb := { (port s p).mb with req := (port t p).mb.req } })
      ∧ ((port s p).mb.busy = true →
        exec (.registerWrite p 2 off 4 v) s = .next (setPort s p { port s p with mb := { (port s p).mb with overrun := true } })))
    ∧ (∀ off, off % 4 ≠ 0 → exec (.registerWrite p 0 off 4 v) s = .next s)

/-- A mailbox (R372, R373): MB_CTRL takes its fields; GO submits the request in MB_REQ, which BUSY tells; while BUSY, and before
READY, GO only sets OVERRUN; MB_STATUS clears DONE and OVERRUN by ones. -/
def Claims.MailboxRegisters : Prop :=
  ∀ (s : State) (p : Port) (value : Nat), portLive s p = true →
    (bit value 31 = true → (port s p).mb.busy = false → s.dict.ready = true →
      16 ≤ bits value 14 0 → bits value 14 0 ≤ 16384 →
      exec (.mailboxGo p value) s = .next (setPort s p { port s p with mb := { (port s p).mb with
        irqEn := bit value 27, vector := bits value 26 16, reqBytes := bits value 14 0, busy := true,
        taken := bits value 14 0 } }))
    ∧ (bit value 31 = true → ((port s p).mb.busy = true ∨ s.dict.ready = false) →
      ∃ t, exec (.mailboxGo p value) s = .next t ∧ (port t p).mb.overrun = true ∧ (port t p).mb.busy = (port s p).mb.busy
        ∧ (port t p).mb.taken = (port s p).mb.taken ∧ t = setPort s p (port t p))
    ∧ (exec (.mbStatusClear p value) s = .next (setPort s p { port s p with mb := { (port s p).mb with
        done := (port s p).mb.done && !(bit value 2), overrun := (port s p).mb.overrun && !(bit value 3) } }))

/-- Host register and mailbox register writes change their register, and nothing else. -/
def Obligations.RegisterWritesLandInTheirRegister : Prop :=
  Claims.RegisterWritesLandInTheirRegister ∧ Claims.MailboxRegisters

/-- COMMAND_FETCH_DONE (R201): the commands between head and tail enter the channel in order, each with the channel's next
SEQ, and head moves past them; `words` holds no more than one read brings and the channel may still have outstanding. No
other channel changes. -/
def Obligations.FetchTakesCommandsInOrder : Prop :=
  ∀ (s : State) (slot : Nat) (words : List CmdWord),
    (chan s slot).state = .active → fetchAllowed s slot = true → paging s slot 0 .sq = none →
    words.length ≤ 32 → words.length ≤ unfetched (chan s slot) → 0 < (chan s slot).cfg.sqN → (chan s slot).seq < 65536 →
    (chan s slot).cmds.length + words.length ≤ min (chan s slot).cfg.outMax 32768 →
    ∃ t, exec (.commandFetchDone slot words) s = .next t
      ∧ (chan t slot).cmds.map (·.word) = (chan s slot).cmds.map (·.word) ++ words
      ∧ (chan t slot).cmds.map (·.seq) = (chan s slot).cmds.map (·.seq)
          ++ (List.range words.length).map (fun i => ((chan s slot).seq + i) % 65536)
      ∧ (chan t slot).head % (chan s slot).cfg.sqN = ((chan s slot).head + words.length) % (chan s slot).cfg.sqN
      ∧ (chan t slot).tail = (chan s slot).tail ∧ (chan t slot).cfg = (chan s slot).cfg
      ∧ (∀ n, n ≠ slot → chan t n = chan s n) ∧ t = { s with chans := t.chans }

/-- ABORT_CHANNEL and DESTROY_CHANNEL (R222): at the abort point the target discards every outstanding command and report,
its tail returns to its head, it is ABORTING or DESTROYING, and the accepted writes are the ones kept. -/
def Claims.AbortPointEmptiesTheChannel : Prop :=
  ∀ (s : State) (slot seq n : Nat) (o : OutCmd), reservedOk o.word = true →
    handleSlot s (portOf s slot) (aTarget o.word) = some n → isAdmin s n = false → n ≠ slot →
    ((chan s n).state = .active ∨ (chan s n).state = .error) →
    (admitting s slot seq 0x82 = some o →
      ∃ t, exec (.abortChannel slot seq) s = .next t ∧ (chan t n).state = .aborting ∧ (chan t n).cmds = []
        ∧ (chan t n).dones = [] ∧ (chan t n).reports = [] ∧ (chan t n).tail = (chan t n).head
        ∧ (chan t n).abort = some { by_ := [(slot, seq)], destroy := false,
                                    kept := ((chan s n).cmds.filter wasAccepted).map (·.seq) })
    ∧ (admitting s slot seq 0x81 = some o →
      ∃ t, exec (.destroyChannel slot seq) s = .next t ∧ (chan t n).state = .destroying ∧ (chan t n).cmds = []
        ∧ (chan t n).dones = [] ∧ (chan t n).reports = [] ∧ (chan t n).tail = (chan t n).head
        ∧ (chan t n).abort = some { by_ := [(slot, seq)], destroy := true,
                                    kept := ((chan s n).cmds.filter wasAccepted).map (·.seq) })

/-- R221, first sentences: an ABORT_CHANNEL or DESTROY_CHANNEL that names an admin slot completes with INVALID and changes
nothing else; so does one whose handle names no channel of the port (R199). -/
def Claims.AdminChannelCannotBeAborted : Prop :=
  ∀ (s : State) (slot seq : Nat) (o : OutCmd), reservedOk o.word = true →
    (∀ n, handleSlot s (portOf s slot) (aTarget o.word) = some n → isAdmin s n = true) →
    (admitting s slot seq 0x82 = some o → ∃ t, exec (.abortChannel slot seq) s = .next t
      ∧ Finished t slot seq { status := .invalid } ∧ SameButCmd s t slot seq)
    ∧ (admitting s slot seq 0x81 = some o → ∃ t, exec (.destroyChannel slot seq) s = .next t
      ∧ Finished t slot seq { status := .invalid } ∧ SameButCmd s t slot seq)

/-- ABORT_CHANNEL and DESTROY_CHANNEL empty their target at the abort point; admin channels are refused. -/
def Obligations.AbortPointEmptiesTheChannel : Prop :=
  Claims.AbortPointEmptiesTheChannel ∧ Claims.AdminChannelCannotBeAborted

/-- ABORT_COMPLETE and CHANNEL_FREED (R196, R220, R221, R224): every queue pointer, SEQ and the phase start again; an aborted
channel is ACTIVE with its set-up; a destroyed one is DESTROYING with the next GEN, and FREE once no run of its commands is
left; an aborted admin channel is FREE and ENABLED reads 0. -/
def Claims.AbortEndsWithResetQueues : Prop :=
  ∀ (s : State) (slot : Nat) (a : AbortRec), (chan s slot).abort = some a → (∀ r, r ∈ a.by_ → r.1 ≠ slot) →
    (isAdmin s slot = false →
      ∃ t, exec (.abortComplete slot) s = .next t
        ∧ chan t slot = { resetQueues (chan s slot) with
            state := if a.destroy then .destroying else .active
            gen := if a.destroy then nextGen (chan s slot).gen else (chan s slot).gen }
        ∧ (∀ n, n ≠ slot → (∀ r, r ∈ a.by_ → r.1 ≠ n) → chan t n = chan s n) ∧ t = { s with chans := t.chans })
    ∧ (isAdmin s slot = true →
      ∃ t, exec (.abortComplete slot) s = .next t ∧ (chan t slot).state = .free
        ∧ (port t (portOf s slot)).enabled = false ∧ (∀ n, n ≠ slot → chan t n = chan s n)
        ∧ t = { s with chans := t.chans, portA := t.portA, portB := t.portB })

/-- CHANNEL_FREED (R221). -/
def Claims.DestroyedChannelIsFreedAfterItsRuns : Prop :=
  ∀ (s : State) (slot : Nat), (chan s slot).state = .destroying → (chan s slot).abort = none →
    ((∀ r, r ∈ s.dense.runs → r.slot ≠ slot) →
      ∃ t, exec (.channelFreed slot) s = .next t ∧ (chan t slot).state = .free ∧ (chan t slot).gen = (chan s slot).gen
        ∧ (∀ n, n ≠ slot → chan t n = chan s n) ∧ t = { s with chans := t.chans })
    ∧ ((∃ r, r ∈ s.dense.runs ∧ r.slot = slot) → exec (.channelFreed slot) s = .next s)

/-- The RESULT of ABORT_CHANNEL and DESTROY_CHANNEL once the abort is complete (R224): the command that asked finishes with OK;
for ABORT_CHANNEL the RESULT tells how many accepted writes were kept and the SEQ of the last one. -/
def Claims.AbortReportsTheKeptWrites : Prop :=
  ∀ (s : State) (slot aslot seq : Nat) (a : AbortRec) (o : OutCmd), (chan s slot).abort = some a →
    isAdmin s slot = false → aslot ≠ slot → a.by_ = [(aslot, seq)] → outCmd s aslot seq = some o →
    (cOpcode o.word = 0x82 → ∃ t, exec (.abortComplete slot) s = .next t ∧
      Finished t aslot seq { status := .ok, result := match a.kept.getLast? with
        | none => 0
        | some q => 2 ^ 32 + q * 2 ^ 16 + a.kept.length })
    ∧ (cOpcode o.word = 0x81 → ∃ t, exec (.abortComplete slot) s = .next t ∧ Finished t aslot seq { status := .ok })

/-- An aborted channel starts again from reset queues, and its abort reports the kept writes. -/
def Obligations.AbortsEndWithResetQueuesAndAReport : Prop :=
  Claims.AbortEndsWithResetQueues ∧ Claims.DestroyedChannelIsFreedAfterItsRuns ∧ Claims.AbortReportsTheKeptWrites

/-- BARRIER (R213, R214): admitted only when no earlier command of the channel is outstanding, it finishes with OK; with
VISIBLE it waits until every write that the channel has accepted is published or has failed. -/
def Claims.BarrierFinishesBehindEverything : Prop :=
  ∀ (s : State) (slot seq : Nat) (o : OutCmd), admitting s slot seq 0x40 = some o → reservedOk o.word = true →
    earlier (chan s slot) seq = []
    ∧ ((cVisible o.word = false ∨ writesSettled s slot = true) →
      ∃ t, exec (.barrier slot seq) s = .next t ∧ Finished t slot seq { status := .ok } ∧ SameButCmd s t slot seq)
    ∧ (cVisible o.word = true → writesSettled s slot = false →
      ∃ t, exec (.barrier slot seq) s = .next t ∧ outCmd t slot seq = some { o with stage := .running }
        ∧ SameButCmd s t slot seq)

/-- COMPLETION_WRITE (R202, R216-R218): the next finished command of a live channel with room in its completion queue leaves
the channel; its 32-byte entry is the last host write of the step, at the queue's tail, with the channel's PASID; the tail
moves on and the phase turns over where it wraps; a standing report rides along and DEFERRED_REPORT replaces OK. DONE_TIME is
the time that the NCLK domain sees (R22); with the entry of a search its query leaves, and what it held is free (R80, R126). A
GET_LOG returns what of its entries is still held (R404). In the ACLK cycle in which an entry to Q1 or Q2 was reached, its command's
entry is not yet written (R439; the model's choice: log entry 136). -/
def Claims.CompletionWritePostsTheEntry : Prop :=
  ∀ (s : State) (slot seq lag : Nat) (o : OutCmd) (k : Compl),
    nextDone (chan s slot) = some o → o.seq = seq → o.stage = .done k →
    ((chan s slot).state = .active ∨ ((chan s slot).state = .error ∧ (chan s slot).errCause ≠ 2 ∧ (chan s slot).errCause ≠ 4)) →
    cqRoom (chan s slot) = true → s.log.isFatal = false → paging s slot 0 .cq = none →
    ((chan s slot).reports.length ≤ 1 ∨ cOpcode o.word ≠ 0x40) →
    (justReached s o = true → exec (.completionWrite slot seq lag) s = .next s) ∧ (justReached s o = false →
    ∃ t w, exec (.completionWrite slot seq lag) s = .next t ∧ outCmd t slot seq = none
      ∧ t.writes.head? = some w ∧ w.addr = (chan s slot).cfg.cqAddr + 32 * (chan s slot).cqTail
      ∧ w.pasid = (chan s slot).cfg.pasid ∧ w.port = portOf s slot
      ∧ w.data = entryBytes {
          compl := settled o (lastResult s o k)
          status := if (settled o (lastResult s o k)).status = .ok ∧ (chan s slot).reports ≠ [] then .deferredReport
                    else (settled o (lastResult s o k)).status
          seq := seq, tag := cTag o.word, sqHead := (chan s slot).head, phase := (chan s slot).phase, doneTime := seenTime s lag
          report := (chan s slot).reports.head?, lost := (chan s slot).lost }
      ∧ (chan t slot).cqTail = ((chan s slot).cqTail + 1) % (chan s slot).cfg.cqN
      ∧ (chan t slot).phase = (if ((chan s slot).cqTail + 1) % (chan s slot).cfg.cqN = 0 then !(chan s slot).phase
                               else (chan s slot).phase)
      ∧ (chan t slot).reports = (chan s slot).reports.drop 1 ∧ (chan t slot).lost = false
      ∧ (∀ n, n ≠ slot → chan t n = chan s n)
      ∧ (∀ q, isSearchOp (cOpcode o.word) = true → queryOf s (hostTag slot seq) = some q → q.phase = .done →
          queryOf t (hostTag slot seq) = none)
      ∧ (isSearchOp (cOpcode o.word) = false → t.queries = s.queries ∧ t.strums = s.strums ∧ t.strays = s.strays
          ∧ t.bridges = s.bridges ∧ t.dense = s.dense)
      ∧ t = { s with chans := t.chans, writes := t.writes, ctr := t.ctr, ring0 := t.ring0, ring1 := t.ring1, power := t.power,
                     portA := t.portA, portB := t.portB, msi := t.msi, queries := t.queries, strums := t.strums,
                     strays := t.strays, bridges := t.bridges, dense := t.dense })

/-- INT_COALESCE_EXPIRY (R202, R232): INT_COALESCE_TIME, as it stood at the last entry, after the first entry without a message,
the message is sent and nothing stays pending; before that, nothing happens. -/
def Claims.CoalescedInterruptIsSentInTime : Prop :=
  ∀ (s : State) (slot c : Nat), (chan s slot).coalSince = some c → (chan s slot).coalPend ≠ 0 →
    (c + (chan s slot).coalWait ≤ s.time.tick →
      ∃ t, exec (.intCoalesceExpiry slot) s = .next t ∧ (chan t slot).coalPend = 0 ∧ (chan t slot).coalSince = none
        ∧ (bit (msixWord (port s (portOf s slot)) (4 * (chan s slot).cfg.msix + 3)) 0 = false →
            t.msi = (portOf s slot, (chan s slot).cfg.msix) :: s.msi)
        ∧ (∀ n, n ≠ slot → chan t n = chan s n)
        ∧ t = { s with chans := t.chans, portA := t.portA, portB := t.portB, msi := t.msi })
    ∧ (s.time.tick < c + (chan s slot).coalWait → exec (.intCoalesceExpiry slot) s = .next s)

/-- BARRIER finishes behind everything; a completion entry is written at the tail; interrupts are coalesced in time. -/
def Obligations.CompletionsAndInterruptsArePosted : Prop :=
  Claims.BarrierFinishesBehindEverything ∧ Claims.CompletionWritePostsTheEntry ∧ Claims.CoalescedInterruptIsSentInTime

/-- GET_LOG (R404): the entries from FROM up that may be read, oldest first and at most MAX, are the command's result; COUNT is
their number, and RESULT the sequence number to read next. The end H stands for the completion, which leaves out what is overwritten
until then. -/
def Claims.GetLogReturnsTheEntriesFromOn : Prop :=
  ∀ (s : State) (slot seq unread : Nat) (o : OutCmd), admitting s slot seq 0x87 = some o → reservedOk o.word = true →
    fld o.word 255 192 % 64 = 0 → gMax o.word ≠ 0 →
    ∃ t es k, exec (.getLog slot seq unread) s = .next t
      ∧ es = (heldEvents s.log).filter (fun e => decide (gFrom o.word ≤ e.seq ∧ e.seq < readableEnd s unread))
      ∧ Finished t slot seq k ∧ k.status = .ok ∧ k.count = min es.length (gMax o.word)
      ∧ k.writes = placed (fld o.word 255 192) ((es.take (gMax o.word)).map eventBytes)
      ∧ (es.length < gMax o.word → k.result = readableEnd s unread)
      ∧ (∀ e, (es.take (gMax o.word)).getLast? = some e → gMax o.word ≤ es.length → k.result = e.seq + 1)
      ∧ (∀ c, outCmd t slot seq = some c → c.upTo = readableEnd s unread)
      ∧ SameButCmd s t slot seq

/-- The layouts of a completion entry (R216), of its CAUSE field (R217) and of an event entry (R402). -/
def Claims.EntriesFollowTheirLayout : Prop :=
  (∀ e : EntryIn,
    bits (entryWord e) 31 0 = e.doneTime % 2 ^ 32 ∧ bits (entryWord e) 39 32 = statusCode e.status
    ∧ bits (entryWord e) 47 40 = causeBits e.compl.cause e.report.isSome e.lost e.reportOnly
    ∧ bits (entryWord e) 63 48 = e.seq % 65536 ∧ bits (entryWord e) 79 64 = e.tag % 65536
    ∧ bits (entryWord e) 95 80 = e.compl.count % 65536 ∧ bits (entryWord e) 111 96 = e.sqHead % 65536
    ∧ bits (entryWord e) 191 128 = e.compl.result % 2 ^ 64
    ∧ (∀ r, e.report = some r → bits (entryWord e) 127 112 = r.1 % 65536 ∧ bits (entryWord e) 199 192 = statusCode r.2)
    ∧ (e.report = none → bits (entryWord e) 127 112 = 0 ∧ bits (entryWord e) 199 192 = 0)
    ∧ bits (entryWord e) 247 200 = e.compl.epoch % 2 ^ 48 ∧ bits (entryWord e) 254 248 = 0
    ∧ bit (entryWord e) 255 = e.phase ∧ leNat (entryBytes e) = entryWord e ∧ (entryBytes e).length = 32)
  ∧ (∀ (c : Cause) (dv dl ro : Bool), bit (causeBits c dv dl ro) 7 = dv ∧ bit (causeBits c dv dl ro) 6 = dl
    ∧ bit (causeBits c dv dl ro) 5 = c.cut ∧ bit (causeBits c dv dl ro) 4 = c.poison ∧ bit (causeBits c dv dl ro) 3 = c.fenced
    ∧ bit (causeBits c dv dl ro) 2 = c.late ∧ bit (causeBits c dv dl ro) 1 = c.arrivalWon ∧ bit (causeBits c dv dl ro) 0 = ro)
  ∧ (∀ (e : Event) (w : Nat), w = leNat (eventBytes e) →
    (eventBytes e).length = 64 ∧ bits w 63 0 = e.seq % 2 ^ 64 ∧ bits w 127 64 = e.time % 2 ^ 64
    ∧ bits w 143 128 = e.code % 65536 ∧ bits w 151 144 = e.severity % 256 ∧ bits w 159 152 = e.kind % 256
    ∧ bits w 175 160 = e.source % 65536 ∧ bits w 191 176 = 0 ∧ bits w 223 192 = e.handle % 2 ^ 32
    ∧ bits w 231 224 = e.index % 256 ∧ bits w 255 232 = 0
    ∧ (∀ i, i < 4 → bits w (319 + 64 * i) (256 + 64 * i) = nth e.args i 0 % 2 ^ 64))

/-- ALERT_N (R405): while the module drives its outputs (R464) it is driven low exactly while FATAL is set, or the ring holds an entry at or above
LOG_ACK whose severity is at or above ALERT_SEVERITY. -/
def Claims.AlertFollowsTheLog : Prop :=
  ∀ s : State, drives s = true →
    (alertLow s = true ↔ s.log.isFatal = true ∨ ∃ e, e ∈ s.log.ring ++ s.log.early ∧ s.log.ack ≤ e.seq ∧ ctl s 0x900005 ≤ e.severity)

/-- Layouts of completion and event entries; GET_LOG returns the entries from FROM on; ALERT_N follows the log. -/
def Obligations.EntriesAndEventsFollowTheirLayout : Prop :=
  Claims.GetLogReturnsTheEntriesFromOn ∧ Claims.EntriesFollowTheirLayout ∧ Claims.AlertFollowsTheLog

/-- A translation (R226, R227, R229). A grant makes a result or log buffer present. Without access and with PRI on, the pages are
requested: the access pages, and what the allocation has room for leaves as page requests. A failed translation of a
submission queue moves an ACTIVE channel to ERROR with cause 1 and logs CHANNEL_ERROR; of a result or log buffer it marks
the buffer failed. -/
def Claims.TranslationAnswersAreActedOn : Prop :=
  ∀ (s : State) (slot seq : Nat) (o : OutCmd), outCmd s slot seq = some o → o.xlat = .asked → cOpcode o.word ≠ 0x87 →
    paging s slot seq .result = none →
    (∃ t, exec (.translationResponse slot seq .result .granted) s = .next t
      ∧ outCmd t slot seq = some { o with xlat := .present } ∧ SameButCmd s t slot seq)
    ∧ (∃ t, exec (.translationResponse slot seq .result .error) s = .next t
      ∧ outCmd t slot seq = some { o with xlat := .failed } ∧ SameButCmd s t slot seq)
    ∧ ((port s (portOf s slot)).priOn = true → ∀ n, n ≠ 0 →
      ∃ t, exec (.translationResponse slot seq .result (.noAccess n)) s = .next t
        ∧ outCmd t slot seq = some { o with xlat := .paging }
        ∧ t = { s with chans := t.chans, pageReqs := t.pageReqs, ctr := t.ctr })
    ∧ ((chan s slot).state = .active → paging s slot 0 .sq = none → isAdmin s slot = false →
      ∃ t, exec (.translationResponse slot seq .sq .error) s = .next t ∧ (chan t slot).state = .error
        ∧ (chan t slot).errCause = 1 ∧ (chan t slot).cmds = (chan s slot).cmds ∧ (∀ n, n ≠ slot → chan t n = chan s n)
        ∧ t = { s with chans := t.chans, log := t.log } ∧ t.log.next = s.log.next + 1)

/-- Page requests (R226, R230): a response within PRI_TIMEOUT to the only page request of an access makes the access present,
or fails it; a response later than PRI_TIMEOUT is not taken, and the timeout then fails the access. -/
def Claims.PageRequestsEndByResponseOrTimeout : Prop :=
  ∀ (s : State) (slot seq since : Nat) (o : OutCmd) (p : Port),
    s.pageReqs = [{ port := p, slot := slot, seq := seq, acc := .result, sinces := [since], more := 0 }] →
    outCmd s slot seq = some o → isBufferOp (cOpcode o.word) = false →
    (s.time.tick ≤ since + priTimeout s →
      (∃ t, exec (.pageResponse slot seq .result true) s = .next t ∧ t.pageReqs = []
        ∧ outCmd t slot seq = some { o with xlat := .present } ∧ t = { s with chans := t.chans, pageReqs := [] })
      ∧ (∃ t, exec (.pageResponse slot seq .result false) s = .next t ∧ t.pageReqs = []
        ∧ outCmd t slot seq = some { o with xlat := .failed } ∧ t = { s with chans := t.chans, pageReqs := [] })
      ∧ exec (.pageRequestTimeout slot seq .result) s = .next s)
    ∧ (since + priTimeout s < s.time.tick →
      exec (.pageResponse slot seq .result true) s = .next s
      ∧ (∃ t, exec (.pageRequestTimeout slot seq .result) s = .next t ∧ t.pageReqs = []
        ∧ outCmd t slot seq = some { o with xlat := .failed } ∧ t = { s with chans := t.chans, pageReqs := [] }))

/-- An ATS invalidation takes the translation of a present result buffer back: it is asked for again (R229). -/
def Claims.InvalidationAsksAgain : Prop :=
  ∀ (s : State) (p : Port) (slot seq : Nat) (o : OutCmd), portOf s slot = p → (port s p).atsOn = true →
    outCmd s slot seq = some o → o.xlat = .present →
    ∃ t, exec (.atsInvalidation p slot seq) s = .next t ∧ outCmd t slot seq = some { o with xlat := .asked }
      ∧ SameButCmd s t slot seq

/-- The end of a read of a command's buffer (R228): the query vector of a waiting search is its operand from then on, and a
failed read of it finishes the search with PAGE_FAULT; a read of a payload that fails finishes the write with PAGE_FAULT and
nothing else. -/
def Claims.BufferReadsReachTheirCommand : Prop :=
  ∀ (s : State) (slot seq : Nat) (o : OutCmd), outCmd s slot seq = some o →
    (∀ (q : Query) (bs : List Byte), queryOf s (hostTag slot seq) = some q → q.vectorFrom = true → q.qvec = none →
      q.phase ≠ .done → q.home = none → bufLen s o.word .query = some bs.length → paging s slot seq .query = none →
      (∀ r, r ∈ s.dense.reqs → r.owner ≠ .vector (hostTag slot seq)) →
      ∃ t, exec (.bufferReadDone slot seq .query (some bs)) s = .next t
        ∧ queryOf t (hostTag slot seq) = some { q with qvec := some bs }
        ∧ (∀ n, n ≠ hostTag slot seq → queryOf t n = queryOf s n) ∧ t = { s with queries := t.queries })
    ∧ (∀ q : Query, queryOf s (hostTag slot seq) = some q → q.vectorFrom = true → q.qvec = none → q.phase ≠ .done →
      q.origin = .host slot seq → paging s slot seq .query = none → (∀ r, r ∈ s.dense.reqs → r.owner ≠ .vector (hostTag slot seq)) →
      ∃ t k, exec (.bufferReadDone slot seq .query none) s = .next t ∧ Finished t slot seq k ∧ k.status = .pageFault)
    ∧ (o.stage = .waiting → o.bufs = [] → (cOpcode o.word = 0x10 ∨ cOpcode o.word = 0x12) → paging s slot seq .payload = none →
      (∃ t, exec (.bufferReadDone slot seq .payload none) s = .next t ∧ Finished t slot seq { status := .pageFault }
        ∧ SameButCmd s t slot seq)
      ∧ (∀ bs : List Byte, bs.length = wDims o.word * rrSize (wElemFmt o.word) →
        ∃ t, exec (.bufferReadDone slot seq .payload (some bs)) s = .next t
          ∧ outCmd t slot seq = some { o with bufs := [(.payload, some bs)] } ∧ SameButCmd s t slot seq))

/-- Translations, page requests, invalidations and buffer reads act on the access they belong to. -/
def Obligations.HostAccessesAreTranslatedAndRead : Prop :=
  Claims.TranslationAnswersAreActedOn ∧ Claims.PageRequestsEndByResponseOrTimeout ∧ Claims.InvalidationAsksAgain ∧ Claims.BufferReadsReachTheirCommand

/-- SEARCH and SEARCH_EXACT that pass the checks of R79 are admitted: the command runs, and one query enters the module with
its QUERY_TAG, stamped with T_a and the admission epoch, its parameters resolved by R86, waiting to start; a cut
reservation, if it gets one, is a whole bin of 1 µs at or before the deadline and after its admission (R80). Nothing else
that is in flight changes. -/
def Claims.SearchIsAdmittedAndStamped : Prop :=
  ∀ (s : State) (slot seq lag : Nat) (o : OutCmd) (x : Index),
    indexAt s (cIndex o.word) = some x → queryOf s (hostTag slot seq) = none →
    (admitting s slot seq 0x01 = some o → searchCheck s slot o.word false (seenTime s lag) = none →
      ∃ t q, exec (.search slot seq lag) s = .next t ∧ t.queries = s.queries ++ [q]
        ∧ q.tag = hostTag slot seq ∧ q.origin = .host slot seq ∧ q.index = cIndex o.word ∧ q.exact = none
        ∧ q.epoch = admitEpoch s x o.word ∧ q.admitted = seenTime s lag ∧ q.deadline = sDeadline o.word
        ∧ q.params = resolve s x o.word ∧ q.phase = .waiting ∧ q.qvec = none ∧ q.walks = []
        ∧ (∀ c, q.cut = some c → c % 1000 = 0 ∧ c ≤ q.deadline ∧ max q.admitted (s.time.base - 80) / 1000 * 1000 < c)
        ∧ (∃ o', outCmd t slot seq = some o' ∧ o'.stage = .running ∧ o'.epoch = q.epoch)
        ∧ (∀ n, n ≠ slot → chan t n = chan s n)
        ∧ t = { s with chans := t.chans, queries := t.queries, strums := t.strums, bridges := t.bridges, ctr := t.ctr })
    ∧ (admitting s slot seq 0x02 = some o → searchCheck s slot o.word true (seenTime s lag) = none →
      ∃ t q, exec (.searchExact slot seq lag) s = .next t ∧ t.queries = s.queries ++ [q]
        ∧ q.tag = hostTag slot seq ∧ q.origin = .host slot seq ∧ q.index = cIndex o.word
        ∧ q.exact = some (cPartition o.word)
        ∧ q.epoch = admitEpoch s x o.word ∧ q.admitted = seenTime s lag ∧ q.deadline = sDeadline o.word
        ∧ q.params = resolve s x o.word ∧ q.phase = .waiting ∧ q.qvec = none
        ∧ (∀ c, q.cut = some c → c % 1000 = 0 ∧ c ≤ q.deadline ∧ max q.admitted (s.time.base - 80) / 1000 * 1000 < c)
        ∧ (∃ o', outCmd t slot seq = some o' ∧ o'.stage = .running ∧ o'.epoch = q.epoch)
        ∧ (∀ n, n ≠ slot → chan t n = chan s n)
        ∧ t = { s with chans := t.chans, queries := t.queries, ctr := t.ctr })

/-- The checks of R79 in their order, and what the first that fails answers: a reserved field or K out of range INVALID, no
such index or one of another tenant NO_INDEX, a deadline at or before T_a TOO_LATE, one less than 10 µs or more than 1 s
ahead INVALID. The command finishes with that status and nothing else changes. -/
def Claims.SearchFailsWithItsFirstFailedCheck : Prop :=
  ∀ (s : State) (slot seq lag : Nat) (o : OutCmd) (t : Nat), t = seenTime s lag → admitting s slot seq 0x01 = some o →
    (∀ st, searchCheck s slot o.word false t = some st →
      ∃ u, exec (.search slot seq lag) s = .next u ∧ Finished u slot seq { status := st } ∧ SameButCmd s u slot seq)
    ∧ (reservedOk o.word = false → searchCheck s slot o.word false t = some .invalid)
    ∧ (reservedOk o.word = true → seesIndex s slot (cIndex o.word) = false →
        searchCheck s slot o.word false t = some .noIndex)
    ∧ (∀ x, indexAt s (cIndex o.word) = some x → reservedOk o.word = true → seesIndex s slot (cIndex o.word) = true →
      ((sK o.word < 1 ∨ 1024 < sK o.word) → searchCheck s slot o.word false t = some .invalid)
      ∧ (1 ≤ sK o.word → sK o.word ≤ 1024 → searchFieldsOk s x o.word false = true → x.cfg.rrFmt ≠ 0 →
        (sDeadline o.word ≤ t → searchCheck s slot o.word false t = some .tooLate)
        ∧ (t < sDeadline o.word → (sDeadline o.word < t + 10000 ∨ t + 1000000000 < sDeadline o.word) →
            searchCheck s slot o.word false t = some .invalid)
        ∧ (t + 10000 ≤ sDeadline o.word → sDeadline o.word ≤ t + 1000000000 →
            searchCheck s slot o.word false t = none)))

/-- SEARCH and SEARCH_EXACT are checked in the order of R79, admitted and stamped. -/
def Obligations.SearchIsCheckedAdmittedAndStamped : Prop :=
  Claims.SearchIsAdmittedAndStamped ∧ Claims.SearchFailsWithItsFirstFailedCheck

/-- SEARCH_START (R63, R126, R418): a startable search that no earlier startable one precedes, before its cut time, with a
metering token where metering is on, starts on its home core: it holds g contexts there for the walk of partition 0, the
other partitions wait for theirs, and one token is drawn below level 64. -/
def Claims.SearchStartsOnItsHomeCore : Prop :=
  ∀ (s : State) (tag core lag a : Nat) (q : Query) (x : Index), queryOf s tag = some q → q.exact = none →
    startable s q = true → ((s.queries.takeWhile (fun y => y.tag != tag)).all (fun y => !(startable s y))) = true →
    (∀ c, q.cut = some c → seenTime s lag < c) → (s.power.thr.meter < 64 → s.power.tokens ≠ 0) →
    indexAt s q.index = some x → placeOn s (((partAt x 0).map (·.mask)).getD 0) (walkWidth q) core = some a →
    ∃ t q', exec (.searchStart tag core lag) s = .next t ∧ queryOf t tag = some q' ∧ q'.phase = .started
      ∧ q'.home = some core ∧ q'.walks = [{ part := 0, core := core, ctx := a, g := walkWidth q }]
      ∧ q'.unplaced = (List.range x.parts.length).drop 1 ∧ q'.cut = q.cut ∧ q'.epoch = q.epoch
      ∧ (s.power.thr.meter < 64 → t.power.tokens = s.power.tokens - 1
          ∧ t.power = { s.power with tokens := t.power.tokens, tokenPart := t.power.tokenPart, tokenFrom := t.power.tokenFrom })
      ∧ (64 ≤ s.power.thr.meter → t.power = s.power)
      ∧ t.dense = { s.dense with reqs := t.dense.reqs, limitSince := t.dense.limitSince }
      ∧ t = { s with queries := t.queries, ctr := t.ctr, fabric := t.fabric, power := t.power, dense := t.dense }

/-- QUERY_REGISTRATION_DONE (R63, R64): in admission order, with an entry free on every stack of the index and room for its
parameter blocks in every cache, the query is registered and has an entry of each table: the lowest free one, which is the model's
choice (log entry 102). SEARCH_METER_TOKEN (R418): below
level 64 the bucket gains one token, up to 64, once its rate m ÷ 64 × 32 × 10^6 a second has one due. -/
def Claims.RegistrationAndMetering : Prop :=
  (∀ (s : State) (tag : Nat) (q : Query) (x : Index), queryOf s tag = some q → indexAt s q.index = some x →
    q.phase = .started → q.encoded = true → q.exact = none → q.cutDone = false →
    (∀ y, y ∈ s.queries.takeWhile (fun y => y.tag != tag) → y.phase ≠ .started) →
    (∀ m, m ∈ indexStacks x → entriesOn s m < 7168 ∧ loadBlocks s m (blocksOf_ q) ≠ none) →
    (∀ c, q.cut = some c → s.time.base ≤ c) →
    ∃ t, exec (.queryRegistrationDone tag) s = .next t
      ∧ queryOf t tag = some { q with
          phase := .registered, qtab := (indexStacks x).map (fun m => (m, freeEntry s m))
          walks := q.walks.map (fun w => { w with descent := descentFree s w.core }) }
      ∧ (∀ m, m ∈ indexStacks x → some (bridge t m).cache = loadBlocks s m (blocksOf_ q)
          ∧ (bridge t m).reqs = (bridge s m).reqs ∧ (bridge t m).orders = (bridge s m).orders)
      ∧ (∀ n, n ≠ tag → queryOf t n = queryOf s n) ∧ t = { s with queries := t.queries, bridges := t.bridges })
  ∧ (∀ (s : State) (due : Nat), due = s.power.tokenPart + s.power.thr.meter * (s.time.tick - s.power.tokenFrom) →
    (s.power.thr.meter < 64 → s.power.tokens < 64 → 2000 ≤ due →
      exec .searchMeterToken s = .next { s with power := { s.power with
        tokens := s.power.tokens + 1, tokenPart := due - 2000, tokenFrom := s.time.tick } })
    ∧ (64 ≤ s.power.thr.meter ∨ 64 ≤ s.power.tokens ∨ due < 2000 → exec .searchMeterToken s = .next s))

/-- R60 and R62: a walk's contexts are the smallest power of two that holds its width, consecutive, aligned and free on its core;
its visited filter has 32,768 bits a context, and a slot is visited where both of its bits are set. -/
def Claims.WalksHoldAlignedContexts : Prop :=
  (∀ q : Query, 1 ≤ effWidth q.params → effWidth q.params ≤ 1024 →
    ∃ n, n ≤ 4 ∧ walkWidth q = 2 ^ n ∧ effWidth q.params ≤ 64 * walkWidth q
      ∧ (∀ m, effWidth q.params ≤ 64 * 2 ^ m → n ≤ m) ∧ 2 ^ filterLog (walkWidth q) = 32768 * walkWidth q)
  ∧ (∀ (s : State) (mask g core a : Nat), g ∈ [1, 2, 4, 8, 16] → placeOn s mask g core = some a →
    a % g = 0 ∧ a + g ≤ 256 ∧ core / 64 ∈ diesOfMask mask ∧ walkCore s core = true
    ∧ (∀ w, w ∈ heldWalks s → w.core = core → ∀ i, i < g → a + i < w.ctx ∨ w.ctx + w.g ≤ a + i))
  ∧ (∀ g slot : Nat, g ∈ [1, 2, 4, 8, 16] → slot < 2 ^ 32 →
    (visitBits (filterLog g) slot).1 < 32768 * g ∧ (visitBits (filterLog g) slot).2 < 32768 * g
    ∧ (∀ seen, isVisited g (visit g seen slot) slot = true)
    ∧ (∀ seen, isVisited g seen slot = true ↔
        (visitBits (filterLog g) slot).1 ∈ seen ∧ (visitBits (filterLog g) slot).2 ∈ seen)
    ∧ isVisited g [] slot = false)

/-- A search starts on its home core with aligned contexts, is registered on its stacks, and is metered. -/
def Obligations.SearchStartsRegistersAndHoldsContexts : Prop :=
  Claims.SearchStartsOnItsHomeCore ∧ Claims.RegistrationAndMetering ∧ Claims.WalksHoldAlignedContexts

/-- WALK_PLACE (R63, R91): a further walk takes g contexts that are free on a permitted die, and a context of a SEARCH_EXACT one on
the die of its stack. WALK_DESCENT (R66, R106): with a descent slot of its core the walk begins layer 0 at its first fret, which
it has visited; a partition without an entry point ends the walk; without a slot it waits. -/
def Claims.WalksArePlacedAndDescend : Prop :=
  (∀ (s : State) (tag stack core a pn : Nat) (q : Query) (x : Index), queryOf s tag = some q → indexAt s q.index = some x →
    q.phase = .registered → q.exact = some pn → q.cutDone = false → (∀ c, q.cut = some c → s.time.base ≤ c) →
    stack ∈ q.unplaced → placeOn s (2 ^ stack) 1 core = some a →
    ∃ t q', exec (.walkPlace tag stack core) s = .next t ∧ queryOf t tag = some q' ∧ core / 64 = stack / 2
      ∧ q'.walks = q.walks ++ [{ part := stack, core := core, ctx := a, g := 1 }]
      ∧ q'.unplaced = q.unplaced.erase stack ∧ (∀ n, n ≠ tag → queryOf t n = queryOf s n) ∧ t = { s with queries := t.queries })
  ∧ ∀ (s : State) (tag part : Nat) (q : Query) (x : Index), queryOf s tag = some q → indexAt s q.index = some x →
    q.phase = .registered → q.exact = none → q.cutDone = false → (∀ c, q.cut = some c → s.time.base ≤ c) →
    (∀ core a, part ∈ q.unplaced → placeOn s (((partAt x part).map (·.mask)).getD 0) (walkWidth q) core = some a →
      ∃ t q', exec (.walkPlace tag part core) s = .next t ∧ queryOf t tag = some q'
        ∧ q'.walks = q.walks ++ [{ part := part, core := core, ctx := a, g := walkWidth q, descent := descentFree s core }]
        ∧ q'.unplaced = q.unplaced.erase part ∧ (∀ n, n ≠ tag → queryOf t n = queryOf s n) ∧ t = { s with queries := t.queries })
    ∧ (∀ w p, walkOf q part = some w → w.stage = .placed → w.issued = 0 → partAt x part = some p → 0 < q.params.hop →
      (w.descent = false → descentFree s w.core = false → exec (.walkDescent tag part) s = .next s)
      ∧ ((w.descent = true ∨ descentFree s w.core = true) → firstFret x p q.opers = none →
        ∃ t q' w', exec (.walkDescent tag part) s = .next t ∧ queryOf t tag = some q' ∧ walkOf q' part = some w'
          ∧ w'.stage = .ended ∧ (∀ n, n ≠ tag → queryOf t n = queryOf s n)
          ∧ t = { s with queries := t.queries, bridges := t.bridges })
      ∧ (∀ f, (w.descent = true ∨ descentFree s w.core = true) → firstFret x p q.opers = some f →
        ∃ t q' w', exec (.walkDescent tag part) s = .next t ∧ queryOf t tag = some q' ∧ walkOf q' part = some w'
          ∧ w'.stage = .walking ∧ w'.visited = visit w.g [] f.slot ∧ w'.frets.map (·.slot) = [f.slot]
          ∧ (∀ n, n ≠ tag → queryOf t n = queryOf s n)
          ∧ t = { s with queries := t.queries, bridges := t.bridges, ctr := t.ctr }))

/-- EXPAND_REQUEST (R67-R70): the bridge filter takes its oldest request and answers that walk, with the request's tag and
node, by the expansion of the record. EXPAND_RESPONSE: one that the walk sees after its cut time is dropped (R82); before,
it leaves the inbox and the walk goes on or ends. -/
def Claims.ExpansionAnswersTheWalk : Prop :=
  (∀ (s : State) (stack : Nat) (r : ExpandReq) (rest : List ExpandReq) (q : Query) (x : Index) (p : Part) (w : Walk),
    (bridge s stack).reqs = r :: rest → rest.length < 4095 → queryOf s r.tag = some q → indexAt s q.index = some x →
    partAt x r.part = some p → walkOf q r.part = some w → look p.poisoned r.slot = none → r.tag ∉ (bridge s stack).badTags →
    ∃ t q' w', exec (.expandRequest stack .good) s = .next t ∧ (bridge t stack).reqs = rest ∧ queryOf t r.tag = some q'
      ∧ walkOf q' r.part = some w'
      ∧ w' = { w with inbox := w.inbox ++ [{ (expand x p q.opers q.epoch q.filter r.slot r.bound false r.expTag).1 with
          qtab := r.qtab, context := r.context }] }
      ∧ (∀ m, m ≠ stack → bridge t m = bridge s m) ∧ (∀ n, n ≠ r.tag → queryOf t n = queryOf s n)
      ∧ t = { s with queries := t.queries, bridges := t.bridges, log := t.log })
  ∧ (∀ (s : State) (tag part pick lag : Nat) (q : Query) (w : Walk) (a : Response), queryOf s tag = some q →
    walkOf q part = some w → w.inbox[pick]? = some a →
    (∀ c, q.cut = some c → c < seenTime s lag →
      ∃ t q', exec (.expandResponse tag part pick lag) s = .next t ∧ queryOf t tag = some q'
        ∧ walkOf q' part = some { w with inbox := w.inbox.eraseIdx pick }
        ∧ counter t 0x24 = counter (if a.verMiss then bump s 0x24 1 else s) 0x24 ∧ t = { s with queries := t.queries, ctr := t.ctr })
    ∧ (∀ c p x, q.cut = some c → seenTime s lag < c → q.cutDone = false → w.stage = .walking → indexAt s q.index = some x →
      partAt x part = some p →
      ∃ t q' w', exec (.expandResponse tag part pick lag) s = .next t ∧ queryOf t tag = some q'
        ∧ walkOf q' part = some w' ∧ (w'.stage = .ended ∨ (w'.stage = .walking ∧ w'.inbox = w.inbox.eraseIdx pick))
        ∧ t = { s with queries := t.queries, bridges := t.bridges, ctr := t.ctr }))

/-- Walks are placed, descend to layer 0, and every expand request is answered to its walk. -/
def Obligations.WalksArePlacedDescendAndAreAnswered : Prop :=
  Claims.WalksArePlacedAndDescend ∧ Claims.ExpansionAnswersTheWalk

/-- STRUM_CLOSE (R139): STRUM_WINDOW after its first member the strum closes, and every stack of the index gets a sweep order
that names each member and its list limit. SWEEP_START (R140): the order at the head starts once each member is registered,
and records the chain tails. SWEEP_DONE (R141): the sweep ends and is counted. -/
def Obligations.StrumsAreSweptOnEveryStack : Prop :=
  ∀ (s : State) (i : Nat) (x : Index), indexAt s i = some x →
    (∀ u, s.strums = [u] → u.index = i → (∃ m, m ∈ u.members ∧ queryOf s m ≠ none) →
      u.opened + ctl s 0x50000C ≤ s.time.tick →
      ∃ t, exec (.strumClose i) s = .next t ∧ t.strums = []
        ∧ (∀ m, m ∈ indexStacks x → (bridge t m).orders = (bridge s m).orders ++
            [{ index := i, members := u.members.filterMap (fun g => (queryOf s g).map (fun q => (g, mergeLimit q))) }])
        ∧ (∀ m, m ∉ indexStacks x → bridge t m = bridge s m) ∧ t = { s with strums := [], bridges := t.bridges })
    ∧ (∀ stack o rest, (bridge s stack).sweep = none → (bridge s stack).orders = o :: rest → o.index = i →
      (∀ m q, m ∈ o.members → queryOf s m.1 = some q → q.phase ≠ .waiting ∧ q.phase ≠ .started) →
      ∃ t, exec (.sweepStart stack) s = .next t ∧ (bridge t stack).orders = rest
        ∧ (∃ w, (bridge t stack).sweep = some w ∧ w.order = o
            ∧ (∀ pn p, partAt x pn = some p → bit p.mask stack = true → (pn, (chainOf p stack).next) ∈ w.tails))
        ∧ (∀ m, m ≠ stack → bridge t m = bridge s m) ∧ t = { s with bridges := t.bridges })
    ∧ (∀ stack w, (bridge s stack).sweep = some w → w.order.index = i →
      ∃ t, exec (.sweepDone stack) s = .next t ∧ (bridge t stack).sweep = none
        ∧ (bridge t stack).orders = (bridge s stack).orders
        ∧ (∀ m, m ≠ stack → bridge t m = bridge s m) ∧ counter t 0x38 = (counter s 0x38 + 1) % 2 ^ 64
        ∧ (∀ n, (∀ m, m ∈ w.order.members → m.1 ≠ n) → queryOf t n = queryOf s n)
        ∧ t = { s with bridges := t.bridges, queries := t.queries, ctr := t.ctr })

/-- EXACT_SWEEP_DONE (R91): the context of a stack has read every record, its walk ends. The last-accept times of R128: a die
merge stage that has not forwarded forwards what it holds, with CUT, after T_c + 2,520 ns, and the hub merge stage after
T_c + 5,620 ns; up to that time, in whose cycle a list is still merged, nothing happens. A host search whose result is known
keeps what it holds until its completion entry is written. -/
def Claims.LastAcceptTimesForward : Prop :=
  (∀ (s : State) (tag stack pn : Nat) (q : Query) (w : Walk) (x : Index) (p : Part), queryOf s tag = some q →
    q.exact = some pn → walkOf q stack = some w → w.stage ≠ .ended → indexAt s q.index = some x → partAt x pn = some p →
    q.phase = .registered → q.cutDone = false → (∀ c, q.cut = some c → s.time.base ≤ c) →
    ∃ t q' w', exec (.exactSweepDone tag stack []) s = .next t ∧ queryOf t tag = some q' ∧ walkOf q' stack = some w'
      ∧ w'.stage = .ended ∧ (∀ n, n ≠ tag → queryOf t n = queryOf s n) ∧ t = { s with queries := t.queries, ctr := t.ctr })
  ∧ (∀ (s : State) (tag die lag c : Nat) (q : Query) (st : MergeStage), queryOf s tag = some q → q.cut = some c →
    q.cutDone = true → look q.dies die = some st → st.forwarded = .no →
    (c + 2520 < seenTime s lag →
      ∃ t q' st', exec (.dieLastAccept tag die lag) s = .next t ∧ queryOf t tag = some q' ∧ look q'.dies die = some st'
        ∧ st' = { st with forwarded := .lastAccept }
        ∧ q'.transit = q.transit ++ [{ dest := .hub, src := .die die, list := { st.acc with cut := true, sorted := true } }]
        ∧ (∀ n, n ≠ tag → queryOf t n = queryOf s n) ∧ t = { s with queries := t.queries })
    ∧ (seenTime s lag ≤ c + 2520 → exec (.dieLastAccept tag die lag) s = .next s))
  ∧ (∀ (s : State) (tag lag c core : Nat) (q : Query), queryOf s tag = some q → q.cut = some c → q.cutDone = true →
    q.home = some core → q.hub.forwarded = .no → q.phase ≠ .done →
    (c + 5620 < seenTime s lag → q.fabric = none →
      ∃ t, exec (.hubLastAccept tag lag) s = .next t
        ∧ (∀ slot seq, q.origin = .host slot seq → ∃ q', queryOf t tag = some q' ∧ q'.phase = .done)
        ∧ (∀ p g n o, q.origin = .child p g n o → queryOf t tag = none)
        ∧ (∀ slot seq o, q.origin = .host slot seq → outCmd s slot seq = some o → q.vectorFrom = true →
          ∃ k, Finished t slot seq k ∧ k.cause.cut = true ∧ k.status = .partialDeadline
            ∧ k.count = min q.hub.acc.entries.length q.params.k))
    ∧ (seenTime s lag ≤ c + 5620 → exec (.hubLastAccept tag lag) s = .next s))

/-- MERGE_LIST_ARRIVAL (R128, R129): a list with a good header that its stage still waits for is merged, and its contributor
counts as delivered; one that the stage sees after its last-accept time is discarded and counted in MERGE_LATE, with LATE
marked on the query; one with a bad header is counted in MERGE_BAD and marks POISON; a list of a query that is no more
counts in MERGE_BAD as case 4. -/
def Claims.ListsAreMergedOrDiscarded : Prop :=
  ∀ (s : State) (tag pick lag : Nat),
    (∀ (q : Query) (u : Transit) (d : Nat) (st : MergeStage) (c : Nat), queryOf s tag = some q → q.transit[pick]? = some u →
      u.dest = .die d → look q.dies d = some st → st.forwarded = .no → u.src ∉ st.delivered → q.cut = some c →
      (seenTime s lag ≤ c + 2520 → st.sealed = false →
        ∃ t q' st', exec (.mergeListArrival tag pick lag true) s = .next t ∧ queryOf t tag = some q'
          ∧ q'.transit = q.transit.eraseIdx pick ∧ look q'.dies d = some st' ∧ st'.delivered = u.src :: st.delivered
          ∧ st'.forwarded = .no ∧ (∀ n, n ≠ tag → queryOf t n = queryOf s n)
          ∧ t = { s with queries := t.queries, ctr := t.ctr })
      ∧ (c + 2520 < seenTime s lag →
        ∃ t q', exec (.mergeListArrival tag pick lag true) s = .next t ∧ queryOf t tag = some q'
          ∧ q' = { q with transit := q.transit.eraseIdx pick, cause := { q.cause with late := true } }
          ∧ t = bump { s with queries := t.queries } 0x2A 1)
      ∧ (∃ t q' st', exec (.mergeListArrival tag pick lag false) s = .next t ∧ queryOf t tag = some q'
          ∧ q'.transit = q.transit.eraseIdx pick ∧ look q'.dies d = some st'
          ∧ st' = { st with acc := { st.acc with poison := true } } ∧ t = { s with queries := t.queries, ctr := t.ctr, log := t.log }
          ∧ counter t 0x2B = min (counter s 0x2B + 1) 0xFFFFFFFF))
    ∧ (queryOf s tag = none → tag ∈ s.strays →
      ∃ t, exec (.mergeListArrival tag pick lag true) s = .next t ∧ t.strays = s.strays.erase tag
        ∧ counter t 0x2B = min (counter s 0x2B + 1) 0xFFFFFFFF ∧ t = { s with strays := t.strays, ctr := t.ctr, log := t.log })

/-- Merge stages take the lists that come in time, and forward at their last-accept time. -/
def Obligations.ListsAreMergedOrDiscardedInTime : Prop :=
  Claims.LastAcceptTimesForward ∧ Claims.ListsAreMergedOrDiscarded

/-- The ends of a search (R77, R78, R81, R107, R130). RERANK_DONE: the host command finishes with the identifiers of at most k of the
merged entries, in the order of their full-precision keys, then null identifiers; while requests for vectors are left to issue,
a response only retires those that are out.
SEARCH_CUT of a search that has not started, and SEARCH_DEADLINE of one without a cut reservation: the command finishes with
PARTIAL_DEADLINE and COUNT 0; SEARCH_CUT of a started one ends its walks. The query itself stays, done, until its completion
entry is written. -/
def Claims.SearchesEndWithTheirResult : Prop :=
  ∀ (s : State) (tag lag slot seq : Nat) (q : Query) (o : OutCmd), queryOf s tag = some q → q.origin = .host slot seq →
    outCmd s slot seq = some o → q.vectorFrom = true → q.fabric = none →
    (q.phase = .waiting → q.cut = none → q.deadline ≤ seenTime s lag →
      ∃ t q' k, exec (.searchDeadline tag lag) s = .next t ∧ queryOf t tag = some q' ∧ q'.phase = .done ∧ Finished t slot seq k
        ∧ k.status = .partialDeadline ∧ k.count = 0 ∧ k.epoch = q.epoch)
    ∧ (∀ c, q.phase = .waiting → q.cut = some c → c ≤ seenTime s lag → q.cutDone = false →
      ∃ t q' k, exec (.searchCut tag lag) s = .next t ∧ queryOf t tag = some q' ∧ q'.phase = .done ∧ Finished t slot seq k
        ∧ k.status = .partialDeadline ∧ k.count = 0 ∧ k.epoch = q.epoch)
    ∧ (∀ c, (q.phase = .started ∨ q.phase = .registered) → q.exact = none → q.cut = some c → c ≤ seenTime s lag →
      q.cutDone = false →
      ∃ t q', exec (.searchCut tag lag) s = .next t ∧ queryOf t tag = some q' ∧ q'.cutDone = true ∧ q'.unplaced = []
        ∧ (∀ w, w ∈ q.walks → ∃ w', walkOf q' w.part = some w' ∧ w'.stage = .ended)
        ∧ t = { s with queries := t.queries, bridges := t.bridges, ctr := t.ctr })
    ∧ (∀ x, q.phase = .reranking → q.cutDone = false → (∀ c, q.cut = some c → s.time.base ≤ c) → indexAt s q.index = some x →
      heldReqs s (.rerank tag) = false → homeUp s q = true →
      (partReqs s (.rerank tag) = true → exec (.rerankDone tag []) s = .next (retireReqs s (.rerank tag) false))
      ∧ (partReqs s (.rerank tag) = false →
      ∃ t q' k, exec (.rerankDone tag []) s = .next t ∧ queryOf t tag = some q' ∧ q'.phase = .done ∧ Finished t slot seq k
        ∧ k.count ≤ q.params.k ∧ k.count ≤ q.merged.entries.length ∧ k.epoch = q.epoch
        ∧ (∃ bs, k.writes = [(q.resultAddr, bs)] ∧ bs.length = 8 * q.params.k)
        ∧ (∃ es : List Entry, es.Pairwise (fun a b => a.key.toNat ≤ b.key.toNat) ∧ k.count = es.length
            ∧ k.writes = [(q.resultAddr, ((es.map (·.id) ++ List.replicate (q.params.k - es.length) nullId).map (leBytes 8)).flatten)]
            ∧ (∀ e, e ∈ es → ∃ m p, m ∈ q.merged.entries ∧ partAt x (auxPart m.aux) = some p ∧ e.id = m.id ∧ e.aux = m.aux
                ∧ e.key = keyOf (rerankDist s x.cfg (vecOf q.qfmt x.cfg.vecDims (q.qvec.getD []))
                    (storedVec x.cfg.rrFmt ((look p.rerank (auxSlot m.aux)).getD [])))))))

/-- FABRIC_LAST_ACCEPT (R345, R346): at T_c + 11.02 µs the fabric merge node gives up the children that have not delivered: the
search ends with what is held, and a child missing marks POISON. At that time itself a list may
still come, and before it nothing happens. -/
def Claims.MissingChildrenAreGivenUp : Prop :=
  ∀ (s : State) (tag lag : Nat) (q : Query) (st : MergeStage), queryOf s tag = some q → q.fabric = some st → q.cutDone = true →
    (seenTime s lag ≤ lastAccept q .fabric → exec (.fabricLastAccept tag lag) s = .next s)
    ∧ (∀ slot seq o, q.origin = .host slot seq → q.vectorFrom = true → q.phase ≠ .done → outCmd s slot seq = some o →
      lastAccept q .fabric < seenTime s lag →
      ∃ t k, exec (.fabricLastAccept tag lag) s = .next t ∧ (∃ q', queryOf t tag = some q' ∧ q'.phase = .done)
        ∧ Finished t slot seq k
        ∧ k.count = min st.acc.entries.length q.params.k ∧ k.epoch = q.epoch
        ∧ ((∃ m, .child m ∈ st.expected ∧ .child m ∉ st.delivered) → k.cause.poison = true)
        ∧ (.local_ ∉ st.delivered → k.cause.cut = true))

/-- A search ends by rerank, cut, deadline or its fabric node's last-accept time, with the result it holds. -/
def Obligations.SearchesEndWithTheirResult : Prop :=
  Claims.SearchesEndWithTheirResult ∧ Claims.MissingChildrenAreGivenUp

/-- R10: the null external identifier, and what an INSERT or UPSERT that names it completes with. -/
def Claims.NullIdentifierIsInvalid : Prop :=
  nullId = 0xFFFFFFFFFFFFFFFF
  ∧ ∀ (s : State) (slot seq : Nat) (o : OutCmd), wExtId o.word = nullId → seesIndex s slot (cIndex o.word) = true →
    (admitting s slot seq 0x10 = some o →
      ∃ t, exec (.insert slot seq) s = .next t ∧ Finished t slot seq { status := .invalid } ∧ SameButCmd s t slot seq)
    ∧ (admitting s slot seq 0x12 = some o →
      ∃ t, exec (.upsert slot seq) s = .next t ∧ Finished t slot seq { status := .invalid } ∧ SameButCmd s t slot seq)

/-- INSERT, DELETE and UPSERT at their admission (R134, R207): a write whose fields pass waits for its payload and its
acceptance; one that names no index of its tenant finishes with NO_INDEX, an INSERT or UPSERT of the wrong dimension with
INVALID. Nothing but the command changes. -/
def Claims.WritesAreCheckedAtAdmission : Prop :=
  ∀ (s : State) (slot seq op : Nat) (o : OutCmd) (c : Instr),
    (c, op) ∈ [(Instr.insert slot seq, 0x10), (Instr.delete slot seq, 0x11), (Instr.upsert slot seq, 0x12)] →
    admitting s slot seq op = some o → reservedOk o.word = true →
    (seesIndex s slot (cIndex o.word) = false →
      ∃ t, exec c s = .next t ∧ Finished t slot seq { status := .noIndex } ∧ SameButCmd s t slot seq)
    ∧ (∀ x, seesIndex s slot (cIndex o.word) = true → indexAt s (cIndex o.word) = some x → op ≠ 0x11 →
      wDims o.word ≠ x.cfg.vecDims →
      ∃ t, exec c s = .next t ∧ Finished t slot seq { status := .invalid } ∧ SameButCmd s t slot seq)
    ∧ (∀ x, seesIndex s slot (cIndex o.word) = true → indexAt s (cIndex o.word) = some x → wExtId o.word ≠ nullId →
      (op ≠ 0x11 → (x.cfg.partFn = 1 → cPartition o.word < x.parts.length) ∧ (x.cfg.partFn ≠ 1 → cPartition o.word = 0)
        ∧ wDims o.word = x.cfg.vecDims ∧ 1 ≤ wElemFmt o.word ∧ wElemFmt o.word ≤ 5 ∧ wPayload o.word % 64 = 0) →
      ∃ t, exec c s = .next t ∧ outCmd t slot seq = some { o with stage := .waiting } ∧ SameButCmd s t slot seq)

/-- INSERT, DELETE and UPSERT are checked at admission; the null identifier is INVALID. -/
def Obligations.WritesAreCheckedAtAdmission : Prop :=
  Claims.NullIdentifierIsInvalid ∧ Claims.WritesAreCheckedAtAdmission

/-- WRITE_ACCEPT (R53, R54, R134, R136, R212, R215): the next write of its channel, its payload read and its checks passed, with
a range-lock entry and ring room, goes behind the other entries of the index's journal ring as ACCEPTED under the open
batch's epoch, and into the range-lock table; without VISIBLE the command finishes with OK and EPOCH 0, with VISIBLE it goes
on running. ACCEPT_TIME is the time that the NCLK domain sees (R22). The other ring and the other channels keep what they hold. -/
def Obligations.AcceptedWritesAreJournaled : Prop :=
  ∀ (s : State) (slot seq off lag : Nat) (o : OutCmd) (x : Index) (bytes : List Byte), outCmd s slot seq = some o →
    o.stage = .waiting → (cOpcode o.word = 0x10 ∨ cOpcode o.word = 0x11 ∨ cOpcode o.word = 0x12) →
    (∀ b, b ∈ earlier (chan s slot) seq → isUnaccepted b = false) →
    (cOpcode o.word = 0x11 → bytes = []) → (cOpcode o.word ≠ 0x11 → bufOf o .payload = some (some bytes)) →
    seesIndex s slot (cIndex o.word) = true → indexAt s (cIndex o.word) = some x → acceptCheck s x o.word bytes = none →
    rlockFree s slot ≠ 0 → ringPlace s (ringOf s (cIndex o.word)) (64 + roundUp bytes.length 64) = some off →
    ∃ t e, exec (.writeAccept slot seq lag) s = .next t
      ∧ (ringOf t (cIndex o.word)).entries = (ringOf s (cIndex o.word)).entries ++ [e]
      ∧ ringOf t (cIndex o.word + 1) = ringOf s (cIndex o.word + 1)
      ∧ e.off = off ∧ e.state = 1 ∧ e.word = o.word ∧ e.payload = bytes ∧ e.epoch = (batchNow s x).epoch
      ∧ e.slot = slot ∧ e.gen = (chan s slot).gen ∧ e.seq = seq ∧ e.acceptTime = seenTime s lag
      ∧ t.rlocks = s.rlocks ++ [{ slot := slot, gen := (chan s slot).gen, seq := seq, ord := o.ord, index := cIndex o.word,
                                   id := wExtId o.word }]
      ∧ (cVisible o.word = false → Finished t slot seq { status := .ok })
      ∧ (cVisible o.word = true → outCmd t slot seq = some { o with stage := .running, accepted := true })
      ∧ (∀ n, n ≠ slot → chan t n = chan s n) ∧ (∀ j, j ≠ cIndex o.word → indexAt t j = indexAt s j)
      ∧ t = { s with chans := t.chans, ring0 := t.ring0, ring1 := t.ring1, indexes := t.indexes, rlocks := t.rlocks }

/-- WRITE_APPLY of a DELETE (R31, R76, R135): every present occupant of the identifier is marked deleted at the write's epoch,
with the ROUTE bit that the index's ROUTE_THROUGH has then; the journal entry becomes APPLIED; no other index changes. -/
def Claims.DeleteMarksEveryPresentOccupant : Prop :=
  ∀ (s : State) (i stack pick : Nat) (ok : Bool) (x : Index) (e : JEntry), indexAt s i = some x → x.dropping = none →
    (entriesOf s i).find? (fun e => e.state == 1) = some e → cOpcode e.word = 0x11 →
    ∃ t x', exec (.writeApply i stack pick ok) s = .next t ∧ indexAt t i = some x' ∧ x'.current = x.current
      ∧ (∀ pn sl, (pn, sl) ∈ presentSlots x (wExtId e.word) → ∃ p p', partAt x pn = some p ∧ partAt x' pn = some p'
          ∧ (recOf p' sl).delete = e.epoch ∧ isTomb (recOf p' sl) = true ∧ isRoute (recOf p' sl) = x.route
          ∧ (recOf p' sl).extId = (recOf p sl).extId ∧ (recOf p' sl).gen = (recOf p sl).gen)
      ∧ (∀ e', e' ∈ (ringOf t i).entries → sameWrite e e' = true → e'.state = 2)
      ∧ (∀ j, j ≠ i → indexAt t j = indexAt s j)
      ∧ t = { s with indexes := t.indexes, ring0 := t.ring0, ring1 := t.ring1, ctr := t.ctr }

/-- WRITE_APPLY of an INSERT or UPSERT (R135 steps 3 to 7, R31, R153, R163, R180): with a free slot on a stack of the partition that
has side-list room, the slot receives the new occupant: its identifier and tag, committed at the write's epoch, not deleted,
the next slot generation, in the side list, encoded under the newest code version of that epoch; the chain of the stack gains
its entry; the journal entry becomes APPLIED. Where no stack of the set can take an entry the write waits, counted and logged
once; that it waits as well where a stack with side-list room has no free slot is DEDUCED (log entry 100). An INSERT of an identifier
that is present fails with INVALID, and an INSERT or UPSERT whose payload is bad with PARTIAL_POISON. -/
def Claims.InsertFillsTheChosenSlot : Prop :=
  ∀ (s : State) (i stack pick : Nat) (x : Index) (e : JEntry) (p : Part), indexAt s i = some x → x.dropping = none →
    (entriesOf s i).find? (fun e => e.state == 1) = some e → (cOpcode e.word = 0x10 ∨ cOpcode e.word = 0x12) →
    partAt x (writePart x e.word) = some p →
    (∀ v, (cOpcode e.word = 0x10 → presentSlots x (wExtId e.word) = []) → insertVer x e.epoch = some v →
      canTake s x p = true → sideRoom s x.cfg.format p stack = true → slotFree p pick = true → stackOfSlot p pick = stack → stack ∈ stacksOf p →
      ∃ t x' p', exec (.writeApply i stack pick true) s = .next t ∧ indexAt t i = some x'
        ∧ partAt x' (writePart x e.word) = some p'
        ∧ recOf p' pick = { extId := wExtId e.word, filterTag := wFilterTag e.word, commit := e.epoch, state := 0x90,
                            gen := ((recOf p pick).gen + 1) % 256, delete := noEpoch, codeVer := v.num, nbrCount := 0,
                            code := (codeOf x.cfg v (project x.cfg x.proj (payloadVec e.word e.payload)).1).1 }
        ∧ (∀ sl, sl ≠ pick → (writePart x e.word, sl) ∉ presentSlots x (wExtId e.word) → recOf p' sl = recOf p sl)
        ∧ (chainOf p' stack).next = (chainOf p stack).next + 1
        ∧ (∀ e', e' ∈ (ringOf t i).entries → sameWrite e e' = true → e'.state = 2 ∧ e'.slotId = some (slotId (writePart x e.word) pick))
        ∧ t = { s with indexes := t.indexes, ring0 := t.ring0, ring1 := t.ring1, ctr := t.ctr, log := t.log })
    ∧ ((cOpcode e.word = 0x10 → presentSlots x (wExtId e.word) = []) → canTake s x p = false → x.waiting = false →
      ∃ t x', exec (.writeApply i stack pick true) s = .next t ∧ indexAt t i = some x' ∧ x'.waiting = true ∧ x'.parts = x.parts
        ∧ (∀ j, j ≠ i → indexAt t j = indexAt s j)
        ∧ t.log.next = s.log.next + 1 ∧ t = { s with indexes := t.indexes, ctr := t.ctr, log := t.log })
    ∧ (∀ o, cOpcode e.word = 0x10 → presentSlots x (wExtId e.word) ≠ [] → writeCmd s e = some o →
      ∃ t k, exec (.writeApply i stack pick true) s = .next t ∧ Finished t e.slot o.seq k ∧ k.status = .invalid
        ∧ t = { s with chans := t.chans, indexes := t.indexes, ring0 := t.ring0, ring1 := t.ring1, rlocks := t.rlocks,
                       ctr := t.ctr, log := t.log })
    ∧ (∀ o, (cOpcode e.word = 0x10 → presentSlots x (wExtId e.word) = []) → writeCmd s e = some o →
      ∃ t k, exec (.writeApply i stack pick false) s = .next t ∧ Finished t e.slot o.seq k ∧ k.status = .partialPoison
        ∧ k.cause.poison = true
        ∧ t = { s with chans := t.chans, indexes := t.indexes, ring0 := t.ring0, ring1 := t.ring1, rlocks := t.rlocks,
                       ctr := t.ctr, log := t.log })

/-- WRITE_APPLY marks every present occupant deleted, or fills the chosen free slot. -/
def Obligations.AppliedWritesChangeTheirRecords : Prop :=
  Claims.DeleteMarksEveryPresentOccupant ∧ Claims.InsertFillsTheChosenSlot

/-- BATCH_CLOSE (R136): COMMIT_INTERVAL after it opened, or with COMMIT_BATCH_MAX writes, the open batch closes behind the
closed ones; before that it stays open. -/
def Claims.BatchesCloseInTime : Prop :=
  ∀ (s : State) (i : Nat) (x : Index) (b : Batch), indexAt s i = some x → x.open_ = some b →
    ((b.opened + ctl s 0x680001 ≤ s.time.tick ∨ ctl s 0x680002 ≤ b.writes) →
      ∃ t x', exec (.batchClose i) s = .next t ∧ indexAt t i = some x' ∧ x'.open_ = none ∧ x'.closed = x.closed ++ [b]
        ∧ x'.parts = x.parts ∧ x'.current = x.current ∧ (∀ j, j ≠ i → indexAt t j = indexAt s j)
        ∧ t = { s with indexes := t.indexes })
    ∧ (s.time.tick < b.opened + ctl s 0x680001 → b.writes < ctl s 0x680002 → mergeNowWaits s i = false →
      x.luthier ≠ .quiet → x.dropping = none → exec (.batchClose i) s = .next s)

/-- EPOCH_PUBLISH (R137, R212): the oldest closed batch, its writes applied and 1 µs after the last publication, becomes
CURRENT_EPOCH, stamped with the module's time as the luthier sees it (R22, 0 to 80 ns behind); the VISIBLE writes of that epoch
finish with OK and carry it. A batch with a write not yet applied is not published. -/
def Claims.EpochsArePublishedInOrder : Prop :=
  ∀ (s : State) (i lag : Nat) (x : Index) (b : Batch) (rest : List Batch), indexAt s i = some x → x.closed = b :: rest →
    x.dropping = none →
    (b.writes ≤ b.applied → (∀ l, x.lastPub = some l → l + 1000 ≤ s.time.tick) → mergeNowWaits s i = false →
      ∃ t x', exec (.epochPublish i lag) s = .next t ∧ indexAt t i = some x' ∧ x'.current = b.epoch ∧ x'.closed = rest
        ∧ (b.epoch, seenTime s lag) ∈ x'.pubs
        ∧ x'.lastPub = some s.time.tick ∧ (∀ j, j ≠ i → indexAt t j = indexAt s j)
        ∧ (∀ e o, e ∈ entriesOf s i → e.epoch = b.epoch → e.state = 2 → cVisible e.word = true → writeCmd s e = some o →
            ∃ k, Finished t e.slot o.seq k ∧ k.status = .ok ∧ k.epoch = b.epoch)
        ∧ t = { s with chans := t.chans, indexes := t.indexes, ring0 := t.ring0, ring1 := t.ring1, rlocks := t.rlocks,
                       ctr := t.ctr })
    ∧ (b.applied < b.writes → exec (.epochPublish i lag) s = .next s)

/-- Batches close in time and are published in order; VISIBLE writes finish with their epoch. -/
def Obligations.EpochsArePublishedInOrder : Prop :=
  Claims.BatchesCloseInTime ∧ Claims.EpochsArePublishedInOrder

/-- FETCH and FETCH_ADMIT (R206, R215, R477): a FETCH that passes its checks and that no earlier write of its channel holds
reads the range at its admission epoch and finishes with one buffer entry for each identifier, COUNT telling how many were
found; one that is held waits and is counted, and runs when nothing holds it any more, unless its pin has ended meanwhile
(R152): then it finishes with INVALID. -/
def Claims.FetchReadsAtItsEpoch : Prop :=
  ∀ (s : State) (slot seq e : Nat) (o : OutCmd) (x : Index) (es : List (List Byte × Bool × Bool)),
    indexAt s (cIndex o.word) = some x → e = admitEpoch s x o.word →
    es = (List.range (fIdHi o.word - fIdLo o.word + 1)).map (fun k => fetchEntry x e (fIdLo o.word + k)) →
    (admitting s slot seq 0x03 = some o → fetchCheck s slot o.word = none →
      (fetchHeld s slot o = false →
        ∃ t k, exec (.fetch slot seq) s = .next t ∧ Finished t slot seq k ∧ k.epoch = e
          ∧ k.count = (es.filter (fun t => t.2.1)).length ∧ k.writes = placed (sResultAddr o.word) (es.map Prod.fst)
          ∧ k.status = (if es.any (fun t => t.2.2) then .partialPoison else .ok) ∧ SameButCmd s t slot seq)
      ∧ (fetchHeld s slot o = true →
        ∃ t, exec (.fetch slot seq) s = .next t ∧ outCmd t slot seq = some { o with stage := .waiting }
          ∧ (∀ n, n ≠ slot → chan t n = chan s n) ∧ t = { s with chans := t.chans, ctr := t.ctr }))
    ∧ (outCmd s slot seq = some o → cOpcode o.word = 0x03 → o.stage = .waiting →
      (fetchHeld s slot o = false → fetchCheck s slot o.word = none →
        ∃ t k, exec (.fetchAdmit slot seq) s = .next t ∧ Finished t slot seq k ∧ k.epoch = e
          ∧ k.count = (es.filter (fun t => t.2.1)).length ∧ k.writes = placed (sResultAddr o.word) (es.map Prod.fst)
          ∧ k.status = (if es.any (fun t => t.2.2) then .partialPoison else .ok) ∧ SameButCmd s t slot seq)
      ∧ (fetchHeld s slot o = false → fetchCheck s slot o.word = some .invalid →
        ∃ t, exec (.fetchAdmit slot seq) s = .next t ∧ Finished t slot seq { status := .invalid } ∧ SameButCmd s t slot seq)
      ∧ (fetchHeld s slot o = true → exec (.fetchAdmit slot seq) s = .next s))

/-- Snapshot pins (R152): SNAPSHOT_PIN takes a free slot below PINS_MAX, advances its generation, pins CURRENT_EPOCH and
returns the pin identifier; with PINS_MAX pins live the status is CAPACITY. SNAPSHOT_RELEASE ends a live pin; PIN_EXPIRE ends
one that has reached PIN_MAX_AGE, counts and logs it. -/
def Claims.PinsAreTakenReleasedAndExpire : Prop :=
  (∀ (s : State) (slot seq pick : Nat) (o : OutCmd) (x : Index), admitting s slot seq 0x41 = some o →
    reservedOk o.word = true → seesIndex s slot (cIndex o.word) = true → indexAt s (cIndex o.word) = some x →
    ((s.pinSlots.filter (fun p => p.2.live)).length < ctl s 0x68000B → pick < ctl s 0x68000B →
      (∀ p, look s.pinSlots pick = some p → p.live = false) →
      ∃ t p, exec (.snapshotPin slot seq pick) s = .next t ∧ look t.pinSlots pick = some p ∧ p.live = true
        ∧ p.index = cIndex o.word ∧ p.epoch = x.current ∧ p.since = s.time.tick
        ∧ (∀ q, look s.pinSlots pick = some q → p.gen = (q.gen + 1) % 4096)
        ∧ Finished t slot seq { status := .ok, result := p.gen * 2 ^ 20 + p.index * 2 ^ 12 + pick, epoch := x.current }
        ∧ (∀ n, n ≠ pick → look t.pinSlots n = look s.pinSlots n) ∧ t = { s with chans := t.chans, pinSlots := t.pinSlots })
    ∧ (ctl s 0x68000B ≤ (s.pinSlots.filter (fun p => p.2.live)).length →
      ∃ t, exec (.snapshotPin slot seq pick) s = .next t ∧ Finished t slot seq { status := .capacity } ∧ SameButCmd s t slot seq))
  ∧ (∀ (s : State) (slot seq id : Nat) (o : OutCmd) (p : PinSlot), admitting s slot seq 0x42 = some o →
    reservedOk o.word = true → id = fld o.word 191 160 →
    (pinOf s id (bits id 19 12) = some p →
      ∃ t, exec (.snapshotRelease slot seq) s = .next t ∧ look t.pinSlots (id % 4096) = some { p with live := false }
        ∧ Finished t slot seq { status := .ok } ∧ (∀ n, n ≠ id % 4096 → look t.pinSlots n = look s.pinSlots n)
        ∧ t = { s with chans := t.chans, pinSlots := t.pinSlots })
    ∧ (pinOf s id (bits id 19 12) = none →
      ∃ t, exec (.snapshotRelease slot seq) s = .next t ∧ Finished t slot seq { status := .invalid } ∧ SameButCmd s t slot seq))
  ∧ (∀ (s : State) (n : Nat) (p : PinSlot), look s.pinSlots n = some p → p.live = true → ctl s 0x68000A ≠ 0 →
    (p.since + ctl s 0x68000A * 1000000 ≤ s.time.tick →
      ∃ t, exec (.pinExpire n) s = .next t ∧ look t.pinSlots n = some { p with live := false }
        ∧ counter t 0x39 = min (counter s 0x39 + 1) 0xFFFFFFFF ∧ t.log.next = s.log.next + 1
        ∧ (∀ m, m ≠ n → look t.pinSlots m = look s.pinSlots m)
        ∧ t = { s with pinSlots := t.pinSlots, ctr := t.ctr, log := t.log })
    ∧ (s.time.tick < p.since + ctl s 0x68000A * 1000000 → exec (.pinExpire n) s = .next s))

/-- FETCH reads at its admission epoch; snapshot pins are taken, released and expire. -/
def Obligations.FetchesAndPinsUseTheirEpoch : Prop :=
  Claims.FetchReadsAtItsEpoch ∧ Claims.PinsAreTakenReleasedAndExpire

/-- CREATE_INDEX (R211): with its fields in range it waits for its partition table and its code set; with both read and every
check passed the lowest free index number holds the new index, at epoch 1, with one code version and no code change under
way, and the command finishes with OK and that number. -/
def Claims.CreateIndexMakesAnEmptyIndex : Prop :=
  (∀ (s : State) (slot seq : Nat) (o : OutCmd), admitting s slot seq 0x83 = some o → reservedOk o.word = true →
    (ciFieldsOk o.word = true →
      ∃ t, exec (.createIndex slot seq) s = .next t ∧ outCmd t slot seq = some { o with stage := .waiting, issued := s.time.tick }
        ∧ SameButCmd s t slot seq)
    ∧ (ciFieldsOk o.word = false →
      ∃ t, exec (.createIndex slot seq) s = .next t ∧ Finished t slot seq { status := .invalid } ∧ SameButCmd s t slot seq))
  ∧ (∀ (s : State) (slot seq i : Nat) (o : OutCmd) (table image : List Byte) (parts : List Part),
    outCmd s slot seq = some o → cOpcode o.word = 0x83 → o.stage = .waiting → o.bufs = [(.partTable, some table)] →
    paging s slot seq .codeset = none → ciPlace s (ciCfg o.word) table (ciParts o.word) = .ok parts → freeIndex s = some i →
    ciMetricOk s (ciCfg o.word) = true → codeSetOk (ciCfg o.word) true image = true →
    ∃ t x, exec (.bufferReadDone slot seq .codeset (some image)) s = .next t ∧ indexAt t i = some x
      ∧ x.cfg = ciCfg o.word ∧ x.parts = parts ∧ x.current = 1 ∧ x.open_ = none ∧ x.closed = [] ∧ x.vers.length = 1
      ∧ x.retune.state = .idle ∧ x.luthier = .run ∧ (∀ j, j ≠ i → indexAt t j = indexAt s j)
      ∧ Finished t slot seq { status := .ok, result := i } ∧ t = { s with chans := t.chans, indexes := t.indexes })

/-- DROP_INDEX and DROP_INDEX_FINISH (R155): the index stops taking work, its pins end, its batches are dropped, and the
command runs; when no search or fetch holds an epoch of it, the index is gone and the command finishes with OK; of the other
indexes only the luthier's state can follow (R154). -/
def Claims.DropIndexEndsItsWorkThenFreesIt : Prop :=
  (∀ (s : State) (slot seq : Nat) (o : OutCmd) (x : Index), admitting s slot seq 0x84 = some o → reservedOk o.word = true →
    seesIndex s slot (cIndex o.word) = true → indexAt s (cIndex o.word) = some x →
    ∃ t x', exec (.dropIndex slot seq) s = .next t ∧ indexAt t (cIndex o.word) = some x'
      ∧ x'.dropping = some (slot, seq) ∧ x'.luthier = .drop ∧ x'.open_ = none ∧ x'.closed = [] ∧ x'.parts.length = x.parts.length
      ∧ (∀ p, p ∈ t.pinSlots → p.2.index = cIndex o.word → p.2.live = false)
      ∧ (∀ j, j ≠ cIndex o.word → indexAt t j = indexAt s j)
      ∧ t = { s with chans := t.chans, indexes := t.indexes, pinSlots := t.pinSlots, ring0 := t.ring0, ring1 := t.ring1,
                     rlocks := t.rlocks, ctr := t.ctr, log := t.log })
  ∧ (∀ (s : State) (i slot seq : Nat) (x : Index) (o : OutCmd), indexAt s i = some x → x.dropping = some (slot, seq) →
    epochsHeld s i = [] → outCmd s slot seq = some o → cOpcode o.word = 0x84 → o.stage = .running →
    ∃ t, exec (.dropIndexFinish i) s = .next t ∧ indexAt t i = none ∧ Finished t slot seq { status := .ok }
      ∧ (∀ j y, j ≠ i → indexAt s j = some y → ∃ y', indexAt t j = some y' ∧ y' = { y with luthier := y'.luthier })
      ∧ t = { s with chans := t.chans, indexes := t.indexes, strums := t.strums, bridges := t.bridges, dict := t.dict, log := t.log })
  ∧ (∀ (s : State) (i : Nat) (x : Index), indexAt s i = some x → epochsHeld s i ≠ [] →
    exec (.dropIndexFinish i) s = .next s)

/-- CREATE_INDEX makes an empty index; DROP_INDEX ends its work and frees it. -/
def Obligations.IndexesAreMadeAndDropped : Prop :=
  Claims.CreateIndexMakesAnEmptyIndex ∧ Claims.DropIndexEndsItsWorkThenFreesIt

/-- MERGE_NOW (R146): it finishes with OK once every entry that was committed at its admission is merged and its mark
published; until then it runs with the chain positions it waits for. -/
def Claims.MergeNowWaitsForItsTargets : Prop :=
  ∀ (s : State) (slot seq : Nat) (o : OutCmd) (x : Index), (s.chans.map Prod.fst).Nodup → admitting s slot seq 0x88 = some o →
    reservedOk o.word = true → seesIndex s slot (cIndex o.word) = true → indexAt s (cIndex o.word) = some x →
    ((committedTails x).all (targetMerged x) = true →
      ∃ t, exec (.mergeNow slot seq) s = .next t ∧ Finished t slot seq { status := .ok } ∧ t = { s with chans := t.chans })
    ∧ ((committedTails x).all (targetMerged x) = false →
      ∃ t, exec (.mergeNow slot seq) s = .next t
        ∧ outCmd t slot seq = some { o with stage := .running, targets := committedTails x } ∧ t = { s with chans := t.chans })

/-- A merge batch (R143-R146): started, it covers the chain up to the position behind its last entry, and its walk, admitted at
CURRENT_EPOCH, holds contexts of the core; a batch whose core was fenced takes contexts of another. Done, the merge position
moves there, the mark joins the open batch and the walk is over. No other index changes. -/
def Claims.MergeBatchesMoveTheMergePosition : Prop :=
  ∀ (s : State) (i pn stack core a : Nat) (x : Index) (p : Part), indexAt s i = some x → partAt x pn = some p →
    (∀ e, luthierMay x = true → (chainOf p stack).batch = none → (chainOf p stack).walk = none →
      marksOf x pn stack (chainOf p stack) < 16 →
      (batchEntries x (chainOf p stack) (ctl s 0x680003)).getLast? = some e →
      placeLuthier s p.mask (luthierWidth x.cfg.format (ctl s 0x680004)) core = some a →
      ∃ t x' p', exec (.mergeBatchStart i pn stack core) s = .next t ∧ indexAt t i = some x' ∧ partAt x' pn = some p'
        ∧ (chainOf p' stack).batch = some (e.pos + 1) ∧ (chainOf p' stack).merged = (chainOf p stack).merged
        ∧ (chainOf p' stack).walk = some { epoch := x.current, core := some core, ctx := a,
                                           g := luthierWidth x.cfg.format (ctl s 0x680004) }
        ∧ x'.current = x.current ∧ (∀ j, j ≠ i → indexAt t j = indexAt s j) ∧ t = { s with indexes := t.indexes })
    ∧ (∀ w, (chainOf p stack).walk = some w → w.core = none → x.dropping = none →
      placeLuthier s p.mask (luthierWidth x.cfg.format (ctl s 0x680004)) core = some a →
      ∃ t x' p', exec (.mergeBatchStart i pn stack core) s = .next t ∧ indexAt t i = some x' ∧ partAt x' pn = some p'
        ∧ (chainOf p' stack).walk = some { epoch := w.epoch, core := some core, ctx := a,
                                           g := luthierWidth x.cfg.format (ctl s 0x680004) }
        ∧ (chainOf p' stack).batch = (chainOf p stack).batch ∧ t = { s with indexes := t.indexes })
    ∧ (∀ pos w, (chainOf p stack).batch = some pos → (chainOf p stack).walk = some w → w.core ≠ none → x.dropping = none →
      epochsLeft x = true →
      ∃ t x' p' b, exec (.mergeBatchDone i pn stack) s = .next t ∧ indexAt t i = some x' ∧ partAt x' pn = some p'
        ∧ (chainOf p' stack).batch = none ∧ (chainOf p' stack).walk = none ∧ (chainOf p' stack).merged = pos ∧ x'.open_ = some b ∧ .mark pn stack pos ∈ b.works
        ∧ b.epoch = (batchNow s x).epoch ∧ (∀ j, j ≠ i → indexAt t j = indexAt s j)
        ∧ t = { s with indexes := t.indexes, ctr := t.ctr })

/-- MERGE_NOW waits for its targets; merge batches move the merge position. -/
def Obligations.MergesMoveTheMergePosition : Prop :=
  Claims.MergeNowWaitsForItsTargets ∧ Claims.MergeBatchesMoveTheMergePosition

/-- A repair scan (R27, R148): due, it takes the repair set as it stands, each slot with its generation; done, every slot of the
set whose generation is still the same has the epoch of the open batch as its repair epoch, and the scan joins that batch,
whichever node the luthier would make the entry point. -/
def Claims.RepairScansSetTheRepairEpoch : Prop :=
  ∀ (s : State) (i pn : Nat) (x : Index) (p : Part), indexAt s i = some x → partAt x pn = some p →
    (luthierMay x = true → p.scan = none → scanDue s x p = true →
      exec (.repairScanStart i pn) s = .next (withPart s i pn (fun q => { q with scan := some { set := repairSet x p } })))
    ∧ (∀ sc, p.scan = some sc → sc.epoch = none → x.dropping = none → epochsLeft x = true →
      ∀ pick, ∃ t x' p' b, exec (.repairScanDone i pn pick) s = .next t ∧ indexAt t i = some x' ∧ partAt x' pn = some p'
        ∧ (∀ n, n ∈ sc.set → (recOf p n.1).gen = n.2 → look p'.repair n.1 = some ((batchNow s x).epoch, n.2))
        ∧ p'.scan = some { sc with epoch := some (batchNow s x).epoch } ∧ x'.open_ = some b ∧ .scan pn ∈ b.works
        ∧ (∀ j, j ≠ i → indexAt t j = indexAt s j) ∧ t = { s with indexes := t.indexes, ctr := t.ctr })

/-- LOW_WATER_UPDATE (R149): the value is an admission epoch in flight on the index, of a search, a fetch, a luthier walk or a pin,
or CURRENT_EPOCH, and none of these is lower. -/
def Claims.LowWaterIsTheLowestEpochInFlight : Prop :=
  ∀ (s : State) (i : Nat) (x : Index), indexAt s i = some x →
    ∃ t x', exec (.lowWaterUpdate i) s = .next t ∧ indexAt t i = some x' ∧ x' = { x with lowWater := x'.lowWater }
      ∧ (x'.lowWater = x.current ∨ x'.lowWater ∈ epochsHeld s i) ∧ x'.lowWater ≤ x.current
      ∧ (∀ e, e ∈ epochsHeld s i → x'.lowWater ≤ e)
      ∧ (∀ j, j ≠ i → indexAt t j = indexAt s j) ∧ t = { s with indexes := t.indexes }

/-- ENTRY_RELEASE (R150): with a mark at or below the low-water epoch, the entries before the last such mark leave the chain,
and those marks go. SLOT_RECLAIM (R151): a deleted occupant whose repair epoch the low-water epoch has reached, out of the
side list and of every mirror, leaves its slot: not live, no identifier; it is counted. With no epoch left neither acts (R137). -/
def Claims.ReleasedEntriesAndSlotsAreFreed : Prop :=
  ∀ (s : State) (i pn : Nat) (x : Index) (p : Part), indexAt s i = some x → partAt x pn = some p → x.dropping = none →
    (∀ stack m, luthierMay x = true → ((chainOf p stack).marks.filter (fun m => decide (m.2 ≤ x.lowWater))).getLast? = some m →
      ∃ t x' p', exec (.entryRelease i pn stack) s = .next t ∧ indexAt t i = some x' ∧ partAt x' pn = some p'
        ∧ (chainOf p' stack).entries = (chainOf p stack).entries.filter (fun e => !(decide (e.pos < m.1)))
        ∧ (chainOf p' stack).marks = (chainOf p stack).marks.filter (fun y => !(decide (y.2 ≤ x.lowWater)))
        ∧ (chainOf p' stack).next = (chainOf p stack).next ∧ (chainOf p' stack).merged = (chainOf p stack).merged
        ∧ t = { s with indexes := t.indexes, log := t.log })
    ∧ (∀ slot e gen, look p.repair slot = some (e, gen) → (recOf p slot).gen = gen → luthierMay x = true → isLive (recOf p slot) = true →
      deletedBy (recOf p slot) x.current = true → e ≤ x.current → e ≤ x.lowWater → isInSide (recOf p slot) = false →
      (∀ m, m ∈ p.mirror → m.slot ≠ slot) →
      ∃ t x' p', exec (.slotReclaim i pn slot) s = .next t ∧ indexAt t i = some x' ∧ partAt x' pn = some p'
        ∧ isLive (recOf p' slot) = false ∧ (recOf p' slot).extId = nullId ∧ (recOf p' slot).commit = noEpoch
        ∧ (recOf p' slot).gen = (recOf p slot).gen ∧ look p'.repair slot = none
        ∧ (∀ n, n ≠ slot → recOf p' n = recOf p n) ∧ counter t 0x36 = (counter s 0x36 + 1) % 2 ^ 64
        ∧ (∀ j, j ≠ i → indexAt t j = indexAt s j) ∧ t = { s with indexes := t.indexes, ctr := t.ctr })
    ∧ (∀ stack slot, epochsLeft x = false →
      exec (.entryRelease i pn stack) s = .next s ∧ exec (.slotReclaim i pn slot) s = .next s)

/-- RECORD_REBUILD (R395): an unreadable record whose header and rerank vector were read keeps its identifier, epochs and generation
and is no longer unreadable. One that the graph does not hold yet is written anew under its code version; the writes of one
that the graph holds join the open batch, and it waits while no die of its set has room for its luthier walk (R50). -/
def Claims.RebuiltRecordsAreReadableAgain : Prop :=
  ∀ (s : State) (i pn slot : Nat) (x : Index) (p : Part) (v : CodeVer), indexAt s i = some x → partAt x pn = some p →
    look p.poisoned slot = some true → x.cfg.rrFmt ≠ 0 → slot ∉ p.rerankBad → isLive (recOf p slot) = true →
    luthierMay x = true → verOf x (recOf p slot).codeVer = some v →
    (isMerged p slot = true → roomForLuthier s p.mask (luthierWidth x.cfg.format (ctl s 0x680004)) = false →
      exec (.recordRebuild i pn slot) s = .next s)
    ∧ ((isMerged p slot = true → roomForLuthier s p.mask (luthierWidth x.cfg.format (ctl s 0x680004)) = true) →
    ∃ t x' p', exec (.recordRebuild i pn slot) s = .next t ∧ indexAt t i = some x' ∧ partAt x' pn = some p'
      ∧ look p'.poisoned slot = none ∧ (∀ j, j ≠ i → indexAt t j = indexAt s j)
      ∧ (recOf p' slot).extId = (recOf p slot).extId ∧ (recOf p' slot).gen = (recOf p slot).gen
      ∧ (recOf p' slot).commit = (recOf p slot).commit ∧ (recOf p' slot).delete = (recOf p slot).delete
      ∧ t = { s with indexes := t.indexes, ctr := t.ctr }
      ∧ (isMerged p slot = true → ∃ b, x'.open_ = some b ∧ .rebuild pn slot ∈ b.works)
      ∧ (isMerged p slot = false → x'.open_ = x.open_ ∧ (∀ n, n ≠ slot → recOf p' n = recOf p n)
        ∧ recOf p' slot = { recOf p slot with
            code := (codeOf x.cfg v (srcOf x p slot)).1, codeVer := v.num, nbrCount := 0, nbr := [], sketch := [] }))

/-- Repair scans, the low-water epoch (model: log entry 17), release, reclamation and rebuild. -/
def Obligations.RepairAndReclaimFollowTheLowWaterEpoch : Prop :=
  Claims.RepairScansSetTheRepairEpoch ∧ Claims.LowWaterIsTheLowestEpochInFlight ∧ Claims.ReleasedEntriesAndSlotsAreFreed ∧ Claims.RebuiltRecordsAreReadableAgain

/-- The start of a retune (R181, R183): a sampled one goes to SAMPLE at once and its command runs; a supplied one waits for its
image; with a retune under way or two versions live the status is INVALID. -/
def Claims.RetuneStartsFromIdle : Prop :=
  ∀ (s : State) (slot seq : Nat) (o : OutCmd) (x : Index), admitting s slot seq 0x89 = some o → reservedOk o.word = true →
    seesIndex s slot (cIndex o.word) = true → indexAt s (cIndex o.word) = some x → rsMode o.word ≤ 1 →
    (retuneFree x = true → rsMode o.word = 0 → retuneFits s x true = true →
      ∃ t x', exec (.retuneStart slot seq) s = .next t ∧ indexAt t (cIndex o.word) = some x' ∧ x'.retune.state = .sample
        ∧ x'.retune.start = some (slot, seq) ∧ x'.retune.since = s.time.tick ∧ x'.vers = x.vers ∧ x'.parts = x.parts
        ∧ outCmd t slot seq = some { o with stage := .running } ∧ (∀ j, j ≠ cIndex o.word → indexAt t j = indexAt s j)
        ∧ t = { s with chans := t.chans, indexes := t.indexes })
    ∧ (retuneFree x = true → rsMode o.word = 0 → retuneFits s x true = false →
      ∃ t, exec (.retuneStart slot seq) s = .next t ∧ Finished t slot seq { status := .capacity } ∧ SameButCmd s t slot seq)
    ∧ (retuneFree x = true → rsMode o.word = 1 →
      ∃ t, exec (.retuneStart slot seq) s = .next t ∧ outCmd t slot seq = some { o with stage := .waiting, issued := s.time.tick }
        ∧ SameButCmd s t slot seq)
    ∧ (retuneFree x = false →
      ∃ t, exec (.retuneStart slot seq) s = .next t ∧ Finished t slot seq { status := .invalid } ∧ SameButCmd s t slot seq)

/-- RETUNE_COMMIT (R182, R183): in IDLE INVALID; in SWITCHED OK at once; in READY the switch joins the open batch and the command
waits for it; before READY it waits; a DISCARD in SAMPLE or FIT ends the retune, and OK. -/
def Claims.RetuneCommitByState : Prop :=
  ∀ (s : State) (slot seq : Nat) (o : OutCmd) (x : Index), admitting s slot seq 0x8A = some o → reservedOk o.word = true →
    seesIndex s slot (cIndex o.word) = true → indexAt s (cIndex o.word) = some x →
    (x.retune.state = .idle →
      ∃ t, exec (.retuneCommit slot seq) s = .next t ∧ Finished t slot seq { status := .invalid } ∧ SameButCmd s t slot seq)
    ∧ (cDiscard o.word = false → x.retune.state = .switched →
      ∃ t, exec (.retuneCommit slot seq) s = .next t ∧ Finished t slot seq { status := .ok } ∧ SameButCmd s t slot seq)
    ∧ (cDiscard o.word = false → x.retune.state = .ready → x.retune.switching = false → epochsLeft x = true →
      ∃ t x' b, exec (.retuneCommit slot seq) s = .next t ∧ indexAt t (cIndex o.word) = some x' ∧ x'.retune.switching = true
        ∧ x'.open_ = some b ∧ .switch ∈ b.works ∧ x'.retune.waiters = x.retune.waiters ++ [(slot, seq)]
        ∧ outCmd t slot seq = some { o with stage := .running } ∧ t = { s with chans := t.chans, indexes := t.indexes })
    ∧ (cDiscard o.word = false → (x.retune.state = .armed ∨ x.retune.state = .pass1 ∨ x.retune.state = .pass2) →
      ∃ t x', exec (.retuneCommit slot seq) s = .next t ∧ indexAt t (cIndex o.word) = some x'
        ∧ x'.retune = { x.retune with waiters := x.retune.waiters ++ [(slot, seq)] }
        ∧ outCmd t slot seq = some { o with stage := .running } ∧ t = { s with chans := t.chans, indexes := t.indexes })
    ∧ (cDiscard o.word = true → (x.retune.state = .sample ∨ x.retune.state = .fit) → x.retune.start = none →
      x.retune.waiters = [] →
      ∃ t x', exec (.retuneCommit slot seq) s = .next t ∧ indexAt t (cIndex o.word) = some x' ∧ x'.retune.state = .idle
        ∧ x'.retune.samples = [] ∧ Finished t slot seq { status := .ok } ∧ t = { s with chans := t.chans, indexes := t.indexes })

/-- The retune's own steps (R183-R188): after the RETUNE_SAMPLE_TIME of its start sampling goes over to the fit; the fit of a supplied version
puts the version change into the open batch; ARMED goes to pass 1 when the low-water epoch reaches the shadow epoch; a pass
that has had its time goes to the next state; SWITCHED ends in IDLE with the older version gone when the low-water epoch
reaches the switch epoch. With no epoch left no retune is armed and no pass ends (R137). -/
def Claims.RetuneAdvancesStateByState : Prop :=
  ∀ (s : State) (i : Nat) (x : Index), indexAt s i = some x → x.luthier ≠ .quiet →
    (x.retune.state = .sample → x.retune.since + x.retune.par.time * 1000000 ≤ s.time.tick → occupants x ≠ [] →
      ∃ t x', exec (.retuneSampleTimeout i) s = .next t ∧ indexAt t i = some x' ∧ x'.retune.state = .fit
        ∧ x'.vers = x.vers ∧ x'.parts = x.parts ∧ t = { s with indexes := t.indexes })
    ∧ (x.retune.state = .sample → s.time.tick < x.retune.since + x.retune.par.time * 1000000 →
      exec (.retuneSampleTimeout i) s = .next s)
    ∧ (∀ v, x.retune.state = .fit → versionJoined x = false → epochsLeft x = true → x.retune.supplied = true →
      x.retune.shadow = some v →
      ∃ t x' b, exec (.retuneFitDone i) s = .next t ∧ indexAt t i = some x' ∧ x'.retune.shadow = some v ∧ x'.open_ = some b
        ∧ .version ∈ b.works ∧ x'.vers = x.vers ∧ x'.parts = x.parts ∧ t = { s with indexes := t.indexes })
    ∧ (x.retune.state = .armed → epochsLeft x = true → x.retune.shadowEpoch ≤ x.lowWater →
      ∃ t x', exec (.retuneArm i) s = .next t ∧ indexAt t i = some x' ∧ x'.retune.state = .pass1
        ∧ x'.retune.since = s.time.tick ∧ x'.vers = x.vers ∧ x'.parts = x.parts ∧ t = { s with indexes := t.indexes })
    ∧ (x.retune.state = .armed → x.lowWater < x.retune.shadowEpoch → exec (.retuneArm i) s = .next s)
    ∧ (∀ b, x.retune.state = .pass1 → epochsLeft x = true → x.retune.shadow = some b → passElapsed s x = true →
      ∃ t x', exec (.retunePassDone i) s = .next t ∧ indexAt t i = some x' ∧ x'.retune.state = .pass2
        ∧ x'.parts = x.parts ∧ t = { s with indexes := t.indexes })
    ∧ (∀ b, x.retune.state = .pass2 → epochsLeft x = true → x.retune.shadow = some b → passElapsed s x = true →
      ∃ t x', exec (.retunePassDone i) s = .next t ∧ indexAt t i = some x' ∧ x'.retune.state = .ready
        ∧ x'.parts.length = x.parts.length ∧ t = { s with indexes := t.indexes })
    ∧ (epochsLeft x = false → exec (.retuneArm i) s = .next s ∧ exec (.retunePassDone i) s = .next s)
    ∧ (x.retune.state = .switched → x.retune.switchEpoch ≤ x.lowWater →
      ∃ t x', exec (.retuneRetire i) s = .next t ∧ indexAt t i = some x' ∧ x'.vers = x.vers.drop 1 ∧ x'.retune.state = .idle
        ∧ x'.parts = x.parts ∧ t = { s with indexes := t.indexes, bridges := t.bridges })
    ∧ (x.retune.state = .switched → x.lowWater < x.retune.switchEpoch → exec (.retuneRetire i) s = .next s)

/-- RETUNE_START, RETUNE_COMMIT and the retune's own steps follow the state table. -/
def Obligations.RetuneRunsStateByState : Prop :=
  Claims.RetuneStartsFromIdle ∧ Claims.RetuneCommitByState ∧ Claims.RetuneAdvancesStateByState

/-- LOAD_TABLATURE, RUN, TUNE_STEP, ENCODE and ENCODE_SEARCH at admission (R208, R265, R268, R269): a load waits for its image,
and once the image passes the lowest free TAB_ID holds it; a dense command that passes its checks runs and joins the
module-wide queue, behind those that wait; one that fails them finishes with INVALID; an ENCODE_SEARCH whose template passes
also enters its search, whose vector is to come from the encoder. -/
def Claims.DenseCommandsJoinTheQueue : Prop :=
  (∀ (s : State) (slot seq op : Nat) (o : OutCmd) (c : Instr),
    (c, op) ∈ [(Instr.run slot seq, 0x30), (Instr.tuneStep slot seq, 0x31), (Instr.encode slot seq, 0x20)] →
    admitting s slot seq op = some o →
    (denseCheck s o.word = true →
      ∃ t, exec c s = .next t ∧ outCmd t slot seq = some { o with stage := .running }
        ∧ t.dense = { s.dense with waiting := s.dense.waiting ++ [(slot, seq)] } ∧ (∀ n, n ≠ slot → chan t n = chan s n)
        ∧ t = { s with chans := t.chans, dense := t.dense })
    ∧ (denseCheck s o.word = false →
      ∃ t, exec c s = .next t ∧ Finished t slot seq { status := .invalid } ∧ SameButCmd s t slot seq))
  ∧ (∀ (s : State) (slot seq lag : Nat) (o : OutCmd) (bs : List Byte), admitting s slot seq 0x21 = some o →
    denseCheck s o.word = true → bufOf o .template = some (some bs) →
    (∀ st, templateCheck s slot o.word (templateWord o.word bs) (seenTime s lag) = some st →
      ∃ t, exec (.encodeSearch slot seq lag) s = .next t ∧ Finished t slot seq { status := st } ∧ SameButCmd s t slot seq)
    ∧ (templateCheck s slot o.word (templateWord o.word bs) (seenTime s lag) = none →
      queryOf s (hostTag slot seq) = none →
      ∃ t q, exec (.encodeSearch slot seq lag) s = .next t ∧ t.queries = s.queries ++ [q] ∧ q.tag = hostTag slot seq
        ∧ q.origin = .host slot seq ∧ q.vectorFrom = false ∧ q.admitted = seenTime s lag ∧ q.phase = .waiting
        ∧ q.qfmt = (tabNo s (dTab o.word)).outFmt
        ∧ t.dense = { s.dense with waiting := s.dense.waiting ++ [(slot, seq)] }
        ∧ (∀ n, n ≠ slot → chan t n = chan s n)
        ∧ t = { s with chans := t.chans, queries := t.queries, strums := t.strums, bridges := t.bridges, ctr := t.ctr,
                       dense := t.dense }))
  ∧ (∀ (s : State) (slot seq : Nat) (o : OutCmd), admitting s slot seq 0x85 = some o → reservedOk o.word = true →
    256 ≤ aImageBytes o.word → aImageBytes o.word ≤ 2 ^ 32 - 64 →
    ∃ t, exec (.loadTablature slot seq) s = .next t ∧ outCmd t slot seq = some { o with stage := .waiting, issued := s.time.tick }
      ∧ SameButCmd s t slot seq)
  ∧ (∀ (s : State) (slot seq n : Nat) (o : OutCmd) (img : List Byte), outCmd s slot seq = some o → cOpcode o.word = 0x85 →
    o.stage = .waiting → o.bufs = [] → paging s slot seq .image = none → img.length = aImageBytes o.word →
    imageOk s img (aImageBytes o.word) = true → freeTab s = some n → tabFits s (loadedTab img) = true →
    ∃ t, exec (.bufferReadDone slot seq .image (some img)) s = .next t ∧ look t.dense.tabs n = some (loadedTab img)
      ∧ (∀ m, m ≠ n → look t.dense.tabs m = look s.dense.tabs m) ∧ Finished t slot seq { status := .ok, result := n }
      ∧ t = { s with chans := t.chans, dense := { s.dense with tabs := t.dense.tabs } })

/-- DENSE_START (R269, R312): the first waiting command whose dies are idle leaves the queue and runs on every die of its
tablature from line 0, its loop counters at 0, which is the model's choice (log entry 67); where a core of it is outside the tablature
set the command finishes with INVALID, where one is out of service with FENCED. -/
def Claims.DenseStartTakesItsDies : Prop :=
  ∀ (s : State) (slot seq : Nat) (args inDir outDir : Option (List Byte)) (o : OutCmd), outCmd s slot seq = some o →
    (slot, seq) ∈ s.dense.waiting → s.dense.waiting.head? = some (slot, seq) → startPaging s slot seq = false →
    runOf s slot seq = none →
    (∀ d, d ∈ (tabNo s (dTab o.word)).dies → runOfDie s d.1 = none) →
    ((∀ d, d ∈ (tabNo s (dTab o.word)).dies → maskInSet s d.1 d.2.coreMask = true ∧ maskServed s d.1 d.2.coreMask = true
        ∧ reserveSum (tabNo s (dTab o.word)) d.1 ≤ streamPool s * 1048576) →
      (∃ a, readWords (dArg o.word) ((bufOf o .args).getD args) = some a) →
      (∃ a, readWords (dInList o.word) ((bufOf o .inDir).getD inDir) = some a) →
      (∃ a, readWords (dOutList o.word) ((bufOf o .outDir).getD outDir) = some a) →
      ∃ t r, exec (.denseStart slot seq args inDir outDir) s = .next t ∧ runOf t slot seq = some r
        ∧ r.tab = dTab o.word ∧ r.word = o.word ∧ r.ending = none ∧ r.seqNo = 0
        ∧ r.dies.map Prod.fst = (tabNo s (dTab o.word)).dies.map Prod.fst
        ∧ (∀ d, d ∈ r.dies → d.2.line = 0 ∧ d.2.macros = [] ∧ d.2.wait = .none ∧ d.2.cnt = [0, 0, 0, 0])
        ∧ t.dense.waiting = s.dense.waiting.erase (slot, seq) ∧ t = { s with dense := t.dense, ctr := t.ctr })
    ∧ ((∃ d, d ∈ (tabNo s (dTab o.word)).dies ∧ maskInSet s d.1 d.2.coreMask = false) →
      ∃ t, exec (.denseStart slot seq args inDir outDir) s = .next t ∧ Finished t slot seq { status := .invalid }
        ∧ runOf t slot seq = none ∧ t.dense.waiting = s.dense.waiting.erase (slot, seq))
    ∧ ((∀ d, d ∈ (tabNo s (dTab o.word)).dies → maskInSet s d.1 d.2.coreMask = true) →
      (∃ d, d ∈ (tabNo s (dTab o.word)).dies ∧ maskServed s d.1 d.2.coreMask = false) →
      ∃ t k, exec (.denseStart slot seq args inDir outDir) s = .next t ∧ Finished t slot seq k ∧ k.status = .fenced
        ∧ k.cause.fenced = true ∧ t.dense.waiting = s.dense.waiting.erase (slot, seq))

/-- Dense commands are checked, queued and started on their dies; a tablature load takes a number. -/
def Obligations.DenseCommandsQueueAndStart : Prop :=
  Claims.DenseCommandsJoinTheQueue ∧ Claims.DenseStartTakesItsDies

/-- LINE_ISSUE (R236, R239, R294): a line whose HOLD has elapsed, whose wait is over, whose slots find their units and queues free
and whose stash slots find their tags issues: it is counted, it is the line issued last, and the control field chooses the
next one: the next line, the target of a JUMP, or none after a HALT. A line that does not fit or waits for a tag waits. -/
def Claims.LinesIssueInControlOrder : Prop :=
  ∀ (s : State) (die l : Nat) (r : Run), runOfDie s die = some r → r.ending = none →
    ((look (tabNo s r.tab).dies die).getD {}).lines[(dieSeq s die).line]? = some l →
    (holdElapsed s die (dieSeq s die) = true → waitOver s die (dieSeq s die) = true → lineFits (dieSeq s die) l = true →
      waitsForTag s r die = false →
      ∃ t, exec (.lineIssue die) s = .next t ∧ (dieSeq t die).last = (dieSeq s die).line ∧ (dieSeq t die).any = true
        ∧ (dieSeq t die).issued = dieClock s die ∧ (dieSeq t die).hold = ctHold (lnControl l)
        ∧ (ctOp (lnControl l) = 0 → (dieSeq t die).line = (dieSeq s die).line + 1 ∧ (dieSeq t die).wait = .none)
        ∧ (ctOp (lnControl l) = 1 → (dieSeq t die).line = ctTarget (lnControl l) ∧ (dieSeq t die).wait = .none)
        ∧ (ctOp (lnControl l) = 4 → (dieSeq t die).wait = .barrier (ctImm (lnControl l) % 16))
        ∧ (ctOp (lnControl l) = 6 → (dieSeq t die).wait = .halted)
        ∧ counter t 0x50 = (counter s 0x50 + 1) % 2 ^ 64 ∧ t = { s with dense := t.dense, ctr := t.ctr, log := t.log }
        ∧ ((∀ k, k < 4 → stOp (lnStream l k) = 0) → t.log = s.log))
    ∧ (lineFits (dieSeq s die) l = false ∨ waitsForTag s r die = true → exec (.lineIssue die) s = .next s)

/-- MACRO_START and MACRO_COMPLETE (R235, R252, R254, R262): a macro that the scoreboards let start is started now; a product, an
epilogue, a transfer or a selection into core store that has started, whose advancing cycles of its die have passed and whose
work can be done, leaves its unit free, and so does a row-engine macro; a product that is invalid ends the run with INVALID.
Before its cycles have passed a product, an epilogue or a selection stays. -/
def Claims.MacrosStartAndComplete : Prop :=
  (∀ (s : State) (die core : Nat) (u : ExecUnit) (m : Macro), macroOn (dieSeq s die) (macroCore core u) u = some m →
    m.started = none →
    mayStart ((dieSeq s die).macros.takeWhile (fun e => !(e.core == macroCore core u && e.unit == u))) (dieSeq s die).macros m = true →
    ∃ t m', exec (.macroStart die core u) s = .next t ∧ macroOn (dieSeq t die) (macroCore core u) u = some m'
      ∧ m'.started = some (dieClock s die) ∧ m'.op = m.op ∧ m'.desc = m.desc ∧ t = { s with dense := t.dense, ctr := t.ctr })
  ∧ (∀ (s : State) (die core since : Nat) (u : ExecUnit) (m : Macro) (r : Run), runOfDie s die = some r →
    macroOn (dieSeq s die) (macroCore core u) u = some m → m.started = some since →
    (macroCycles s die m ≤ dieCycles s die since →
      ((u = .f ∨ u = .g) → productDone s r die m ≠ none →
        ∃ t, exec (.macroComplete die core u) s = .next t ∧ macroOn (dieSeq t die) (macroCore core u) u = none)
      ∧ (u = .e → epilogueDone s r die m ≠ none →
        ∃ t, exec (.macroComplete die core u) s = .next t ∧ macroOn (dieSeq t die) (macroCore core u) u = none)
      ∧ (u = .t → tBytes m.desc ≤ m.got →
        ∃ t, exec (.macroComplete die core u) s = .next t ∧ macroOn (dieSeq t die) (macroCore core u) u = none)
      ∧ (u = .s → m.got = 0 → rDest m.desc = 0 →
        ∃ t, exec (.macroComplete die core u) s = .next t ∧ macroOn (dieSeq t die) (macroCore core u) u = none)
      ∧ ((u = .f ∨ u = .g) → productDone s r die m = none → r.ending = none → runOf s r.slot r.seq = some r →
        ∃ t r', exec (.macroComplete die core u) s = .next t ∧ runOf t r.slot r.seq = some r' ∧ r'.ending = some .invalid))
    ∧ (u = .rowEngine → (m.op ∈ [1, 2, 3, 6] ∨ (m.op ∈ [4, 5] ∧ 8 * reRows m.slot ≤ m.got)) →
        ∃ t, exec (.macroComplete die core u) s = .next t ∧ macroOn (dieSeq t die) (macroCore core u) u = none)
    ∧ (dieCycles s die since < macroCycles s die m → (u = .f ∨ u = .g ∨ u = .e ∨ u = .s) →
      exec (.macroComplete die core u) s = .next s))

/-- BARRIER_RELEASE (R240): with every die of the run at one barrier number that closes no span, all of them go on; with
different numbers the run ends with INVALID. RUN_COMPLETE (R204, R208, R240, R269, R271): every die halted and drained, no
transfer in flight and no row outstanding, the last sequence ends the run: its dies are free and the command finishes with the
run's status, an ENCODE with its vectors written as RESULT, or the encoder's vector goes to the search of an ENCODE_SEARCH;
an earlier sequence gives way to the next, which keeps the loop counters. -/
def Claims.BarriersAndEndsOfRuns : Prop :=
  ∀ (s : State) (slot seq : Nat) (r : Run), runOf s slot seq = some r → r.ending = none →
    (∀ n, r.dies ≠ [] → (∀ d, d ∈ r.dies → arrivedAt s (tabNo s r.tab) d.1 d.2 = some n ∧ hasHalted s d.1 d.2 = false) →
      closingPass (tabNo s r.tab) r = none →
      ∃ t r', exec (.barrierRelease slot seq) s = .next t ∧ runOf t slot seq = some r' ∧ r' = { r with dies := r'.dies }
        ∧ r'.dies.map (fun d => (d.1, { d.2 with ready := none })) = r.dies.map (fun d =>
            (d.1, { d.2 with wait := .none, progress := s.time.tick, advanced := dieClock s d.1, stashFrom := dieClock s d.1,
                             ready := none }))
        ∧ t = { s with dense := { s.dense with runs := t.dense.runs } })
    ∧ (∀ d e n m, d ∈ r.dies → e ∈ r.dies → arrivedAt s (tabNo s r.tab) d.1 d.2 = some n →
      arrivedAt s (tabNo s r.tab) e.1 e.2 = some m → n ≠ m →
      ∃ t r', exec (.barrierRelease slot seq) s = .next t ∧ runOf t slot seq = some r' ∧ r'.ending = some .invalid)
    ∧ (∀ o, (∀ d, d ∈ r.dies → hasHalted s d.1 d.2 = true ∧ drained s d.1 = true) → runInFlight s r = false → r.rows = [] →
      r.seqs ≤ r.seqNo + 1 → outCmd s slot seq = some o →
      ((cOpcode r.word ≠ 0x21 ∨ runStatus r = .pageFault) →
        ∃ t k, exec (.runComplete slot seq) s = .next t ∧ runOf t slot seq = none ∧ Finished t slot seq k
          ∧ k.status = runStatus r ∧ k.cause.poison = r.poison
          ∧ k.result = (if cOpcode r.word = 0x20 then r.vectors + (if r.lost then 0 else 1) else 0))
      ∧ (cOpcode r.word = 0x21 → runStatus r ≠ .pageFault →
        ∃ t, exec (.runComplete slot seq) s = .next t ∧ runOf t slot seq = none
          ∧ (∀ q, queryOf s (hostTag slot seq) = some q → q.origin = .host slot seq → q.vectorFrom = false → q.qvec = none →
            ∃ q', queryOf t (hostTag slot seq) = some q' ∧ q'.qvec = some r.query
              ∧ q'.cause.poison = (q.cause.poison || r.poison))))
    ∧ ((∀ d, d ∈ r.dies → hasHalted s d.1 d.2 = true ∧ drained s d.1 = true) → runInFlight s r = false → r.rows = [] →
      r.seqNo + 1 < r.seqs →
      ∃ t r', exec (.runComplete slot seq) s = .next t ∧ runOf t slot seq = some r' ∧ r'.seqNo = r.seqNo + 1
        ∧ r'.vectors = r.vectors + (if r.lost then 0 else 1) ∧ r'.dies.map (fun d => d.2.cnt) = r.dies.map (fun d => d.2.cnt)
        ∧ (∀ d, d ∈ r'.dies → d.2.line = 0) ∧ t = { s with dense := { s.dense with runs := t.dense.runs }, ctr := t.ctr })

/-- Lines issue in control order, macros start and complete, barriers release and runs complete. -/
def Obligations.DieProgramsRunLineByLine : Prop :=
  Claims.LinesIssueInControlOrder ∧ Claims.MacrosStartAndComplete ∧ Claims.BarriersAndEndsOfRuns

/-- Descriptors of a block list (R308, R310): of a burst that is in flight, a good header and good descriptors fill the cache with up
to 31 of them and tell how many are left and where the list goes on; a header with the wrong kind, a COUNT of 0 or a reserved
bit, or a failed read, makes the stream bad from the first block whose descriptor is not held, and is logged.
REG_BUCKET_REFILL (R322, R326): the bucket gains its rate for the time since the last refill, up to its depth; then requests that
waited for it issue and queued slots reach their streams, and with none of these it keeps what it gained. -/
def Claims.DescriptorsAndTheBucket : Prop :=
  (∀ (s s1 : State) (die n h : Nat) (bs : List Byte) (r : Run), runOfDie s die = some r → r.ending = none →
    s1 = takeQueues s die → n ∈ (dieSeq s1 die).bursts → paging s r.slot r.seq (.descriptors die n) = none →
    isHost (streamEntry s1 die n) = true → (streamSt (dieSeq s1 die) n).badFrom = none →
    (streamSt (dieSeq s1 die) n).cache = [] → (streamSt (dieSeq s1 die) n).listLeft = 0 → h = numAt bs 0 32 →
    (bits h 15 0 = 0xB1C7 → bits h 191 160 ≠ 0 → bits h 159 16 = 0 →
      (∀ i, i < min 31 (bits h 191 160) → descGood (streamEntry s1 die n) (numAt bs (32 + 32 * i) 32) = true) →
      ∃ t, exec (.descriptorBurstDone die n (some bs)) s = .next t
        ∧ (streamSt (dieSeq t die) n).cache.length = min 31 (bits h 191 160)
        ∧ (streamSt (dieSeq t die) n).listLeft = bits h 191 160 - min 31 (bits h 191 160)
        ∧ (streamSt (dieSeq t die) n).listNext = bits h 255 192 ∧ (streamSt (dieSeq t die) n).badFrom = none
        ∧ t = { s with dense := t.dense, ctr := t.ctr })
    ∧ (∀ data, (data = none ∨ (data = some bs ∧ (bits h 15 0 ≠ 0xB1C7 ∨ bits h 191 160 = 0 ∨ bits h 159 16 ≠ 0))) →
      ∃ t, exec (.descriptorBurstDone die n data) s = .next t
        ∧ (streamSt (dieSeq t die) n).badFrom = some (streamSt (dieSeq s1 die) n).fetchNo
        ∧ t.log.next = s.log.next + 1 ∧ t = { s with dense := t.dense, ctr := t.ctr, log := t.log }))
  ∧ (∀ (s : State) (die : Nat) (r : Run), runOfDie s die = some r →
    ∃ t, exec (.regBucketRefill die) s = .next t ∧ t = takeQueues (issueDie s die) die ∧ (dieSeq t die).refilled = s.time.tick
      ∧ (dieSeq (refillDie s die) die).bucket = min ((dieSeq s die).burst * 1048576 : Int)
          ((dieSeq s die).bucket + (((dieSeq s die).rate * (s.time.tick - (dieSeq s die).refilled) : Nat) : Int))
      ∧ ((dieSeq s die).streams = [] → (dieSeq s die).queues.flatten = [] →
          (∀ q, q ∈ s.dense.reqs → q.core / 64 = die → q.todo = []) → (dieSeq t die).bucket = (dieSeq (refillDie s die) die).bucket)
      ∧ t = { s with dense := t.dense, ctr := t.ctr })

/-- Blocks (R313-R318, R321, R322, R326): once the die's requests have issued and its queued slots have reached their streams, the
input block of a stream that is on its way, or may set out, arrives: the stream's next block number and BLOCKS_DONE go up by one.
An output block that is filled, and credited or flushed, is written, unless it is bad or its access failed, and its buffer is
released, whether earlier ones are written or not; the stream's next block number goes past it once all before it are. While
requests of a block are left to issue a response only retires those that are out; what is not ready, or waits for a request or for
a page, stays. -/
def Claims.BlocksMoveOneAtATime : Prop :=
  ∀ (s s1 : State) (die n : Nat) (r : Run) (e : StreamEnt), runOfDie s die = some r → r.ending = none →
    s1 = catchUp s die → e = nth (tabNo s1 r.tab).streams n {} → e.die = die → e.endpoint ≠ 5 →
    (∀ data bad present c len sh, e.dir = false → inputReady s1 die n = some (c, len, sh) →
      (streamHeld s1 r die n = false → partReqs s1 (.stream die n) = false →
        ∃ t, exec (.blockFetchDone die n data bad present) s = .next t
          ∧ (streamSt (dieSeq t die) n).fetchNo = (streamSt (dieSeq s1 die) n).fetchNo + 1
          ∧ counter t 0x60 = (counter s1 0x60 + 1) % 2 ^ 64 ∧ t = { s with dense := t.dense, ctr := t.ctr, free := t.free })
      ∧ (streamHeld s1 r die n = false → partReqs s1 (.stream die n) = true →
        exec (.blockFetchDone die n data bad present) s = .next (streamPart s1 die n))
      ∧ (streamHeld s1 r die n = true → exec (.blockFetchDone die n data bad present) s = .next s1))
    ∧ (∀ present c len b, e.dir = true → outputReady s1 die n = some (c, len, b) →
      (∀ x, x ∈ (tabNo s1 r.tab).streams → x.endpoint = 5 → x.dir = false → x.linkFrom ≠ n) →
      (streamHeld s1 r die n = false → partReqs s1 (.stream die n) = false →
        ∃ t, exec (.blockWriteDone die n present) s = .next t
          ∧ (b.no = (streamSt (dieSeq s1 die) n).fetchNo → (streamSt (dieSeq s1 die) n).early = [] →
              (streamSt (dieSeq t die) n).fetchNo = b.no + 1)
          ∧ (b.no ≠ (streamSt (dieSeq s1 die) n).fetchNo →
              (streamSt (dieSeq s1 die) n).fetchNo ∉ (streamSt (dieSeq s1 die) n).early →
              b.no ∈ (streamSt (dieSeq t die) n).early
                ∧ (streamSt (dieSeq t die) n).fetchNo = (streamSt (dieSeq s1 die) n).fetchNo)
          ∧ ((∀ m, m ∈ (dieSeq s1 die).macros → m.unit = .t → m.stream ≠ n) →
              ∀ x, x ∈ (streamSt (dieSeq t die) n).blocks → x.no ≠ b.no)
          ∧ (isBad (streamSt (dieSeq s1 die) n) b.no = false → present = true →
              t.writes = (writeBlock s1 r die n e c b len).writes)
          ∧ (isBad (streamSt (dieSeq s1 die) n) b.no = true → t.writes = s.writes)
          ∧ (isHost e = true → present = false → t.writes = s.writes)
          ∧ counter t 0x60 = (counter s1 0x60 + 1) % 2 ^ 64
          ∧ t = { s with dense := t.dense, ctr := t.ctr, writes := t.writes })
      ∧ (streamHeld s1 r die n = false → partReqs s1 (.stream die n) = true →
        exec (.blockWriteDone die n present) s = .next (streamPart s1 die n))
      ∧ (streamHeld s1 r die n = true → exec (.blockWriteDone die n present) s = .next s1))
    ∧ (∀ data bad present, e.dir = false → inputReady s1 die n = none → exec (.blockFetchDone die n data bad present) s = .next s1)
    ∧ (∀ present, e.dir = true → outputReady s1 die n = none → exec (.blockWriteDone die n present) s = .next s1)

/-- Block lists are read into the cache, the bucket refills, and blocks move one at a time. -/
def Obligations.StreamsMoveBlocksUnderCredit : Prop :=
  Claims.DescriptorsAndTheBucket ∧ Claims.BlocksMoveOneAtATime

/-- The ends that R399 and R400 name: STALL_DETECT ends the run of a stalled die with ABORTED, counts and logs it;
DIE_PROGRAM_ABORT of a cause that the unit reports ends the run with the cause's status; DIE_ABORT_DONE frees the dies and
finishes the command with that status. A run that has no ending yet is not freed. -/
def Obligations.AbortedRunsEndWithTheirCause : Prop :=
  (∀ (s : State) (die : Nat) (r : Run), runOfDie s die = some r → runOf s r.slot r.seq = some r → r.ending = none →
    (stalled s r die = true →
      ∃ t r', exec (.stallDetect die) s = .next t ∧ runOf t r.slot r.seq = some r' ∧ r'.ending = some .aborted
        ∧ counter t 0x08 = min (counter s 0x08 + 1) 0xFFFFFFFF ∧ t.log.next = s.log.next + 2)
    ∧ (stalled s r die = false → exec (.stallDetect die) s = .next s))
  ∧ (∀ (s : State) (slot seq cause : Nat) (r : Run), runOf s slot seq = some r → r.ending = none → cause ∈ [4, 5, 6] →
    ∃ t r', exec (.dieProgramAbort slot seq cause) s = .next t ∧ runOf t slot seq = some r'
      ∧ r'.ending = some (abortStatus cause) ∧ r'.rows = [] ∧ (∀ d, d ∈ r'.dies → d.2.macros = [] ∧ d.2.streams = [])
      ∧ counter t 0x07 = min (counter s 0x07 + 1) 0xFFFFFFFF)
  ∧ (∀ (s : State) (slot seq : Nat) (r : Run), runOf s slot seq = some r →
    (∀ st o, r.ending = some st → r.reported = true → r.fault = false → (chan s slot).state = .active →
      outCmd s slot seq = some o →
      ∃ t k, exec (.dieAbortDone slot seq) s = .next t ∧ runOf t slot seq = none ∧ Finished t slot seq k ∧ k.status = st
        ∧ k.result = (if cOpcode r.word = 0x20 then r.vectors else 0)
        ∧ t = { s with chans := t.chans, dense := t.dense, queries := t.queries, pageReqs := t.pageReqs, ctr := t.ctr, log := t.log })
    ∧ (r.ending = none → exec (.dieAbortDone slot seq) s = .next s))

/-- READ, WRITE, DESCRIBE, SEG_READ and SEG_WRITE through a mailbox (R366, R372, R373): a well-formed request in a busy mailbox
is processed as one message of the mailbox's path; its response stands in MB_RSP, RSP_BYTES tells its length, BUSY reads 0
and DONE 1. -/
def Claims.MailboxMessagesAreAnswered : Prop :=
  ∀ (s : State) (p : Port) (bs : List Byte) (op : Nat) (c : Instr),
    (c, op) ∈ [(Instr.read (.mailbox p), 1), (Instr.write (.mailbox p), 2), (Instr.describe (.mailbox p), 3),
      (Instr.segRead (.mailbox p), 4), (Instr.segWrite (.mailbox p), 5)] →
    messageAt s (.mailbox p) = some bs → malformed (.mailbox p) bs = false → mOp (msgHeader bs) = op →
    (runMessage (usePath s (portNo p)) (portNo p) 16384 bs).1.dict.restart = none →
    ∃ t, exec c s = .next t ∧ (port t p).mb.busy = false ∧ (port t p).mb.done = true
      ∧ (port t p).mb.rspBytes = (runMessage (usePath s (portNo p)) (portNo p) 16384 bs).2.length
      ∧ readBytes (port t p).mb.rsp 0 (port t p).mb.rspBytes = (runMessage (usePath s (portNo p)) (portNo p) 16384 bs).2

/-- The same commands as datagrams (R376, R378): while the port answers, with DAP_ENABLE 1, a well-formed datagram of an open path
whose REQ_ID is none of the kept ones is processed as one message of that path, and its response leaves for the peer and
is kept; one whose REQ_ID is kept is answered from the kept response and processed no second time. -/
def Claims.DatagramsAreAnsweredOnce : Prop :=
  ∀ (s : State) (peer : Peer) (bs : List Byte) (n op : Nat) (c : Instr),
    (c, op) ∈ [(Instr.read (.datagram peer false true bs), 1), (Instr.write (.datagram peer false true bs), 2),
      (Instr.describe (.datagram peer false true bs), 3), (Instr.segRead (.datagram peer false true bs), 4),
      (Instr.segWrite (.datagram peer false true bs), 5)] →
    mgmtUp s = true → ctl s 0x103001 ≠ 0 → malformed (.datagram peer false true bs) bs = false → mOp (msgHeader bs) = op →
    openPath s peer = (usePath (releaseIdle s) n, n) →
    ((pathOf (usePath (releaseIdle s) n) n).replies.find? (fun r => r.1 == mReqId (msgHeader bs)) = none →
      (runMessage (usePath (releaseIdle s) n) n 1232 bs).1.dict.restart = none →
      ∃ t, exec c s = .next t
        ∧ t.dict.sent = (peer, (runMessage (usePath (releaseIdle s) n) n 1232 bs).2)
            :: (runMessage (usePath (releaseIdle s) n) n 1232 bs).1.dict.sent)
    ∧ (∀ r, (pathOf (usePath (releaseIdle s) n) n).replies.find? (fun r => r.1 == mReqId (msgHeader bs)) = some r →
      ∃ t, exec c s = .next t ∧ t.dict.sent = (peer, r.2) :: s.dict.sent
        ∧ t = { s with dict := { s.dict with paths := t.dict.paths, sent := t.dict.sent } })

/-- What is discarded or answered with a header alone (R370, R373, R376): a datagram whose checksum fails, or that finds the
receive queue full, is counted in DAP_DISCARDS and changes nothing else; a mailbox request with a wrong MAGIC has no
response; that BUSY then reads 0, DONE 1 and RSP_BYTES 0 is the model's choice (log entry 85). -/
def Claims.MalformedMessagesAreDiscarded : Prop :=
  (∀ (s : State) (peer : Peer) (allNodes : Bool) (bs : List Byte), mgmtUp s = true → ctl s 0x103001 = 1 →
    (∀ ok, exec (.malformedMessage (.datagram peer allNodes ok bs) true) s = .next (bump s 0x80 1))
    ∧ exec (.malformedMessage (.datagram peer allNodes false bs) false) s = .next (bump s 0x80 1))
  ∧ (∀ (s : State) (p : Port) (queueFull : Bool) (bs : List Byte), messageAt s (.mailbox p) = some bs →
    mMagic (msgHeader bs) ≠ 0x4144 →
    ∃ t, exec (.malformedMessage (.mailbox p) queueFull) s = .next t ∧ (port t p).mb.busy = false ∧ (port t p).mb.done = true
      ∧ (port t p).mb.rspBytes = 0 ∧ t.dict = s.dict)

/-- Mailbox messages and datagrams are processed once and answered; malformed ones are discarded. -/
def Obligations.MessagesAreAnsweredOnce : Prop :=
  Claims.MailboxMessagesAreAnswered ∧ Claims.DatagramsAreAnsweredOnce ∧ Claims.MalformedMessagesAreDiscarded

/-- A read of an entry (R365, R362): a READ item whose entry may be read answers OK; of an entry that does not exist NO_ENTRY,
of a write-only one WRITE_ONLY; and whatever it answers, an item of an entry other than DBG_CHALLENGE changes no stored
value, no channel, no index and no register of the module: only counters. -/
def Claims.ReadItemsChangeNothingButCounters : Prop :=
  ∀ (s : State) (path key : Nat) (next : Bool) (binds : List (Nat × Nat)) (i : Item), i.key = key → key ≠ 0xA00031 →
    (runItem s path 1 next binds i).1 = { s with ctr := (runItem s path 1 next binds i).1.ctr }
    ∧ (runItem s path 3 next binds i).1 = { s with ctr := (runItem s path 3 next binds i).1.ctr }
    ∧ (entryAt key = none → readStatus s path binds key = stNoEntry)
    ∧ (∀ e, entryAt key = some e → e.acc = 2 → readStatus s path binds key = stWriteOnly)

/-- The order in which a write is checked (R362): no such entry, a read-only entry, the access policy of R448, a locked E
entry, then type and length; each answers its own status whatever stands behind it. -/
def Claims.WritesAreCheckedInOrder : Prop :=
  ∀ (s : State) (path typ len v key : Nat) (binds : List (Nat × Nat)),
    (entryAt key = none → writeStatus s path binds typ len v key = stNoEntry)
    ∧ (∀ e, entryAt key = some e →
      ((e.acc = 0 ∨ e.acc = 4) → writeStatus s path binds typ len v key = stReadOnly)
      ∧ (e.acc ≠ 0 → e.acc ≠ 4 →
        (denied s path e = true → writeStatus s path binds typ len v key = stDenied)
        ∧ (denied s path e = false →
          (e.expert = true → e.sel = false → (pathOf s path).unlock = none →
            writeStatus s path binds typ len v key = stLocked)
          ∧ ((e.expert = false ∨ e.sel = true ∨ (pathOf s path).unlock ≠ none) → (typ ≠ e.typ ∨ len ≠ e.len) →
            writeStatus s path binds typ len v key = stType))))
    ∧ (∀ e, entryAt key = some e → path < 2 → ctl s 0xA00022 = 0 → e.sel = false → denied s path e = true)
    ∧ (∀ e, entryAt key = some e → 2 ≤ path → denied s path e = false)

/-- A dictionary read changes counters only; a write is checked in the order of R362. -/
def Obligations.ReadsAndWritesAreCheckedInOrder : Prop :=
  Claims.ReadItemsChangeNothingButCounters ∧ Claims.WritesAreCheckedInOrder

/-- Writes that act on the dictionary itself (R359, R379-R381): EXPERT_UNLOCK unlocks its path from now on, or locks it for 0;
SAVE captures the saved entries and SAVE_STATE reads 1; RESTORE_DEFAULTS erases both copies of the saved set; LOG_ACK takes
its value; CORE_PART the die's partition. Nothing but the dictionary, or the log's acknowledgement, changes. -/
def Claims.DictionaryWritesTakeEffect : Prop :=
  ∀ (s : State) (path v : Nat),
    (WriteOk s path 0x101001 v →
      ∃ t, exec (.expertUnlock path v) s = .next t
        ∧ (pathOf t path).unlock = (if v = 0 then none else some s.time.tick) ∧ SameButPaths s t ∧ t = { s with dict := t.dict })
    ∧ (WriteOk s path 0x102001 v →
      ∃ t, exec (.save path v) s = .next t ∧ t.dict.saving = some (capture s) ∧ t.dict.saveState = 1
        ∧ t.dict.vals = s.dict.vals ∧ t.dict.copyA = s.dict.copyA ∧ t.dict.copyB = s.dict.copyB ∧ t = { s with dict := t.dict })
    ∧ (WriteOk s path 0x102004 v →
      ∃ t, exec (.restoreDefaults path v) s = .next t ∧ t.dict.copyA = {} ∧ t.dict.copyB = {} ∧ t.dict.vals = s.dict.vals
        ∧ t = { s with dict := t.dict })
    ∧ (WriteOk s path 0x900004 v →
      ∃ t, exec (.logAck path v) s = .next t ∧ t.log = { s.log with ack := v } ∧ SameButPaths s t
        ∧ t = { s with dict := t.dict, log := t.log })
    ∧ (∀ die, die < 8 → WriteOk s path (0x720101 + die) v →
      ∃ t, exec (.corePart path die v) s = .next t ∧ ctl t (0x720101 + die) = v
        ∧ (∀ key obj, key * 65536 + obj ≠ (0x720101 + die) * 65536 → ctlObj t key obj = ctlObj s key obj)
        ∧ t = { s with dict := t.dict })

/-- A write that fails a check (R362, R369, R385) stores nothing: its item counts in DICT_REFUSED, the path's staging is
discarded, and its last use noted; before dictionary-ready it is not even that. Stated of the write of any one entry, here by
the commands LOG_ACK, SAVE, POWER_ON and DBG_CLOSE. -/
def Claims.RefusedWritesStoreNothing : Prop :=
  ∀ (s : State) (path v key : Nat) (c : Instr) (e : DictEnt), s.dict.restart = none →
    (c, key) ∈ [(Instr.logAck path v, 0x900004), (Instr.save path v, 0x102001), (Instr.powerOn path v, 0x200008),
      (Instr.dbgClose path v, 0xA00036)] →
    (s.dict.ready = false → exec c s = .next s)
    ∧ (s.dict.ready = true → entryAt key = some e →
      writeStatus (dropStage (usePath s path) path) path [] e.typ e.len v key ≠ stOk →
      exec c s = .next (bump (dropStage (usePath s path) path) 0x81 1))

/-- SAVE_DONE (R380, R381): the captured set is one of the two copies, valid, under a sequence number above both; the other copy
stands; SAVE_STATE reads 2. Timed ends of a path (R377, R379): EXPERT_TIMEOUT after the last write of an E entry the unlock
is gone, not earlier; DAP_PATH_IDLE after the last message a management path loses all it held, not earlier. -/
def Claims.SavedSetsAndPathTimers : Prop :=
  (∀ (s : State) (vals : List (Nat × Nat)), s.dict.saving = some vals →
    ∃ t c, exec (.saveDone true) s = .next t ∧ c.valid = true ∧ c.vals = vals ∧ s.dict.copyA.seq < c.seq ∧ s.dict.copyB.seq < c.seq
      ∧ ((t.dict.copyA = c ∧ t.dict.copyB = s.dict.copyB) ∨ (t.dict.copyB = c ∧ t.dict.copyA = s.dict.copyA))
      ∧ t.dict.saveState = 2 ∧ t.dict.saving = none ∧ t.dict.vals = s.dict.vals ∧ t = { s with dict := t.dict })
  ∧ (∀ (s : State) (path u : Nat), path < s.dict.paths.length → (pathOf s path).unlock = some u →
    (u + ctl s 0x101003 * 1000000000 ≤ s.time.tick →
      ∃ t, exec (.expertUnlockExpiry path) s = .next t ∧ pathOf t path = { pathOf s path with unlock := none }
        ∧ (∀ n, n ≠ path → pathOf t n = pathOf s n) ∧ SameButPaths s t ∧ t = { s with dict := t.dict })
    ∧ (s.time.tick < u + ctl s 0x101003 * 1000000000 → exec (.expertUnlockExpiry path) s = .next s))
  ∧ (∀ (s : State) (path : Nat), 2 ≤ path → path < s.dict.paths.length → (pathOf s path).peer ≠ none →
    ((pathOf s path).lastUse + ctl s 0x103007 * 1000000000 ≤ s.time.tick →
      ∃ t, exec (.dapPathRelease path) s = .next t ∧ pathOf t path = {} ∧ (∀ n, n ≠ path → pathOf t n = pathOf s n)
        ∧ SameButPaths s t ∧ t = { s with dict := t.dict })
    ∧ (s.time.tick < (pathOf s path).lastUse + ctl s 0x103007 * 1000000000 → exec (.dapPathRelease path) s = .next s))

/-- Writes of the dictionary's own entries take effect; a refused one stores nothing; saved sets and path timers. -/
def Obligations.DictionaryWritesTakeEffectOrNone : Prop :=
  Claims.DictionaryWritesTakeEffect ∧ Claims.RefusedWritesStoreNothing ∧ Claims.SavedSetsAndPathTimers

/-- Writes that act on the module's parts (R111, R176, R266, R363): a counter is cleared; a statistics slot is cleared by 1; an
unloaded tablature's TAB_ID names nothing; a user kernel takes its block; FENCE_CLEAR is noted for the next main start. -/
def Claims.PartWritesTakeEffect : Prop :=
  ∀ (s : State) (path v : Nat),
    (∀ sub, sub < 256 → WriteOk s path (0x910000 + sub) 0 → (entryAt (0x910000 + sub)).any (·.clears) = true →
      ∃ t, exec (.counterClear path (0x910000 + sub) 0) s = .next t ∧ counter t sub = 0
        ∧ (∀ n, n ≠ sub → counter t n = counter s n) ∧ SameButPaths s t ∧ t = { s with dict := t.dict, ctr := t.ctr })
    ∧ (∀ e obj, entryAt 0x701107 = some e → objOf (dropStage (usePath s path) path) path [] e = some obj →
      WriteOk s path 0x701107 1 →
      ∃ t, exec (.statClear path 1) s = .next t ∧ look t.dense.stats obj = none
        ∧ (∀ n, n ≠ obj → look t.dense.stats n = look s.dense.stats n)
        ∧ t = { s with dict := t.dict, dense := { s.dense with stats := t.dense.stats } })
    ∧ (WriteOk s path 0x720003 v →
      ∃ t, exec (.tabUnload path v) s = .next t ∧ look t.dense.tabs v = none
        ∧ (∀ n, n ≠ v → look t.dense.tabs n = look s.dense.tabs n)
        ∧ t = { s with dict := t.dict, dense := { s.dense with tabs := t.dense.tabs } })
    ∧ (∀ block e obj, entryAt 0x502101 = some e → objOf (dropStage (usePath s path) path) path [] e = some obj →
      WriteOk s path 0x502101 (leNat block) →
      ∃ t k, exec (.kernelCode path block) s = .next t ∧ look t.kernels obj = some k ∧ k.block = leNat block ∧ k.valid = true
        ∧ k.cost = kernelCost (leNat block) ∧ (∀ n, n ≠ obj → look t.kernels n = look s.kernels n)
        ∧ t = { s with dict := t.dict, kernels := t.kernels })
    ∧ (WriteOk s path 0xB00004 v →
      ∃ t, exec (.fenceClear path v) s = .next t ∧ t.integ = { s.integ with clearNext := true }
        ∧ t = { s with dict := t.dict, integ := t.integ })

/-- The management link (R374, R375): PLCA while BEACONs are seen, the fallback otherwise; a solicitation of the port's link-local
address is answered with an advertisement to the node that asked, one of another address with nothing; an echo request to it is
answered with its own bytes, unless another node holds the address; a duplicate address found once is logged and stops the port.
The forms of the two answers are the model's, those of ICMPv6 (log entry 140). -/
def Claims.ManagementLinkChanges : Prop :=
  ∀ (s : State), s.pins.aux = true → s.pins.sampled = true → s.tap.pinsTaken = false →
    exec (.plcaBeaconChange true) s = .next { s with dict := { s.dict with link := 1 } }
    ∧ exec (.plcaBeaconChange false) s = .next { s with dict := { s.dict with link := 2 } }
    ∧ (∀ source target, target ≠ linkLocal s → exec (.neighbourDiscovery (.solicitation source target)) s = .next s)
    ∧ (∀ source, source ≠ unspecified →
        exec (.neighbourDiscovery (.solicitation source (linkLocal s))) s = .next { s with dict := { s.dict with
          icmp := (source, icmpMessage s source 136 ([0x60, 0, 0, 0] ++ linkLocal s ++ [2, 1] ++ macAddress s)) :: s.dict.icmp } })
    ∧ exec (.neighbourDiscovery (.solicitation unspecified (linkLocal s))) s = .next { s with dict := { s.dict with
        icmp := (allNodes, icmpMessage s allNodes 136 ([0x20, 0, 0, 0] ++ linkLocal s ++ [2, 1] ++ macAddress s)) :: s.dict.icmp } }
    ∧ (∀ source body,
        (s.dict.dupAddr = false → exec (.neighbourDiscovery (.echo source (linkLocal s) body)) s = .next { s with dict := { s.dict with
            icmp := (source, icmpMessage s source 129 body) :: s.dict.icmp } })
        ∧ (s.dict.dupAddr = true → exec (.neighbourDiscovery (.echo source (linkLocal s) body)) s = .next s))
    ∧ (s.dict.dupAddr = true → exec (.neighbourDiscovery .duplicate) s = .next s)
    ∧ (s.dict.dupAddr = false →
      ∃ t, exec (.neighbourDiscovery .duplicate) s = .next t ∧ t.dict = { s.dict with dupAddr := true } ∧ mgmtUp t = false
        ∧ t.log.next = s.log.next + 1 ∧ t = { s with dict := t.dict, log := t.log })

/-- Writes that act on other parts take effect; the management link and its address. -/
def Obligations.PartWritesAndLinkChangesTakeEffect : Prop :=
  Claims.PartWritesTakeEffect ∧ Claims.ManagementLinkChanges

/-- PARITY_ERROR (R392, R396): a recovered error counts in PARITY_CORRECTED and raises a core's score by 1; one of a link inside
the module was recovered by one to three replays, and every replay counts in LINK_REPLAYS, the three of an error that they
could not recover too; an unrecovered one of the management controller or of the link between the hub dies makes the module
FATAL, and beside it a packet with a good header has its payload poisoned and one with a bad header is discarded: an expand
response is then a poisoned one, or the request's timer is left to answer; one of a query-table entry counts, is logged, and marks
the entry bad. -/
def Claims.ParityErrorsAreCountedAndScored : Prop :=
  ∀ (s : State) (addr : Nat),
    (∀ packet header n, 1 ≤ n → n ≤ 3 → ∃ t, exec (.parityError (.hubLink packet header n) addr true) s = .next t
      ∧ counter t 0x01 = (counter s 0x01 + 1) % 2 ^ 64 ∧ counter t 0x03 = (counter s 0x03 + n) % 2 ^ 64 ∧ t = { s with ctr := t.ctr })
    ∧ (∃ t, exec (.parityError .management addr false) s = .next t ∧ t.log.isFatal = true ∧ t.log.next = s.log.next + 1
      ∧ t = { s with log := t.log })
    ∧ (∀ header n, ∃ t, exec (.parityError (.hubLink .other header n) addr false) s = .next t ∧ t.log.isFatal = true
      ∧ counter t 0x02 = min (counter s 0x02 + 1) 0xFFFFFFFF ∧ counter t 0x03 = (counter s 0x03 + 3) % 2 ^ 64
      ∧ t.log.next = s.log.next + 2 ∧ t = { s with ctr := t.ctr, log := t.log })
    ∧ (∀ n tag part e q w a, queryOf s tag = some q → walkOf q part = some w → w.inbox.find? (fun y => y.expTag == e) = some a →
      (∃ t q' w', exec (.parityError (.dieNetwork (.expandResponse tag part e) true n) addr false) s = .next t
        ∧ queryOf t tag = some q' ∧ walkOf q' part = some w' ∧ w'.inbox.length = w.inbox.length
        ∧ (∀ y, y ∈ w'.inbox → y.expTag = e → y.poison = true ∧ y.survivors = []) ∧ t.log.isFatal = s.log.isFatal
        ∧ counter t 0x02 = min (counter s 0x02 + 1) 0xFFFFFFFF ∧ t = { s with queries := t.queries, ctr := t.ctr, log := t.log })
      ∧ (∃ t q' w', exec (.parityError (.dieNetwork (.expandResponse tag part e) false n) addr false) s = .next t
        ∧ queryOf t tag = some q' ∧ walkOf q' part = some w' ∧ w'.inbox = w.inbox.filter (fun y => y.expTag != e)
        ∧ t = { s with queries := t.queries, bridges := t.bridges, ctr := t.ctr, log := t.log }))
    ∧ (∀ m tag, ∃ t, exec (.parityError (.queryTable m tag) addr false) s = .next t
      ∧ (bridge t m).badTags = (bridge s m).badTags ++ [tag] ∧ counter t 0x02 = min (counter s 0x02 + 1) 0xFFFFFFFF
      ∧ t.log.next = s.log.next + 1 ∧ (∀ n, n ≠ m → bridge t n = bridge s n)
      ∧ t = { s with bridges := t.bridges, ctr := t.ctr, log := t.log })
    ∧ (∀ core p d, physOf s core = some p → s.integ.dies[core / 64]? = some d → p < d.score.length →
      nth d.score p 0 + 1 < ctl s 0xB00001 → nth d.score p 0 < 0xFFFF →
      ∃ t, exec (.parityError (.coreStore core) addr true) s = .next t ∧ nth (dieCores t (core / 64)).score p 0 = nth d.score p 0 + 1
        ∧ (dieCores t (core / 64)).phys = d.phys ∧ (dieCores t (core / 64)).map = d.map ∧ t = { s with integ := t.integ, ctr := t.ctr })

/-- MEM_UNCORRECTABLE (R392, R395): an unreadable address counts in MEM_UNCORRECTABLE and is logged; an unreadable record is
marked, so that an expansion of it answers POISON from then on; an unreadable rerank vector is marked lost. -/
def Claims.UnreadableMemoryIsMarked : Prop :=
  ∀ (s : State),
    (∀ addr, ∃ t, exec (.memUncorrectable (.other addr)) s = .next t ∧ counter t 0x04 = min (counter s 0x04 + 1) 0xFFFFFFFF
      ∧ t.log.next = s.log.next + 1 ∧ t = { s with ctr := t.ctr, log := t.log })
    ∧ (∀ i pn slot header x p, indexAt s i = some x → partAt x pn = some p → look p.poisoned slot = none →
      ∃ t x' p', exec (.memUncorrectable (.record i pn slot header)) s = .next t ∧ indexAt t i = some x' ∧ partAt x' pn = some p'
        ∧ look p'.poisoned slot = some header ∧ p'.recs = p.recs ∧ t.log.next = s.log.next + 2
        ∧ (∀ j, j ≠ i → indexAt t j = indexAt s j) ∧ t = { s with indexes := t.indexes, ctr := t.ctr, log := t.log })
    ∧ (∀ i pn slot x p, indexAt s i = some x → partAt x pn = some p →
      ∃ t x' p', exec (.memUncorrectable (.rerank i pn slot)) s = .next t ∧ indexAt t i = some x' ∧ partAt x' pn = some p'
        ∧ slot ∈ p'.rerankBad ∧ p'.recs = p.recs ∧ t = { s with indexes := t.indexes, ctr := t.ctr, log := t.log })

/-- FENCE_CORE (R396, R397): the physical core that served the logical core is fenced and on the fence list; the lower free
spare, where there is one, takes its number; CORE_FENCES counts it. FENCE_DECAY: in each period every score falls by 1, down
to 0. HUB_RELOAD_DONE: the die admits walks again. -/
def Claims.FencedCoresAreReplaced : Prop :=
  (∀ (s : State) (path v p : Nat) (d : DieCores), WriteOk s path 0xB00003 v → s.queries = [] → s.dense.runs = [] →
    physOf s v = some p → s.integ.dies[v / 64]? = some d → p < d.phys.length → v % 64 < d.map.length →
    (∀ q, freeSpare d = some q → q ≠ p → q < d.phys.length →
      ∃ t, exec (.fenceCore path v) s = .next t ∧ nth (dieCores t (v / 64)).phys p .failedTest = .fenced
        ∧ nth (dieCores t (v / 64)).phys q .failedTest = .spareInService ∧ physOf t v = some q ∧ (66 * (v / 64) + p) ∈ t.integ.fenceList
        ∧ (dieCores t (v / 64)).reload = true ∧ counter t 0x06 = min (counter s 0x06 + 1) 0xFFFFFFFF)
    ∧ (freeSpare d = none →
      ∃ t, exec (.fenceCore path v) s = .next t ∧ nth (dieCores t (v / 64)).phys p .failedTest = .fenced ∧ physOf t v = none
        ∧ (66 * (v / 64) + p) ∈ t.integ.fenceList ∧ counter t 0x06 = min (counter s 0x06 + 1) 0xFFFFFFFF))
  ∧ (∀ s : State, (s.integ.lastDecay + ctl s 0xB00002 * 1000000 ≤ s.time.tick →
      ∃ t, exec .fenceDecay s = .next t ∧ t.integ.dies.map (·.score) = s.integ.dies.map (fun d => d.score.map (· - 1))
        ∧ t.integ.dies.map (·.phys) = s.integ.dies.map (·.phys) ∧ t.integ.fenceList = s.integ.fenceList
        ∧ t = { s with integ := t.integ })
    ∧ (s.time.tick < s.integ.lastDecay + ctl s 0xB00002 * 1000000 → exec .fenceDecay s = .next s))
  ∧ (∀ (s : State) (die : Nat) (d : DieCores), s.integ.dies[die]? = some d → d.reload = true → running s = true →
    ∃ t, exec (.hubReloadDone die) s = .next t ∧ dieCores t die = { d with reload := false } ∧ admitsWalks t die = true
      ∧ t = { s with integ := t.integ })

/-- REQ_TIMEOUT (R394): REQ_TIMEOUT after its issue, and not earlier, the walk gets a poisoned response in the place of the one that
did not come, the request leaves its queue, or the place of a lost one, and the timeout is counted and logged; with no request
queue full, nothing else changes. -/
def Claims.TimedOutRequestsAnswerPoison : Prop :=
  ∀ (s : State) (m tag part expTag : Nat) (r : ExpandReq) (q : Query) (w : Walk) (b : Bridge),
    (s.bridges.find? (fun b => (b.2.reqs ++ b.2.lost).any (RunOut s tag part expTag)) = some (m, b) →
    (b.reqs ++ b.lost).find? (RunOut s tag part expTag) = some r →
    (∀ c, c ∈ s.bridges → c.2.reqs.length < 4096) → queryOf s r.tag = some q → walkOf q r.part = some w →
    ∃ t q' w' a, exec (.reqTimeout (.expand tag part expTag)) s = .next t ∧ (bridge t m).reqs = b.reqs.erase r
      ∧ (bridge t m).lost = b.lost.erase r
      ∧ queryOf t r.tag = some q' ∧ walkOf q' r.part = some w' ∧ w'.inbox = w.inbox ++ [a] ∧ a.poison = true
      ∧ a.slot = r.slot ∧ a.expTag = r.expTag ∧ a.qtab = r.qtab ∧ a.context = r.context ∧ a.eligible = false ∧ a.survivors = []
      ∧ counter t 0x05 = min (counter s 0x05 + 1) 0xFFFFFFFF
      ∧ t = { s with bridges := t.bridges, queries := t.queries, ctr := t.ctr, log := t.log })
    ∧ ((∀ c x, c ∈ s.bridges → x ∈ c.2.reqs ++ c.2.lost → RunOut s tag part expTag x = false) →
      exec (.reqTimeout (.expand tag part expTag)) s = .next s)

/-- Parity errors, unreadable memory, fenced cores and timed-out requests. -/
def Obligations.HardwareFaultsAreCountedMarkedAndFenced : Prop :=
  Claims.ParityErrorsAreCountedAndScored ∧ Claims.UnreadableMemoryIsMarked ∧ Claims.FencedCoresAreReplaced ∧ Claims.TimedOutRequestsAnswerPoison

/-- Firmware update (R441, R442): FW_UPD_DATA stages its segment for the slot that is not running, in the recovery service for one
that it chooses at the first segment and keeps (log entry 138); that the slot holds no image from then on is the model's choice (log entry 79);
FW_UPD_COMMIT asks for the check; the check's end records the image, makes its slot preferred only where it passes, clears the
staging and logs the result. -/
def Claims.FirmwareUpdateStagesThenCommits : Prop :=
  (∀ (s : State) (path : Nat) (data : List Byte), WriteOk s path 0xA00005 (leNat data) →
    ∃ t, exec (.fwUpdData path data) s = .next t ∧ look t.sec.staged (ctl s 0xA00004) = some (leNat data)
      ∧ (imageOf t (stagedSlot t)).valid = false ∧ t.sec.pref = s.sec.pref ∧ t.sec.run = s.sec.run
      ∧ (s.sec.recovery = false → stagedSlot t = 1 - s.sec.run % 2 ∧ t.free = s.free)
      ∧ (s.sec.recovery = true → s.sec.staged ≠ [] → stagedSlot t = stagedSlot s) ∧ (s.sec.recovery = true → s.sec.staged = [] → stagedSlot t < 2)
      ∧ t = { s with dict := t.dict, sec := t.sec, free := t.free })
  ∧ (∀ (s : State) (path v : Nat), WriteOk s path 0xA00006 v →
    ∃ t, exec (.fwUpdCommit path v) s = .next t ∧ t.sec = { s.sec with committing := true } ∧ t = { s with dict := t.dict, sec := t.sec })
  ∧ (∀ (s : State) (f : FwImage), s.sec.committing = true →
    ∃ t, exec (.fwCommitCheckDone f) s = .next t ∧ t.sec.committing = false ∧ t.sec.staged = []
      ∧ (slotPasses s f = true → t.sec.updResult = 1 ∧ t.sec.pref = stagedSlot s
          ∧ imageOf t (stagedSlot s) = { f with valid := true })
      ∧ (slotPasses s f = false → t.sec.updResult = 2 ∧ t.sec.pref = s.sec.pref ∧ (imageOf t (stagedSlot s)).valid = false)
      ∧ t.log.next = s.log.next + 1 ∧ t = { s with sec := t.sec, log := t.log })

/-- Attestation (R444): a nonce makes the last quote unreadable; the quote that follows takes the next QUOTE_SEQ, uses the nonce up
and is made under the identity key. -/
def Claims.QuotesUseTheirNonceOnce : Prop :=
  (∀ (s : State) (path : Nat) (nonce : List Byte), WriteOk s path 0xA00010 (leNat nonce) →
    ∃ t, exec (.attNonce path nonce) s = .next t ∧ t.sec = { s.sec with nonce := some (leBytes 32 (leNat nonce)), quote := none }
      ∧ t = { s with dict := t.dict, sec := t.sec })
  ∧ (∀ (s : State) (nonce : List Byte) (key : IdentityKey), s.sec.nonce = some nonce → s.sec.identity = some key → s.sec.dbg ≠ .erasing →
    exec .quoteReady s = .next { s with sec := { s.sec with
      quoteSeq := s.sec.quoteSeq + 1, nonce := none, quote := some (quoteOf s key (s.sec.quoteSeq + 1) nonce) } })
  ∧ (∀ s : State, s.sec.nonce = none → exec .quoteReady s = .next s)

/-- IDE and SPDM (R445, R447): a session stands once the host is authentic, while the identity key is held; keys are set only
within it, and the stream may then be secure, which with IDE_REQUIRED makes READY; a failure of a secure stream resets the
port and is logged. -/
def Claims.IdeNeedsAnAuthenticSession : Prop :=
  ∀ (s : State) (p : Port),
    ((port s p).linkUp = true → s.sec.identity ≠ none →
      exec (.spdmRequest p true) s = .next (setPort s p { port s p with spdm := true }))
    ∧ ((port s p).linkUp = true → s.sec.identity = none → exec (.spdmRequest p true) s = .next s)
    ∧ ((port s p).linkUp = true → (port s p).spdm = true →
      ∃ t, exec (.ideKeyManagement p true) s = .next t ∧ (port t p).ideKeyed = true ∧ (port t p).ideSecure = true
        ∧ (port t p).ready = true ∧ t = { s with portA := t.portA, portB := t.portB })
    ∧ ((port s p).spdm = false → exec (.ideKeyManagement p true) s = .next s)
    ∧ ((port s p).ideSecure = true →
      ∃ t, exec (.ideFailed p) s = .next t ∧ (port t p).ideSecure = false ∧ (port t p).linkUp = false ∧ (port t p).ready = false
        ∧ (port t p).mb = (port s p).mb)
    ∧ ((port s p).ideSecure = false → exec (.ideFailed p) s = .next s)

/-- Firmware update, attestation quotes, and IDE within an authentic session. -/
def Obligations.ImagesQuotesAndSessionsAreSecured : Prop :=
  Claims.FirmwareUpdateStagesThenCommits ∧ Claims.QuotesUseTheirNonceOnce ∧ Claims.IdeNeedsAnAuthenticSession

/-- R450: a read of DBG_CHALLENGE by a management-port path returns the fresh value of the random source, which becomes the
outstanding challenge, and any earlier one lapses; DBG_CHALLENGE_LIFE after its issue it has lapsed. -/
def Claims.DebugChallengesAreFreshAndLapse : Prop :=
  (∀ (s : State) (path : Nat) (fresh : List Byte), s.dict.ready = true → readStatus s path [] 0xA00031 = stOk → fresh.length = 32 →
    ∃ t, exec (.dbgChallenge path fresh) s = .next t ∧ t.sec = { s.sec with challenge := some (leNat fresh, s.time.tick) }
      ∧ t = { s with sec := t.sec })
  ∧ (∀ (s : State) (c since : Nat), s.sec.challenge = some (c, since) →
    (s.time.tick < since + ctl s 0xA00032 * 1000000000 → challengeLives s = some c ∧ exec .dbgChallengeLapse s = .next s)
    ∧ (since + ctl s 0xA00032 * 1000000000 ≤ s.time.tick →
      challengeLives s = none
      ∧ exec .dbgChallengeLapse s = .next { s with sec := { s.sec with challenge := none } }))
  ∧ (∀ (s : State) (path : Nat), path < 2 → readStatus s path [] 0xA00031 ≠ stOk)

/-- DBG_TOKEN (R451-R453): a token that passes every check starts the erasure: DBG_STATE is erasing, the keys, the quote and the
challenge are gone, both host ports are held down and their links down. One that fails a check is refused with the check's
number in DBG_RESULT, starts nothing, and uses the challenge up where its signature was looked at. -/
def Claims.TokensStartTheErasure : Prop :=
  ∀ (s : State) (path : Nat) (token : List Byte) (signed : Bool), WriteOk s path 0xA00033 (leNat token) →
    (tokenCheck (dropStage (usePath s path) path) (leNat token) signed = none →
      ∃ t, exec (.dbgToken path token signed) s = .next t ∧ t.sec.dbg = .erasing ∧ t.sec.dbgSince = s.time.tick
        ∧ t.sec.identity = none ∧ t.sec.farKey = none ∧ t.sec.quote = none ∧ t.sec.nonce = none ∧ t.sec.challenge = none
        ∧ t.portA.held = true ∧ t.portB.held = true ∧ t.portA.linkUp = false)
    ∧ (∀ r, tokenCheck (dropStage (usePath s path) path) (leNat token) signed = some r →
      ∃ t, exec (.dbgToken path token signed) s = .next t ∧ t.sec.dbg = s.sec.dbg ∧ t.sec.dbgResult = r
        ∧ t.sec.challenge = (if 5 ≤ r then none else s.sec.challenge)
        ∧ t = { s with dict := t.dict, sec := t.sec, log := t.log, ctr := t.ctr })

/-- DEBUG_ERASURE_DONE (R453, R455): the debug port opens on a module that holds nothing: no index, query, run or tablature, no
entry of the event ring but the opening's own; new keys are drawn; the count of openings goes up. Nothing happens unless the
erasure runs. -/
def Claims.ErasureLeavesNothing : Prop :=
  ∀ s : State,
    (s.sec.dbg = .erasing → s.sec.perstHeld = false →
      ∃ t, exec .debugErasureDone s = .next t ∧ t.sec.dbg = .open_ ∧ t.indexes = [] ∧ t.queries = [] ∧ t.dense.tabs = []
        ∧ t.dense.runs = [] ∧ t.dense.cores = [] ∧ t.ring0 = {} ∧ t.ring1 = {} ∧ t.rlocks = []
        ∧ (∀ n p, (n, p) ∈ t.pinSlots → p.live = false) ∧ t.log.ring.length ≤ 1 ∧ t.sec.debugOpened = true
        ∧ t.sec.identity = some (.drawn (s.sec.keysDrawn + 2)) ∧ t.sec.farKey = some (s.sec.keysDrawn + 1)
        ∧ t.sec.keysDrawn = s.sec.keysDrawn + 2 ∧ t.sec.openCount = min 0xFFFFFFFF (s.sec.openCount + 1)
        ∧ t.log.next = s.log.next + 1)
    ∧ (s.sec.dbg ≠ .erasing → exec .debugErasureDone s = .next s)

/-- Challenges, tokens and the erasure before the debug port opens. -/
def Obligations.DebugAccessNeedsATokenAndAnErasure : Prop :=
  Claims.DebugChallengesAreFreshAndLapse ∧ Claims.TokensStartTheErasure ∧ Claims.ErasureLeavesNothing

/-- The TAP (R449, R472): TRST_N holds it in reset with the pins in their function; that IDCODE is then selected is the model's choice
(log entry 12). Released, BYPASS captures 0, IDCODE the code of stepping B0, SAMPLE/PRELOAD the pins as they are, and 0 for cells
without power (which cells: log entry 139). EXTEST, CLAMP and HIGHZ take the pins in any state in which no work runs; what they do to
running work is not defined (R1, R449), and stopping there is the model's choice (log entry 93). In reset only TAP_RESET acts. -/
def Obligations.TapInstructions : Prop :=
  ∀ (s : State),
    exec (.tapReset true) s = .next { s with tap := { s.tap with inReset := true, instr := .idcode, pinsTaken := false } }
    ∧ exec (.tapReset false) s = .next { s with tap := { s.tap with inReset := false } }
    ∧ (s.pins.aux = true → s.tap.inReset = false →
      exec .bypass s = .next { s with tap := { s.tap with instr := .bypass, captured := 0, pinsTaken := false } }
      ∧ exec .idcode s = .next { s with tap := { s.tap with instr := .idcode, captured := 0x1632A4B7, pinsTaken := false } }
      ∧ (∀ cells shifted, exec (.samplePreload cells shifted) s = .next { s with tap := { s.tap with
          instr := .samplePreload, captured := captureCells s cells, update := shifted, pinsTaken := false } })
      ∧ (workRuns s = false →
        exec .extest s = .next { s with tap := { s.tap with instr := .extest, pinsTaken := true } }
        ∧ exec .clamp s = .next { s with tap := { s.tap with instr := .clamp, pinsTaken := true } }
        ∧ exec .highz s = .next { s with tap := { s.tap with instr := .highz, pinsTaken := true } })
      ∧ (workRuns s = true →
        exec .extest s = .fault (.notDefined 449) ∧ exec .clamp s = .fault (.notDefined 449)
        ∧ exec .highz s = .fault (.notDefined 449)))
    ∧ (s.tap.inReset = true → exec .bypass s = .next s ∧ exec .idcode s = .next s ∧ exec .extest s = .next s)

/-- SET_POWER_STATE (R225): to A0 in A0 or A1 OK at once; to Q1, Q2 or Off the entry begins and the command runs; to A0 in Q1 or
Q2 the return begins; a second one during an entry and a reserved target are INVALID. -/
def Claims.SetPowerStateBeginsEntryOrReturn : Prop :=
  ∀ (s : State) (slot seq : Nat) (o : OutCmd), admitting s slot seq 0x86 = some o → reservedOk o.word = true →
    (targetState (aState o.word) = none ∨ s.power.entry ≠ none →
      ∃ t, exec (.setPowerState slot seq) s = .next t ∧ Finished t slot seq { status := .invalid } ∧ SameButCmd s t slot seq)
    ∧ (s.power.entry = none → running s = true →
      (targetState (aState o.word) = some .a0 →
        ∃ t, exec (.setPowerState slot seq) s = .next t ∧ Finished t slot seq { status := .ok } ∧ SameButCmd s t slot seq)
      ∧ (∀ p, targetState (aState o.word) = some p → p ≠ .a0 →
        ∃ t, exec (.setPowerState slot seq) s = .next t ∧ outCmd t slot seq = some { o with stage := .running }
          ∧ t.power = { s.power with entry := some { target := p, slot := slot, seq := seq, since := s.time.tick } }
          ∧ t = { s with chans := t.chans, power := t.power }))
    ∧ (s.power.entry = none → quiescent s = true → s.power.returning = none → targetState (aState o.word) = some .a0 →
      ∃ t, exec (.setPowerState slot seq) s = .next t ∧ outCmd t slot seq = some { o with stage := .running }
        ∧ t.power = { s.power with returning := some (some (slot, seq)) } ∧ t = { s with chans := t.chans, power := t.power })

/-- The course of an entry (R225, R414): the commit point comes when nothing else is outstanding and no doorbell has come for
ENTRY_IDLE_TIME; ENTRY_DRAIN_LIMIT after its start an entry without commit is abandoned and its command ABORTED; a
committed entry at rest ends in its state and its command OK; that of Off stops the main rails once the completion entry is
written, and waits until it can be. POWER_RETURN_COMPLETE (R415): the state is A0, or A1 while the
cap is engaged, and the command that asked finishes with OK. -/
def Claims.EntriesCommitAbandonOrComplete : Prop :=
  (∀ (s : State) (e : EntryRec), s.power.entry = some e → e.committed = false →
    (onlyEntryLeft s e = true → s.power.idleSince + ctl s 0x400006 ≤ s.time.tick →
      ∃ t, exec .powerCommitPoint s = .next t ∧ t.power = { s.power with entry := some { e with committed := true, commitAt := s.time.tick } }
        ∧ (∀ i x, indexAt t i = some x → x.luthier = .quiet ∨ x.luthier = .drop) ∧ t = { s with indexes := t.indexes, power := t.power })
    ∧ (s.time.tick < s.power.idleSince + ctl s 0x400006 → exec .powerCommitPoint s = .next s)
    ∧ (∀ o, e.since + ctl s 0x400007 * 1000000 ≤ s.time.tick → outCmd s e.slot e.seq = some o →
      ∃ t, exec .powerEntryAbandon s = .next t ∧ t.power = { s.power with entry := none }
        ∧ Finished t e.slot e.seq { status := .aborted } ∧ t = { s with chans := t.chans, indexes := t.indexes, power := t.power }))
  ∧ (∀ (s : State) (e : EntryRec) (o : OutCmd), s.power.entry = some e → e.committed = true → luthierDrained s = true →
    atRest s = true → (e.target = .q1 ∨ e.target = .q2) → outCmd s e.slot e.seq = some o → running s = true →
    ∀ lag, ∃ t, exec (.powerEntryComplete lag) s = .next t ∧ t.power.state = e.target ∧ t.power.entry = none
      ∧ t.power.reachedAt = some s.time.tick ∧ Finished t e.slot e.seq { status := .ok } ∧ t.log.next = s.log.next + 1)
  ∧ (∀ (s : State) (e : EntryRec) (lag : Nat), s.power.entry = some e → e.committed = true → luthierDrained s = true →
    atRest s = true → e.target = .off →
    (∀ u, completeNow { s with power := { s.power with entry := none } } e.slot e.seq lag = some u →
      ∃ t, exec (.powerEntryComplete lag) s = .next t ∧ t.power.state = .off ∧ t.power.lastOff = 2 ∧ t.power.pwrgd = false
        ∧ t.writes = u.writes ∧ t.chans = [] ∧ t.indexes = [])
    ∧ (completeNow { s with power := { s.power with entry := none } } e.slot e.seq lag = none →
      exec (.powerEntryComplete lag) s = .next s))
  ∧ (∀ (s : State) (slot seq : Nat) (o : OutCmd), quiescent s = true → s.power.returning = some (some (slot, seq)) →
    outCmd s slot seq = some o →
    ∃ t, exec .powerReturnComplete s = .next t ∧ t.power.state = (if s.power.capOn then .a1 else .a0) ∧ t.power.returning = none
      ∧ Finished t slot seq { status := .ok } ∧ (∀ i x, indexAt t i = some x → x.luthier ≠ .quiet))

/-- SET_POWER_STATE, entry, commit, abandonment, completion and return. -/
def Obligations.PowerStateCommandsEnterAndReturn : Prop :=
  Claims.SetPowerStateBeginsEntryOrReturn ∧ Claims.EntriesCommitAbandonOrComplete

/-- Power samples and the cap (R416, R419, R420): a sample enters the mean; above 1,750 W every running die goes to d = 4 and m to
1; every 100 µs a step above the cap lowers d of the running dies by 1 under policy 0, or m under policy 1, and under policy 2 m
while search work takes more than ARB_SEARCH_SHARE of what the dies and stacks draw, else d (at the exact share d: model, log
entry 75), as long as the first to go has room, and one that is not above the cap resets the count of such steps; a fast sample in
the cycle of such a step leaves every level at its floor (R439); after 10 ms below the limit less 30 W one level rises by 1 every
1 ms, m first but under policy 1, and with all at 64 the state is A0 and the cap released. -/
def Claims.CapLoopLowersAndRaises : Prop :=
  (∀ (s : State) (w : Nat), s.pins.aux = true →
    ∃ t, exec (.powerSample w) s = .next t ∧ t.power.samples = (w :: s.power.samples).take 100
      ∧ (1750 < w → running s = true → t.power.thr.meter = 1
          ∧ t.power.thr.duty = (runningDies s).foldl (fun l d => modAt l d (fun _ => 4)) s.power.thr.duty)
      ∧ (1750 < w → running s = true → s.power.lastStep = some s.time.tick → s.power.overSteps ≠ 0 → t.power.capUnmet = true)
      ∧ (w ≤ 1750 → t.power.thr = s.power.thr) ∧ t = { s with power := t.power, log := t.log })
  ∧ (∀ (s : State) (dies packs : List Draw), running s = true → (∀ l, s.power.lastStep = some l → l + 100000 ≤ s.time.tick) →
    (avgAbove s (capInForce s) = false →
      exec (.capLoopStep dies packs) s = .next { s with power := { s.power with lastStep := some s.time.tick, overSteps := 0 } })
    ∧ (avgAbove s (capInForce s) = true → canLowerDuty s = false → canLowerMeter s = false → s.power.capUnmet = false →
      ∃ t, exec (.capLoopStep dies packs) s = .next t ∧ t.power.capUnmet = true ∧ t.power.thr = s.power.thr
        ∧ t.power.overSteps = s.power.overSteps + 1 ∧ t.log.next = s.log.next + 1 ∧ t = { s with power := t.power, log := t.log })
    ∧ (avgAbove s (capInForce s) = true → s.power.pumpLost = false → s.power.overSteps < 40 → s.power.capOn = true →
      ((ctl s 0x201001 = 0 ∨ (ctl s 0x201001 = 2
          ∧ 100 * searchPower (dies ++ packs) ≤ (ctl s 0x201002 : Rat) * (densePower (dies ++ packs) + searchPower (dies ++ packs)))) → canLowerDuty s = true →
        ∃ t, exec (.capLoopStep dies packs) s = .next t
        ∧ t.power = { s.power with lastStep := some s.time.tick, overSteps := s.power.overSteps + 1, thr := t.power.thr,
                                   dieClk := t.power.dieClk, dieClkAt := s.time.tick }
        ∧ t.power.thr.meter = s.power.thr.meter
        ∧ t.power.thr.duty = (runningDies s).foldl (fun l d => modAt l d (fun v => max 4 (v - 1))) s.power.thr.duty
        ∧ t = { s with power := t.power })
      ∧ ((ctl s 0x201001 = 1 ∨ (ctl s 0x201001 = 2
          ∧ (ctl s 0x201002 : Rat) * (densePower (dies ++ packs) + searchPower (dies ++ packs)) < 100 * searchPower (dies ++ packs))) →
        canLowerMeter s = true → ∃ t, exec (.capLoopStep dies packs) s = .next t
        ∧ t.power.thr.meter = s.power.thr.meter - 1 ∧ t.power.thr.duty = s.power.thr.duty
        ∧ t.power.overSteps = s.power.overSteps + 1 ∧ t = { s with power := t.power })))
  ∧ (∀ (s : State) (dies packs : List Draw) (l : Nat), running s = true → s.power.lastStep = some l → s.time.tick < l + 100000 →
    exec (.capLoopStep dies packs) s = .next s)
  ∧ (∀ (s : State) (b : Nat), s.power.state = .a1 → s.power.belowSince = some b → b + 10000000 ≤ s.time.tick →
    (∀ l, s.power.lastRaise = some l → l + 1000000 ≤ s.time.tick) → s.power.pumpLost = false →
    ∃ t, exec .capRaise s = .next t ∧ t.power.lastRaise = some s.time.tick ∧ t = { s with power := t.power, log := t.log }
      ∧ (levelsFull s.power.thr = true → t.power.thr = s.power.thr)
      ∧ (levelsFull s.power.thr = false → ctl s 0x201001 ≠ 1 → s.power.thr.meter < 64 →
          t.power.thr = { s.power.thr with meter := s.power.thr.meter + 1 })
      ∧ (levelsFull s.power.thr = false → ctl s 0x201001 = 1 → s.power.thr.duty.any (fun d => decide (d < 64)) = false →
          t.power.thr = { s.power.thr with meter := s.power.thr.meter + 1 })
      ∧ (levelsFull s.power.thr = false → ((ctl s 0x201001 ≠ 1 ∧ 64 ≤ s.power.thr.meter)
            ∨ (ctl s 0x201001 = 1 ∧ s.power.thr.duty.any (fun d => decide (d < 64)) = true)) →
          t.power.thr = { s.power.thr with
            duty := (List.range 8).foldl (fun l d => modAt l d (fun v => min 64 (v + 1))) s.power.thr.duty })
      ∧ (levelsFull t.power.thr = true → t.power.state = .a0 ∧ t.power.capOn = false)
      ∧ (levelsFull t.power.thr = false → t.power.state = .a1 ∧ t.power.capOn = s.power.capOn ∧ t.log = s.log))

/-- Thermal throttling and the coolant signal (R421, R423, R465): with a sensor above its limit the limit in force falls by 50 W, not
below 1,000 W, whenever the main rails are on; a reading is held; a level of PUMP_OK is taken once it is stable for 4 ACLK cycles; PUMP_OK low for more than 100 ms sets every d to 4 and m to SEARCH_FLOOR, and high for 1 s it
releases them. -/
def Claims.ThermalAndPumpLimits : Prop :=
  (∀ (s : State) (n : Nat), railsOn s = true → (∀ l, s.power.lastTherm = some l → l + 10000000 ≤ s.time.tick) →
    hotSensor s = some n →
    ∃ t, exec .thermalThrottle s = .next t ∧ t.power.limit = max 1000 (capInForce s - 50) ∧ t.power.throttling = true
      ∧ t.power.lastTherm = some s.time.tick ∧ t.power.thr = s.power.thr
      ∧ t.log.next = (if s.power.throttling then s.log.next else s.log.next + 1) ∧ t = { s with power := t.power, log := t.log })
  ∧ (∀ (s : State) (n : Nat) (v : Int), n < s.power.temps.length → s.power.state ≠ .tripped →
    ∃ t, exec (.temperatureChange n v) s = .next t ∧ t.power.temps = s.power.temps.set n v ∧ t.power.state = s.power.state
      ∧ t = { s with power := t.power })
  ∧ (∀ (s : State) (stable : Nat), s.tap.pinsTaken = false →
    (s.pins.pumpOk = true → takesLevel s stable s.pins.pumpAt = true →
      exec (.pumpOkChange false stable) s = .next { s with pins := { s.pins with
        pumpOk := false, pumpLowSince := some s.time.tick, pumpHighSince := none, pumpAt := s.time.tick } })
    ∧ (s.pins.pumpOk = false → takesLevel s stable s.pins.pumpAt = true →
      exec (.pumpOkChange true stable) s = .next { s with pins := { s.pins with
        pumpOk := true, pumpLowSince := none, pumpHighSince := some s.time.tick, pumpAt := s.time.tick } })
    ∧ (∀ level, s.pins.aux = true → stable < 4 → exec (.pumpOkChange level stable) s = .next s))
  ∧ (∀ (s : State) (u : Nat), ctl s 0x20000B = 1 → s.pins.pumpOk = false → s.pins.pumpLowSince = some u → s.power.pumpLost = false →
    railsOn s = true →
    (u + 100000000 < s.time.tick →
      ∃ t, exec .pumpLost s = .next t ∧ t.power.pumpLost = true ∧ t.power.thr.meter = ctl s 0x200006
        ∧ t.power.thr.duty = (List.range 8).foldl (fun l d => modAt l d (fun _ => 4)) s.power.thr.duty
        ∧ t.log.next = s.log.next + 1 ∧ t = { s with power := t.power, log := t.log })
    ∧ (s.time.tick ≤ u + 100000000 → exec .pumpLost s = .next s))
  ∧ (∀ (s : State) (u : Nat), s.power.pumpLost = true → s.pins.pumpOk = true → s.pins.pumpHighSince = some u →
    ctl s 0x20000B ≠ 0 →
    (u + 1000000000 ≤ s.time.tick → s.power.capOn = false →
      ∃ t, exec .pumpRestored s = .next t ∧ t.power.pumpLost = false ∧ t.power.thr.meter = 64
        ∧ t.power.thr.duty = (List.range 8).foldl (fun l d => modAt l d (fun _ => 64)) s.power.thr.duty ∧ t.log.next = s.log.next + 1
        ∧ t = { s with power := t.power, log := t.log })
    ∧ (s.time.tick < u + 1000000000 → exec .pumpRestored s = .next s))

/-- The cap loop, the fast limit, thermal throttling and the coolant signal. -/
def Obligations.PowerAndThermalLimitsAct : Prop :=
  Claims.CapLoopLowersAndRaises ∧ Claims.ThermalAndPumpLimits

/-- Trips (R422, R424): a sensor at its trip limit, or an over-current, stops the main rails: PWR_STATE is 7 (TRIPPED), PWRGD_OUT is
released, the cause is the last-off cause, an entry stands in FL1, and no channel, index, query or run is left; below the
limit nothing happens. A thermal trip in the ACLK cycle of a main stop or a failed start comes first (R439, R475). -/
def Obligations.TripsStopTheMainRails : Prop :=
  (∀ (s : State), railsOn s = true →
    (∀ n l, tripLimit s n = some l →
      (l ≤ tempOf s n →
        ∃ t, exec (.thermalTrip n) s = .next t ∧ t.power.state = .tripped ∧ t.power.trip = some .thermal ∧ t.power.lastOff = 4
          ∧ t.power.pwrgd = false ∧ t.chans = [] ∧ t.indexes = [] ∧ t.queries = [] ∧ t.dense.runs = []
          ∧ (∃ e, e ∈ t.log.fatal ∧ e.code = 0x0702 ∧ e.severity = 3))
      ∧ (tempOf s n < l → exec (.thermalTrip n) s = .next s))
    ∧ (∀ mA, 170000 < mA →
      ∃ t, exec (.overcurrent mA) s = .next t ∧ t.power.state = .tripped ∧ t.power.trip = some .overCurrent
        ∧ t.power.lastOff = 3 ∧ t.power.pwrgd = false ∧ t.chans = [] ∧ t.indexes = [] ∧ t.queries = [] ∧ t.dense.runs = []
        ∧ (∃ e, e ∈ t.log.fatal ∧ e.code = 0x0701 ∧ e.severity = 3))
    ∧ (∀ mA, mA ≤ 170000 → exec (.overcurrent mA) s = .next s))
  ∧ (∀ (s : State) (n : Nat) (l : Int), (s.power.state = .off ∨ s.power.state = .failed) → s.power.stopAt = some s.time.tick →
    tripLimit s n = some l → l ≤ tempOf s n →
    ∃ t, exec (.thermalTrip n) s = .next t ∧ t.power.state = .tripped ∧ t.power.trip = some .thermal ∧ t.power.lastOff = 4
      ∧ (∃ e, e ∈ t.log.fatal ∧ e.code = 0x0702 ∧ e.severity = 3))

/-- AUX_POWER_ON and AUX_POWER_LOSS (R425, R430): nothing volatile is left, and what FL0, FL1 and the fuses hold stands: the
two images, the preferred slot, the security version, the fence list, the copies of the saved set that no SAVE was writing,
and the kept FATAL events. The levels at the connector stand too, TRST_N among them. What a loss leaves is not defined (R475): that
it leaves this is the model's choice (log entry 78), as it is that the asked clearing of the fence list stands (log entry 79).
STRAP_SAMPLE (R429): once, 2 ms after auxiliary power-on, the module takes its straps. -/
def Claims.AuxiliaryPowerComesAndGoes : Prop :=
  ∀ (s : State) (modId : Nat) (split : Bool),
    (s.pins.aux = false →
      ∃ t, exec (.auxPowerOn modId split) s = .next t ∧ t.pins.aux = true ∧ t.pins.sampled = false
        ∧ t.pins.strapModId = modId ∧ t.pins.strapSplit = split ∧ t.time = {} ∧ t.power = { lastOff := s.power.lastOff }
        ∧ t.tap = { inReset := s.tap.inReset } ∧ t.chans = [] ∧ t.indexes = [] ∧ t.queries = [] ∧ t.dense = {} ∧ t.fabric = {} ∧ t.ctr = []
        ∧ t.dict.ready = false ∧ t.dict.vals = [] ∧ t.log = { fatal := s.log.fatal }
        ∧ t.integ = { fenceList := s.integ.fenceList, clearNext := s.integ.clearNext }
        ∧ t.sec.slotA = s.sec.slotA ∧ t.sec.slotB = s.sec.slotB ∧ t.sec.secVersion = s.sec.secVersion
        ∧ t.sec.identity = none ∧ (s.dict.saving = none → t.dict.copyA = s.dict.copyA ∧ t.dict.copyB = s.dict.copyB))
    ∧ (s.pins.aux = true →
      ∃ t, exec .auxPowerLoss s = .next t ∧ t.pins.aux = false ∧ t.power.state = .off ∧ t.dict.ready = false
        ∧ t.chans = [] ∧ t.indexes = [] ∧ t.ctr = [] ∧ t.log = { fatal := s.log.fatal } ∧ t.sec.slotA = s.sec.slotA
        ∧ t.sec.slotB = s.sec.slotB ∧ t.sec.secVersion = s.sec.secVersion ∧ t.integ.fenceList = s.integ.fenceList
        ∧ (s.dict.saving = none → t.dict.copyA = s.dict.copyA ∧ t.dict.copyB = s.dict.copyB))
    ∧ (s.pins.aux = true → s.pins.sampled = false →
      (2000000 ≤ s.time.tick →
        exec .strapSample s = .next { s with
          pins := { s.pins with sampled := true, modId := s.pins.strapModId, split := s.pins.strapSplit },
          power := { s.power with step := 1 } })
      ∧ (s.time.tick < 2000000 → exec .strapSample s = .next s))

/-- AUX_STARTUP_DONE (R430, R441): with the straps sampled, the slot of the higher version among those that pass the check (A
where they are equal) runs; DICT_READY reads 1 and STARTUP_STEP 4; the security version never falls; with PWR_EN asserted in
Off, main start begins. With no slot that passes, the recovery service runs, with every entry at its Default, FATAL is set
and the module stays as it is; that STARTUP_STEP then reads 2 is the model's choice (log entry 79). The identity key that is held
stands, else it is the one derived from the fused secret (R447). -/
def Claims.StartupChoosesAnImage : Prop :=
  ∀ s : State, s.pins.aux = true → s.pins.sampled = true → s.dict.ready = false →
    (∀ n, bootSlot s = some n →
      ∃ t, exec .auxStartupDone s = .next t ∧ t.dict.ready = true ∧ t.sec.run = n ∧ t.power.step = 4
        ∧ slotPasses s (imageOf s n) = true
        ∧ (∀ m, m < 2 → slotPasses s (imageOf s m) = true → (imageOf s m).version ≤ (imageOf s n).version)
        ∧ s.sec.secVersion ≤ t.sec.secVersion ∧ (imageOf s n).sec ≤ t.sec.secVersion
        ∧ t.sec.identity = some (s.sec.identity.getD .derived)
        ∧ t.power.state = (if s.power.state = .off ∧ s.sec.recovery = false ∧ s.pins.pwrEn = true then .starting
                           else s.power.state)
        ∧ (loadedCopy s.dict = none → t.dict.vals = []))
    ∧ (bootSlot s = none →
      ∃ t, exec .auxStartupDone s = .next t ∧ t.dict.ready = true ∧ t.dict.vals = [] ∧ t.sec.recovery = true
        ∧ t.power = { s.power with step := 2 } ∧ t.log.isFatal = true
        ∧ t = { s with dict := t.dict, sec := t.sec, power := t.power, log := t.log })

/-- Auxiliary power, straps, and the choice of the firmware image. -/
def Obligations.AuxiliaryPowerAndStartUp : Prop :=
  Claims.AuxiliaryPowerComesAndGoes ∧ Claims.StartupChoosesAnImage

/-- Main start (R431-R433). MAIN_START_STEP_DONE counts the step in STARTUP_STEP; step 5 marks every stack and far-tier unit
good, step 7 makes the far tier's ring ready with the early entries in it, and step 8 asserts PWRGD_OUT, enters A0 and lets
the enabled fabric ports train. Where PERST_N is not asserted at step 8, the manual defines nothing, and the model stops with a
named fault (its choice, log entry 80).
STARTUP_FAILED halts in FAILED with LAST_OFF_CAUSE 5, unless a sensor has reached its trip limit, which comes first (R439). -/
def Claims.MainStartGoesStepByStep : Prop :=
  ∀ (s : State) (failed : List Nat), s.power.state = .starting →
    (∀ n, n = s.power.mainStep + 1 → n ≠ 8 →
      ∃ t, exec (.mainStartStepDone failed) s = .next t ∧ t.power.mainStep = n ∧ t.power.step = 10 + n
        ∧ t.power.state = .starting
        ∧ (n ∈ [1, 2, 4] → t = { s with power := { s.power with mainStep := n, step := 10 + n } })
        ∧ (n = 5 → t.power.stackOk = 0xFFFF ∧ t.power.farOk = 0xFFFFFFFF)
        ∧ (n = 6 → t.integ.dies = (List.range 8).map (fun d => mapCores d s.integ.fenceList failed))
        ∧ (n = 7 → t.log.ring = s.log.early ++ s.log.ring ∧ t.log.early = [] ∧ t.power.farUp = true ∧ t.sec.farKey ≠ none)
        ∧ t = { s with power := t.power, sec := t.sec, integ := t.integ, log := t.log })
    ∧ (s.power.mainStep = 7 → s.pins.perst = true →
      ∃ t, exec (.mainStartStepDone failed) s = .next t ∧ t.power.state = .a0 ∧ t.power.pwrgd = true
        ∧ t.power.pgdSince = some s.time.tick ∧ t.power.step = 18
        ∧ (∀ i, i < 8 → i < s.fabric.ports.length → ctlObj s 0x801101 i = 1 → (fabPort t i).state = .training)
        ∧ (∀ i, i < 8 → ctlObj s 0x801101 i ≠ 1 → fabPort t i = fabPort s i)
        ∧ t = { s with power := t.power, fabric := t.fabric, log := t.log })
    ∧ (s.power.mainStep = 7 → s.pins.perst = false → exec (.mainStartStepDone failed) s = .fault (.notDefined 433))
    ∧ (∀ unit stackOk farOk, tripSensor s = none →
      ∃ t, exec (.startupFailed unit stackOk farOk) s = .next t ∧ t.power.state = .failed ∧ t.power.lastOff = 5
        ∧ t.power.stackOk = stackOk ∧ t.power.farOk = farOk ∧ t.power.pwrgd = false ∧ t.chans = [] ∧ t.log.next > s.log.next)

/-- PWR_EN (R415, R425, R432, R465, R470): a level that is stable for fewer than 4 ACLK cycles has no effect. Rising in Off, 10 ms
after it fell at the earliest, it starts the module: FATAL is cleared, counters restart from 0, the saved set is loaded; after a
shorter low it only shows its level (DEDUCED, log entry 77), as it does anywhere else. Falling with the rails on it stops the
module, with LAST_OFF_CAUSE 1, or as a thermal trip where a sensor has reached its limit (R475); falling in FAILED it leads to
Off; falling in the cycle in which an entry to Off ended, it comes first (R439): the cause is 1 and the completion entry is not
written. -/
def Claims.PwrEnStartsAndStops : Prop :=
  ∀ (s : State) (stable : Nat), s.tap.pinsTaken = false → s.pins.aux = true →
    (stable < 4 → exec (.pwrEnRise stable) s = .next s ∧ exec (.pwrEnFall stable) s = .next s)
    ∧ (takesLevel s stable s.pins.pwrEnAt = true → s.pins.pwrEn = false →
      (s.power.state = .off → s.dict.ready = true → s.sec.recovery = false →
        (∀ x, s.pins.pwrEnLowSince = some x → x + 10000000 ≤ s.time.tick) →
        ∃ t, exec (.pwrEnRise stable) s = .next t ∧ t.power.state = .starting ∧ t.power.mainStep = 0 ∧ t.log.isFatal = false ∧ t.ctr = []
          ∧ t.pins = { s.pins with pwrEn := true, pwrEnLowSince := none, pwrEnAt := s.time.tick } ∧ (s.integ.clearNext = true → t.integ.fenceList = [])
          ∧ (s.integ.clearNext = false → t.integ.fenceList = s.integ.fenceList)
          ∧ t = { s with pins := t.pins, power := t.power, time := t.time, log := t.log, ctr := [], integ := t.integ,
                         dict := t.dict, sec := t.sec, kernels := t.kernels })
      ∧ (s.power.state ≠ .off ∨ s.dict.ready = false ∨ s.sec.recovery = true
          ∨ (∃ x, s.pins.pwrEnLowSince = some x ∧ s.time.tick < x + 10000000) →
        exec (.pwrEnRise stable) s = .next { s with pins := { s.pins with
          pwrEn := true, pwrEnLowSince := none, pwrEnAt := s.time.tick } }))
    ∧ (takesLevel s stable s.pins.pwrEnAt = true → s.pins.pwrEn = true →
      (railsOn s = true → (∃ n, tripSensor s = some n) →
        ∃ t, exec (.pwrEnFall stable) s = .next t ∧ t.power.state = .tripped ∧ t.power.lastOff = 4 ∧ t.chans = []
          ∧ t.pins = { s.pins with pwrEn := false, pwrEnLowSince := some s.time.tick, pwrEnAt := s.time.tick })
      ∧ (railsOn s = true → tripSensor s = none →
        ∃ t, exec (.pwrEnFall stable) s = .next t ∧ t.power.state = .off ∧ t.power.lastOff = 1 ∧ t.power.pwrgd = false
          ∧ t.pins = { s.pins with pwrEn := false, pwrEnLowSince := some s.time.tick, pwrEnAt := s.time.tick }
          ∧ t.portA = { held := s.pins.perst } ∧ t.portB = { held := s.pins.perst } ∧ t.chans = [] ∧ t.rlocks = []
          ∧ t.pinSlots = [] ∧ t.indexes = [] ∧ t.queries = [] ∧ t.bridges = [] ∧ t.strums = [] ∧ t.dense.runs = []
          ∧ t.dense.tabs = [] ∧ t.fabric = {} ∧ t.log.ring = [] ∧ t.dict = s.dict ∧ t.ctr = s.ctr ∧ t.kernels = s.kernels)
      ∧ (∀ d, s.power.state = .off → s.power.offDone = some d → d.tick = s.time.tick → d.writes ≤ s.writes.length →
        ∃ t, exec (.pwrEnFall stable) s = .next t ∧ t.power.state = .off ∧ t.power.lastOff = 1 ∧ t.ctr = d.ctr
          ∧ t.writes = s.writes.drop (s.writes.length - d.writes) ∧ t.writes.length = d.writes)
      ∧ (s.power.state = .failed → ∃ t, exec (.pwrEnFall stable) s = .next t ∧ t.power.state = .off ∧ t.pins.pwrEn = false))

/-- Main start step by step; PWR_EN starts and stops the module. -/
def Obligations.MainStartAndPwrEn : Prop :=
  Claims.MainStartGoesStepByStep ∧ Claims.PwrEnStartsAndStops

/-- PERST_N and host links (R426, R427, R433, R465). A level that is stable for fewer than 4 ACLK cycles has no effect. PERST_N
asserted with the rails on resets both ports and holds them down; while FATAL is set it restarts the module instead. Released
100 ms after PWRGD_OUT or later it lets the links train, and earlier the manual defines nothing: the model stops with a named fault
(its choice, log entry 80). LINK_UP: the link of a released port is up, READY with it unless IDE is required. PORT_RESET: every slot
of the port is FREE, its link is down, and it is neither enabled nor ready. -/
def Obligations.PortsAreResetAndTrain : Prop :=
  (∀ (s : State) (stable : Nat), s.tap.pinsTaken = false → s.pins.aux = true → s.sec.dbg ≠ .erasing →
    (stable < 4 → exec (.perstNAssert stable) s = .next s ∧ exec (.perstNRelease stable) s = .next s)
    ∧ (takesLevel s stable s.pins.perstAt = true → s.pins.perst = false →
      (s.log.isFatal = false → railsOn s = true →
        ∃ t, exec (.perstNAssert stable) s = .next t ∧ t.pins.perst = true ∧ t.portA.held = true ∧ t.portA.linkUp = false
          ∧ t.portA.enabled = false ∧ (twoPorts s = true → t.portB.held = true ∧ t.portB.linkUp = false)
          ∧ (∀ slot, portOf s slot = .a → (chan t slot).state = .free))
      ∧ (s.log.isFatal = true →
        ∃ t, exec (.perstNAssert stable) s = .next t ∧ t.pins.perst = true ∧ t.dict.ready = false ∧ t.chans = [] ∧ t.log.isFatal = false
          ∧ t.log.next = 1))
    ∧ (takesLevel s stable s.pins.perstAt = true → s.pins.perst = true →
      (∀ x, s.power.pgdSince = some x → x + 100000000 ≤ s.time.tick →
        ∃ t, exec (.perstNRelease stable) s = .next t
          ∧ t = { s with pins := { s.pins with perst := false, perstAt := s.time.tick }, portA := { s.portA with held := false },
                         portB := { s.portB with held := false } })
      ∧ (∀ x, s.power.pgdSince = some x → s.time.tick < x + 100000000 → exec (.perstNRelease stable) s = .fault (.notDefined 433))))
  ∧ (∀ (s : State) (p : Port), (running s = true ∨ quiescent s = true) → (p = .b → twoPorts s = true) →
    ((port s p).held = false → (port s p).linkUp = false →
      exec (.linkUp p) s = .next (setPort s p { port s p with
        linkUp := true, ready := ctl s 0xA00020 == 0 || (port s p).ideSecure }))
    ∧ (∀ cause, (port s p).linkUp = true →
      ∃ t, exec (.portReset p cause) s = .next t ∧ (port t p).linkUp = false ∧ (port t p).ready = false
        ∧ (port t p).enabled = false ∧ (port t p).held = false
        ∧ (∀ slot, portOf s slot = p → (chan t slot).state = .free)))

/-- What three writes of the dictionary do to the whole module. POWER_ON (R415), where main start may begin, begins it.
RESET_REQUEST and DBG_CLOSE (R425, R454) restart the module once their message is answered: the management controller is
not ready, every channel and index is gone, debug access is closed, and the log begins again with WARM_RESTART as its only
entry. Images, straps and the fence list stand. That the identity key stands as well, and TRIPPED or FAILED with its
LAST_OFF_CAUSE, and that the cause is else 6, is the model's choice (log entry 78). -/
def Obligations.RestartsFollowTheAnswer : Prop :=
  ∀ (s : State) (path v : Nat),
    (WriteOk s path 0x200008 v →
      ∃ t, exec (.powerOn path v) s = .next t ∧ t.power.state = .starting ∧ t.power.mainStep = 0 ∧ t.log.isFatal = false
        ∧ t.ctr = []
        ∧ t = { s with power := t.power, time := t.time, log := t.log, ctr := [], integ := t.integ, dict := t.dict, sec := t.sec,
                       kernels := t.kernels })
    ∧ (∀ c arg, (c, arg) ∈ [(Instr.resetRequest path v, 2), (Instr.dbgClose path v, Config.debugCloseArg)] →
      (c = .resetRequest path v → WriteOk s path 0x200009 v) → (c = .dbgClose path v → WriteOk s path 0xA00036 v) →
      ∃ t, exec c s = .next t ∧ t.dict.ready = false ∧ t.dict.restart = none ∧ t.power.pwrgd = false ∧ t.chans = []
        ∧ t.indexes = [] ∧ t.queries = [] ∧ t.fabric = {} ∧ t.sec.dbg = .closed ∧ t.sec.recovery = false
        ∧ (s.power.state ≠ .tripped → s.power.state ≠ .failed → t.power.state = .off ∧ t.power.lastOff = 6)
        ∧ ((s.power.state = .tripped ∨ s.power.state = .failed) → t.power.state = s.power.state ∧ t.power.lastOff = s.power.lastOff)
        ∧ t.log.next = 1 ∧ t.log.ring = [] ∧ t.log.early.map (fun e => (e.code, e.args)) = [(0x070C, [arg])]
        ∧ t.pins = s.pins ∧ t.integ.fenceList = s.integ.fenceList ∧ t.sec.slotA = s.sec.slotA ∧ t.sec.slotB = s.sec.slotB
        ∧ t.sec.identity = s.sec.identity)

/-- Port states (R338). PORT_TRAINING_DONE: the port is UP with FSEQ 0 each way and full credits. PORT_TRAINING_TIMEOUT: after
500 ms training restarts, and an event says so. FEC_LOCK_LOST: the queued and unacknowledged frames are discarded and
counted in FAB_PORT_DROPS, an event is logged, and the port trains again. PORT_ENABLE 1 lets a DISABLED port train, 0
disables any port as the loss of lock does. -/
def Claims.FabricPortsComeUpAndGoDown : Prop :=
  (∀ (s : State) (i : Nat),
    ((fabPort s i).state = .training →
      (∃ t, exec (.portTrainingDone i) s = .next t ∧ (fabPort t i).state = .up ∧ (fabPort t i).txSeq = 0 ∧ (fabPort t i).rxSeq = 0
        ∧ (fabPort t i).unacked = [] ∧ (∀ c, c < 8 → creditOf (fabPort t i) c = 512)
        ∧ (∀ j, j ≠ i → fabPort t j = fabPort s j) ∧ t = { s with fabric := t.fabric })
      ∧ ((fabPort s i).since + 500000000 ≤ s.time.tick →
        ∃ t, exec (.portTrainingTimeout i) s = .next t ∧ fabPort t i = { fabPort s i with since := s.time.tick }
          ∧ (∀ j, j ≠ i → fabPort t j = fabPort s j) ∧ t.log.next = s.log.next + 1 ∧ t = { s with fabric := t.fabric, log := t.log })
      ∧ (s.time.tick < (fabPort s i).since + 500000000 → exec (.portTrainingTimeout i) s = .next s))
    ∧ ((fabPort s i).state = .up →
      ∃ t, exec (.fecLockLost i 1) s = .next t ∧ (fabPort t i).state = .training ∧ (fabPort t i).queue = []
        ∧ (fabPort t i).unacked = []
        ∧ counter t 0x74 = min (counter s 0x74 + (fabPort s i).queue.length + (fabPort s i).unacked.length) 0xFFFFFFFF
        ∧ s.log.next < t.log.next ∧ (∀ j, j ≠ i → SamePort (fabPort s j) (fabPort t j))
        ∧ t = { s with fabric := t.fabric, ctr := t.ctr, log := t.log, time := t.time }))
  ∧ (∀ (s : State) (path i v : Nat) (e : DictEnt), entryAt 0x801101 = some e →
    objOf (dropStage (usePath s path) path) path [] e = some i → i < s.fabric.ports.length → WriteOk s path 0x801101 v →
    (v = 1 → (fabPort s i).state = .disabled → railsOn s = true →
      ∃ t, exec (.portEnable path v) s = .next t ∧ (fabPort t i).state = .training ∧ ctlObj t 0x801101 i = 1
        ∧ (∀ j, j ≠ i → fabPort t j = fabPort s j) ∧ t = { s with dict := t.dict, fabric := t.fabric })
    ∧ (v = 0 →
      ∃ t, exec (.portEnable path v) s = .next t ∧ (fabPort t i).state = .disabled ∧ (fabPort t i).queue = []
        ∧ (fabPort t i).unacked = [] ∧ ctlObj t 0x801101 i = 0 ∧ (∀ j, j ≠ i → SamePort (fabPort s j) (fabPort t j))
        ∧ t = { s with dict := t.dict, fabric := t.fabric, ctr := t.ctr, log := t.log, time := t.time }))

/-- Link-control flits (R335-R337) at an UP port. Every one tells the peer's module and credit totals. ACK retires the frames
up to the named one; NAK sends the named one and those after it again, with RPL one higher, and counts them; CREDIT lets the
waiting frame go that its total now covers; one with a parity error is discarded. LINK_CONTROL_SEND sends one with the
port's own totals. -/
def Claims.LinkControlIsTakenAndSent : Prop :=
  ∀ (s : State) (i : Nat) (l : LinkControl), (fabPort s i).state = .up →
    (l.parityOk = false → exec (.ack i l) s = .next s ∧ exec (.nak i l) s = .next s ∧ exec (.credit i l) s = .next s)
    ∧ (l.parityOk = true →
      (∀ before u rest, (fabPort s i).unacked = before ++ u :: rest → u.fseq = l.aseq → (∀ b, b ∈ before → b.fseq ≠ l.aseq) →
        (∃ t sent, exec (.ack i l) s = .next t ∧ (fabPort t i).unacked = rest ++ sent ∧ (fabPort t i).peer = l.peerId
          ∧ (fabPort t i).peerFreed = l.credits.map (· % 65536) ∧ (∀ j, j ≠ i → SamePort (fabPort s j) (fabPort t j))
          ∧ t = { s with fabric := t.fabric, ctr := t.ctr })
        ∧ (∃ t sent, exec (.nak i l) s = .next t
          ∧ (fabPort t i).unacked = before ++ (u :: rest).map (fun x => { x with rpl := min 3 (x.rpl + 1) }) ++ sent
          ∧ counter t 0x71 = min (counter s 0x71 + (u :: rest).length) 0xFFFFFFFF
          ∧ (∀ j, j ≠ i → SamePort (fabPort s j) (fabPort t j)) ∧ t = { s with fabric := t.fabric, ctr := t.ctr }))
      ∧ (∀ x, (fabPort s i).queue = [x] →
        maySend { fabPort s i with peer := l.peerId, peerFreed := l.credits.map (· % 65536) } x.frame = true →
        ∃ t, exec (.credit i l) s = .next t ∧ (fabPort t i).queue = []
          ∧ (fabPort t i).out = { fseq := (fabPort s i).txSeq, rpl := 0, cls := classOf x.frame, frame := x.frame } :: (fabPort s i).out
          ∧ (fabPort t i).txSeq = ((fabPort s i).txSeq + 1) % 4096 ∧ counter t 0x70 = (counter s 0x70 + 1) % 2 ^ 64
          ∧ (∀ j, j ≠ i → SamePort (fabPort s j) (fabPort t j)) ∧ t = { s with fabric := t.fabric, ctr := t.ctr })
      ∧ ((fabPort s i).queue = [] →
        ∃ t, exec (.credit i l) s = .next t
          ∧ fabPort t i = { fabPort s i with peer := l.peerId, peerFreed := l.credits.map (· % 65536) }
          ∧ (∀ n, counter t n = counter s n ∨ n = 0x70) ∧ t = { s with fabric := t.fabric, ctr := t.ctr }))
    ∧ exec (.linkControlSend i) s = .next (setFabPort s i { fabPort s i with
        lc := { op := .credit, aseq := 0, peerId := myId s, credits := (fabPort s i).freed } :: (fabPort s i).lc,
        lastLc := s.time.tick })

/-- Fabric ports come up and go down; link-control flits are taken and sent. -/
def Obligations.FabricPortsAndTheirLinkControl : Prop :=
  Claims.FabricPortsComeUpAndGoDown ∧ Claims.LinkControlIsTakenAndSent

/-- Time synchronisation (R349, R350). A module that is not the master asks its time parent; TIME_REQ is answered with the times
of arrival and departure as the port's copy of the time base shows them (R22); a TIME_RSP of less than 10 µs steps the time base in ACQUIRE, and leaves the offset to be slewed in LOCKED and
HOLDOVER, LOCKED in each; an exchange of 10 µs without an answer is dropped, and the eighth in a row leaves LOCKED; TIME_SLEW is an
ACLK cycle in which the time base goes forward by 41 or 39 ns in place of 40, at most once every 5,000 ns. -/
def Claims.TimeIsExchangedWithTheParent : Prop :=
  ∀ (s : State) (i : Nat), (fabPort s i).state = .up →
    (∀ lag, ctl s 0x800004 = i → i < 8 → (s.time.sync = .acquire ∨ s.time.sync = .locked ∨ s.time.sync = .holdover) →
      s.time.exch = none → (∀ x, s.time.lastStart = some x → x + ctl s 0x800005 ≤ s.time.tick) →
      ∃ t, exec (.timeExchangeStart lag) s = .next t
        ∧ t.time = { s.time with exch := some { num := s.time.nextNum, t1 := seenTime s lag, sent := s.time.tick },
                                 nextNum := (s.time.nextNum + 1) % 4096, lastStart := some s.time.tick }
        ∧ (fabPort t i).lc = { op := .timeReq, aseq := s.time.nextNum, peerId := myId s, credits := (fabPort s i).freed,
                               tA := seenTime s lag } :: (fabPort s i).lc
        ∧ t = { s with time := t.time, fabric := t.fabric })
    ∧ (∀ l : LinkControl, l.parityOk = true →
      (∀ lagIn lagOut, ∃ t, exec (.timeReq i l lagIn lagOut) s = .next t
        ∧ (fabPort t i).lc = { op := .timeRsp, aseq := l.aseq, peerId := myId s, credits := (fabPort t i).freed,
                               tA := seenTime s lagIn, tB := seenTime s lagOut } :: (fabPort s i).lc
        ∧ t = { s with fabric := t.fabric, ctr := t.ctr })
      ∧ (∀ lag e, s.time.exch = some e → e.sent + 10000 < s.time.tick → ∃ t, exec (.timeRsp i l lag) s = .next t
        ∧ t.time = s.time ∧ t = { s with fabric := t.fabric, ctr := t.ctr })
      ∧ (∀ lag e off, s.time.exch = some e → e.num = l.aseq → ctl s 0x800004 = i → s.time.tick ≤ e.sent + 10000 →
        off = exchangeOffset e.t1 l.tA l.tB (seenTime s lag) →
        (s.time.sync = .acquire → ∃ t, exec (.timeRsp i l lag) s = .next t ∧ t.log.next = s.log.next + 1
          ∧ t.time = { s.time with exch := none, missed := 0, offset := off, base := (s.time.base + off).toNat, sync := .locked,
                                   slewLeft := 0 }
          ∧ t = { s with time := t.time, fabric := t.fabric, ctr := t.ctr, log := t.log })
        ∧ ((s.time.sync = .locked ∨ s.time.sync = .holdover) → ∃ t, exec (.timeRsp i l lag) s = .next t
          ∧ t.time = { s.time with exch := none, missed := 0, offset := off, sync := .locked, slewLeft := off }
          ∧ (s.time.sync = .locked → 1000 < off.natAbs → t.log.next = s.log.next + 1)
          ∧ t = { s with time := t.time, fabric := t.fabric, ctr := t.ctr, log := t.log })))
    ∧ (∀ e, s.time.exch = some e →
      (e.sent + 10000 ≤ s.time.tick → ∃ t, exec .timeExchangeTimeout s = .next t ∧ t.time.exch = none
        ∧ t.time.missed = s.time.missed + 1 ∧ t.time.base = s.time.base
        ∧ t.time.sync = (if s.time.sync = .locked ∧ 8 ≤ s.time.missed + 1 then .holdover else s.time.sync)
        ∧ t = { s with time := t.time, log := t.log })
      ∧ (s.time.tick < e.sent + 10000 → exec .timeExchangeTimeout s = .next s))
    ∧ ((∀ x, s.time.lastSlew = some x → x + 5000 ≤ s.time.tick) →
      (0 < s.time.slewLeft → exec .timeSlew s = .next (passTime s { s.time with
        base := s.time.base + 41, tick := s.time.tick + 40, slewLeft := s.time.slewLeft - 1, lastSlew := some s.time.tick }))
      ∧ (s.time.slewLeft < 0 → exec .timeSlew s = .next (passTime s { s.time with
        base := s.time.base + 39, tick := s.time.tick + 40, slewLeft := s.time.slewLeft + 1, lastSlew := some s.time.tick })))
    ∧ (∀ x, s.time.lastSlew = some x → s.time.tick < x + 5000 → exec .timeSlew s = .next s)

/-- TIME_MASTER and TIME_PARENT_PORT (R350): the table's transitions between FREE, MASTER and ACQUIRE, and any state but MASTER
to FREE; what was under way with the old state ends. A LOCKED module whose new parent port is not UP goes to HOLDOVER. -/
def Claims.TimeRoleFollowsItsEntries : Prop :=
  ∀ (s : State) (path v : Nat),
    (WriteOk s path 0x800003 v →
      ∃ t, exec (.timeMaster path v) s = .next t ∧ ctl t 0x800003 = v
        ∧ t.time = (if s.time.sync = .free ∧ v = 1 then
              { s.time with sync := .master, exch := none, missed := 0, slewLeft := 0 }
            else if s.time.sync = .master ∧ v = 0 then { s.time with sync := .free, exch := none, missed := 0, slewLeft := 0 }
            else s.time)
        ∧ t = { s with dict := t.dict, time := t.time })
    ∧ (WriteOk s path 0x800004 v →
      ∃ t, exec (.timeParentPort path v) s = .next t ∧ ctl t 0x800004 = v
        ∧ (s.time.sync = .free → v < 8 → t.time.sync = .acquire) ∧ (s.time.sync ≠ .master → v = 0xFF → t.time.sync = .free)
        ∧ (s.time.sync = .master → t.time = s.time)
        ∧ (s.time.sync ≠ .free → v < 8 → s.time.sync ≠ .locked ∨ (fabPort s v).state = .up → t.time = s.time)
        ∧ (s.time.sync = .locked → v < 8 → (fabPort s v).state ≠ .up → t.time.sync = .holdover)
        ∧ t.time.base = s.time.base ∧ t = { s with dict := t.dict, time := t.time, log := t.log })

/-- Time synchronisation with the parent, and the module's time role. -/
def Obligations.TimeIsExchangedWithTheParent : Prop :=
  Claims.TimeIsExchangedWithTheParent ∧ Claims.TimeRoleFollowsItsEntries

/-- Frames for this module (R334, R337, R344-R348), received in order and without errors. A QUERY frame of a shard that this
module holds, in time, becomes a search of its own, at its own epoch, with a deadline 6 µs before the parent's cut. A LIST
frame of a child that is awaited is merged; one that no query waits for counts in MERGE_BAD. A ROW_LIST frame of a loaded
collective waits in the ingress buffer. A CANCEL frame ends the query that its sender asked for. A frame of a reserved
TYPE or of more than 16,448 bytes is discarded, counted and logged. -/
def Obligations.FramesReachTheirNode : Prop :=
  ∀ (s : State) (i : Nat) (rx : RxFrame) (lag : Nat), Received s i rx →
    (badFrameForm rx.frame = true → ∃ t, exec (.badFrame i rx) s = .next t
      ∧ counter t 0x75 = min (counter s 0x75 + 1) 0xFFFFFFFF ∧ t.log.next = s.log.next + 1
      ∧ (fabPort t i).rxSeq = (rx.fseq + 1) % 4096 ∧ t = { s with fabric := t.fabric, ctr := t.ctr, log := t.log })
    ∧ (badFrameForm rx.frame = false → rx.frame.dst = myId s →
      (∀ n x, rx.frame.typ = 1 → quiescent s = false → shardOf s rx.frame = some (n, x) → queryOf s (childTag s) = none →
        inRange (sQFmt (frameWord rx.frame)) 1 5 = true →
        rx.frame.payload.length = 64 + x.cfg.vecDims * rrSize (sQFmt (frameWord rx.frame)) →
        seenTime s lag < rx.frame.cutTime - 6000 →
        ∃ t q, exec (.query i rx lag) s = .next t ∧ t.queries = s.queries ++ [q] ∧ q.tag = childTag s
          ∧ q.origin = .child rx.frame.src rx.frame.ptag rx.frame.group rx.frame.origin ∧ q.index = n ∧ q.epoch = x.current
          ∧ q.admitted = seenTime s lag ∧ q.deadline = rx.frame.cutTime - 6000 ∧ q.params = frameParams (frameWord rx.frame)
          ∧ q.phase = .waiting ∧ q.qvec = some (rx.frame.payload.drop 64) ∧ t.childNext = s.childNext + 1
          ∧ (fabPort t i).rxSeq = (rx.fseq + 1) % 4096
          ∧ t = { s with queries := t.queries, childNext := t.childNext, fabric := t.fabric, strums := t.strums,
                         bridges := t.bridges, ctr := t.ctr })
      ∧ (∀ q st, rx.frame.typ = 2 → queryOf s rx.frame.ptag = some q → q.fabric = some st → .child rx.frame.src ∈ st.expected →
        .child rx.frame.src ∉ st.delivered → kindFits s q (listDecode rx.frame.payload listMax) = true →
        seenTime s lag ≤ lastAccept q .fabric →
        stageFull (stageTake st q.params.k (.child rx.frame.src) (listDecode rx.frame.payload listMax)).1 = false →
        ∃ t q' st', exec (.list i rx lag) s = .next t ∧ queryOf t rx.frame.ptag = some q' ∧ q'.fabric = some st'
          ∧ st'.delivered = .child rx.frame.src :: st.delivered
          ∧ st'.acc = (mergeLists false q.params.k st.acc (listDecode rx.frame.payload listMax)).1
          ∧ (∀ n, n ≠ rx.frame.ptag → queryOf t n = queryOf s n)
          ∧ t = { s with queries := t.queries, fabric := t.fabric, ctr := t.ctr })
      ∧ (rx.frame.typ = 2 → queryOf s rx.frame.ptag = none → ∃ t, exec (.list i rx lag) s = .next t
          ∧ counter t 0x2B = min (counter s 0x2B + 1) 0xFFFFFFFF ∧ t = { s with fabric := t.fabric, ctr := t.ctr, log := t.log })
      ∧ (rx.frame.typ = 3 → (∃ tab, tab ∈ s.dense.tabs ∧ collFits s tab.1 rx.frame.group rx.frame.src = true) →
        s.dense.runs = [] → ingressBytes s (i / 4) + 64 * flitsOf rx.frame ≤ 4194304 →
        ∃ t, exec (.rowList i rx) s = .next t ∧ t.fabric.ingress = s.fabric.ingress ++
            [{ owed := false, port := i, cls := classOf rx.frame, poison := false, frame := rx.frame }]
          ∧ t = { s with fabric := t.fabric })
      ∧ (∀ q, rx.frame.typ = 4 → q ∈ s.queries → q.origin = .child rx.frame.src rx.frame.ptag rx.frame.group rx.frame.origin →
        (∀ y g, y ∈ s.queries → y.origin = .child rx.frame.src rx.frame.ptag rx.frame.group g → y = q) →
        ∃ t, exec (.cancel i rx) s = .next t ∧ queryOf t q.tag = none ∧ t.chans = s.chans ∧ t.dense = s.dense ∧ t.indexes = s.indexes))

/-- R9: a command of a channel with a non-zero reserved field completes with INVALID and has no other effect, whichever of the
24 commands it is. -/
def Obligations.ReservedFieldGivesInvalid : Prop :=
  ∀ (s : State) (slot seq lag pick unread op : Nat) (o : OutCmd) (c : Instr),
    (c, op) ∈ [(Instr.search slot seq lag, 0x01), (Instr.searchExact slot seq lag, 0x02), (Instr.fetch slot seq, 0x03),
      (Instr.insert slot seq, 0x10), (Instr.delete slot seq, 0x11), (Instr.upsert slot seq, 0x12), (Instr.encode slot seq, 0x20),
      (Instr.encodeSearch slot seq lag, 0x21), (Instr.run slot seq, 0x30), (Instr.tuneStep slot seq, 0x31),
      (Instr.barrier slot seq, 0x40), (Instr.snapshotPin slot seq pick, 0x41), (Instr.snapshotRelease slot seq, 0x42),
      (Instr.createChannel slot seq, 0x80), (Instr.destroyChannel slot seq, 0x81), (Instr.abortChannel slot seq, 0x82),
      (Instr.createIndex slot seq, 0x83), (Instr.dropIndex slot seq, 0x84), (Instr.loadTablature slot seq, 0x85),
      (Instr.setPowerState slot seq, 0x86), (Instr.getLog slot seq unread, 0x87), (Instr.mergeNow slot seq, 0x88),
      (Instr.retuneStart slot seq, 0x89), (Instr.retuneCommit slot seq, 0x8A)] →
    admitting s slot seq op = some o → reservedOk o.word = false →
    ∃ t, exec c s = .next t ∧ Finished t slot seq { status := .invalid } ∧ SameButCmd s t slot seq

/-- R94 and R95: the key of a distance follows from its encoding as R94 writes it; keys of distances that are no NaN order as
their values do and are equal exactly where the values are; entries of different keys order by their keys as unsigned
numbers; and the pruning bound takes back from a key the value that R95 names. -/
def Obligations.KeysOrderAsDistances : Prop :=
  (∀ u : W32, keyOf (d32 u) = if (d32 u).isNan = true then 0xFFFFFFFF else if u = 0x80000000 then 0x80000000
      else if u &&& 0x80000000 ≠ 0 then ~~~u else u ||| 0x80000000)
  ∧ (∀ u v : W32, (d32 u).isNan = false → (d32 v).isNan = false →
    ((keyOf (d32 u)).toNat < (keyOf (d32 v)).toNat ↔ flt (d32 u) (d32 v) = true)
    ∧ (keyOf (d32 u) = keyOf (d32 v) ↔ feq (d32 u) (d32 v) = true))
  ∧ (∀ (row : Bool) (a b : Entry), a.key ≠ b.key → (entryLe row a b = true ↔ a.key.toNat < b.key.toNat))
  ∧ (∀ k : W32, valOf k = if 0x80000000 ≤ k.toNat then d32 (k ^^^ 0x80000000) else d32 (~~~k))

/-- Counters (R89, R363, R406): an addition to a U32 counter of 0x9100 saturates at 0xFFFF_FFFF, one to a U64 counter wraps at
2^64, a clear leaves 0, and no other counter and nothing else changes. -/
def Claims.CountersSaturateOrWrap : Prop :=
  ∀ (s : State) (sub n : Nat),
    counter (bump s sub n) sub = (if isWide sub then (counter s sub + n) % 2 ^ 64 else min (counter s sub + n) 0xFFFFFFFF)
    ∧ counter (clearCounter s sub) sub = 0
    ∧ (∀ k, k ≠ sub → counter (bump s sub n) k = counter s k ∧ counter (clearCounter s sub) k = counter s k)
    ∧ bump s sub n = { s with ctr := (bump s sub n).ctr } ∧ clearCounter s sub = { s with ctr := (clearCounter s sub).ctr }

/-- Byte memory (R6): bytes that were stored are read back, every byte outside them reads as before, numbers are little-endian,
and the canonical form stands, so that equal memories are equal data. -/
def Claims.MemoryReadsWhatWasWritten : Prop :=
  ∀ (m : Mem) (a : Nat) (bs : List Byte),
    readBytes (writeBytes m a bs) a bs.length = bs
    ∧ (∀ b, (b < a ∨ a + bs.length ≤ b) → readByte (writeBytes m a bs) b = readByte m b)
    ∧ (∀ n v, v < 256 ^ n → readNat (writeBytes m a (leBytes n v)) a n = v)
    ∧ (Mem.wf m = true → Mem.wf (writeBytes m a bs) = true)
    ∧ (∀ m', Mem.wf m = true → Mem.wf m' = true → m.fill = m'.fill → (∀ b, readByte m b = readByte m' b) → m = m')

/-- Records in a stack (R29, R33, R34, R39): the header of a record lies in its first 256 bits, field by field; a record of a
Format W or C index has 4,096 or 2,048 bits; and the base die's stripes keep the 32-byte pieces of all records of an area apart,
within the channels and pseudo-channels of the stack. -/
def Claims.RecordsLieInTheirStripes : Prop :=
  (∀ (f : Format) (r : Rec) (w : Nat), w = recWord f r →
    bits w 63 0 = r.extId % 2 ^ 64 ∧ bits w 127 64 = r.filterTag % 2 ^ 64 ∧ bits w 175 128 = r.commit % 2 ^ 48
    ∧ bits w 183 176 = r.state.toNat ∧ bits w 191 184 = r.gen % 256 ∧ bits w 239 192 = r.delete % 2 ^ 48
    ∧ bits w 247 240 = r.codeVer % 256 ∧ bits w 249 248 = formatCode f ∧ bits w 255 250 = r.nbrCount % 64
    ∧ w < 2 ^ (8 * recBytes f))
  ∧ (∀ (f : Format) (q j q' j' : Nat), j < recBytes f / 32 → j' < recBytes f / 32 → pieceHome f q j = pieceHome f q' j' →
    q = q' ∧ j = j')
  ∧ (∀ (f : Format) (q j : Nat), j < recBytes f / 32 →
    (pieceHome f q j).1 < 16 ∧ (pieceHome f q j).2.1 < 2 ∧ (pieceHome f q j).2.2 % 32 = 0)

/-- Counters saturate or wrap; byte memory reads what was written and keeps its canonical form; records lie in their stripes. -/
def Obligations.CountersAndMemoryKeepWhatTheyAreGiven : Prop :=
  Claims.CountersSaturateOrWrap ∧ Claims.MemoryReadsWhatWasWritten ∧ Claims.RecordsLieInTheirStripes

/-- Merging (R118, R124, R125): what a stage makes of two lists holds at most its limit of entries, no identifier twice, no NaN
key and no null identifier, lowest keys first, and nothing that the inputs do not hold; and
an identifier that an input holds is either in the result with its lowest key, or the result is full of keys no higher. -/
def Obligations.MergedListsHoldTheLowestKeys : Prop :=
  ∀ (limit : Nat) (a b r : MList) (d : Nat), mergeLists false limit a b = (r, d) →
    r.entries.length ≤ limit ∧ (r.entries.map (·.id)).Nodup ∧ r.entries.Pairwise (fun x y => x.key.toNat ≤ y.key.toNat)
    ∧ (∀ x, x ∈ r.entries → (x ∈ a.entries ∨ x ∈ b.entries) ∧ entryGood false x = true)
    ∧ (∀ x, (x ∈ a.entries ∨ x ∈ b.entries) → entryGood false x = true →
      (∃ y, y ∈ r.entries ∧ y.id = x.id ∧ y.key.toNat ≤ x.key.toNat)
      ∨ (r.entries.length = limit ∧ ∀ y, y ∈ r.entries → y.key.toNat ≤ x.key.toNat))
    ∧ r.cut = (a.cut || b.cut) ∧ r.fenced = (a.fenced || b.fenced)
    ∧ ((∀ x, (x ∈ a.entries ∨ x ∈ b.entries) → entryGood false x = true) → r.poison = (a.poison || b.poison))

/-- The log (R401, R402): a step never gives a sequence number twice, and what the rings hold stays in order: every entry has a
number below LOG_NEXT_SEQ, newer entries higher ones; the early ring holds at most 256, the ring of the far tier at most
65,536 and none while the far tier is not ready, FL1 the last 16 of severity 3. -/
def Obligations.EveryStepKeepsTheLogInOrder : Prop :=
  ∀ s t : State, LogOk s.log s.power.farUp → step s = .next t → LogOk t.log t.power.farUp

/-- The TAP (R449, R472): in every state that a step reaches from one that keeps the rule, the TAP in reset leaves the pins alone and
has IDCODE selected, which is the model's choice (log entry 12), and the pins are out of their function only under EXTEST, CLAMP or
HIGHZ. -/
def Claims.EveryStepKeepsTheTapSafe : Prop :=
  ∀ s t : State, TapOk s.tap → step s = .next t → TapOk t.tap

/-- R429: the straps are sampled once, 2 ms after auxiliary power-on at the earliest, and what was sampled stands through every
command until auxiliary power is gone: a later level of the straps takes effect only at the next auxiliary power-on. -/
def Claims.StrapsAreSampledOnce : Prop :=
  ∀ (c : Instr) (s t : State), s.pins.aux = true → exec c s = .next t →
    (s.pins.sampled = true → t.pins.aux = true →
      t.pins.sampled = true ∧ t.pins.modId = s.pins.modId ∧ t.pins.split = s.pins.split)
    ∧ (s.pins.sampled = false → t.pins.sampled = true → c = .strapSample ∧ 2000000 ≤ s.time.tick
        ∧ t.pins.modId = s.pins.strapModId ∧ t.pins.split = s.pins.strapSplit)

/-- Every step keeps the TAP's rule, and straps are sampled once. -/
def Obligations.StepsKeepTheTapSafeAndTheStrapsFixed : Prop :=
  Claims.EveryStepKeepsTheTapSafe ∧ Claims.StrapsAreSampledOnce

/-- Security of every command (R442, R451-R455): the security version never falls, the count of the keys drawn, which names the next
one (the model's choice, log entry 91), never falls, and the debug port comes open only at the end of an erasure: no other command,
from the host, the management port or the TAP, opens it. -/
def Obligations.OnlyAnErasureOpensTheDebugPort : Prop :=
  ∀ (c : Instr) (s t : State), exec c s = .next t →
    s.sec.secVersion ≤ t.sec.secVersion ∧ s.sec.keysDrawn ≤ t.sec.keysDrawn
    ∧ (t.sec.dbg = .open_ → s.sec.dbg = .open_ ∨ (c = .debugErasureDone ∧ s.sec.dbg = .erasing))

/-- R454: the open state ends at a main stop, at a warm restart and so at DBG_CLOSE, and with auxiliary power, each of which leaves
DBG_STATE CLOSED; the value of DBG_CLOSE is 0x6573_6F6C, and while DBG_STATE is not 2 a write of it that passes the earlier
checks gives REFUSED. -/
def Obligations.TheOpenStateEnds : Prop :=
  ∀ s : State,
    (∀ cause st, (mainStop s cause st).sec.dbg = .closed) ∧ (∀ cause, (warmRestart s cause).sec.dbg = .closed)
    ∧ (s.pins.aux = true → ∃ t, exec .auxPowerLoss s = .next t ∧ t.sec.dbg = .closed)
    ∧ (∀ modId split, s.pins.aux = false → ∃ t, exec (.auxPowerOn modId split) s = .next t ∧ t.sec.dbg = .closed)
    ∧ (∀ path v, WriteOk s path 0xA00036 v → v = 0x65736F6C ∧ s.sec.dbg = .open_
        ∧ ∃ t, exec (.dbgClose path v) s = .next t ∧ t.sec.dbg = .closed ∧ t.dict.ready = false
          ∧ ∃ c u, t = warmRestart u c)
    ∧ (∀ path binds e, entryAt 0xA00036 = some e → s.sec.dbg ≠ .open_ → 2 ≤ path → available s path 0xA00036 = true →
        writeStatus s path binds e.typ e.len 0x65736F6C 0xA00036 = stRefused)

/-- R84: when work was cut and data was poisoned the status is PARTIAL_DEADLINE and the cause flags record the poison as well;
PARTIAL_POISON is the status when poison alone applies. A search that ends reports exactly the status of its causes. -/
def Obligations.BothCausesGivePartialDeadline : Prop :=
  (∀ (c : Cause) (dv dl ro : Bool),
    (c.cut = true → c.poison = true → statusOfCause c = .partialDeadline ∧ bit (causeBits c dv dl ro) 5 = true
      ∧ bit (causeBits c dv dl ro) 4 = true)
    ∧ (c.cut = false → c.fenced = false → c.poison = true → statusOfCause c = .partialPoison
      ∧ bit (causeBits c dv dl ro) 5 = false ∧ bit (causeBits c dv dl ro) 4 = true))
  ∧ statusCode .partialDeadline = 1 ∧ statusCode .partialPoison = 2
  ∧ (∀ (s : State) (q : Query) (l : MList) (slot seq : Nat) (o : OutCmd), queryOf s q.tag = some q → q.phase ≠ .done →
    q.origin = .host slot seq → outCmd s slot seq = some o →
    ∃ k, Finished (completeQuery s q l) slot seq k ∧ k.status = statusOfCause k.cause
      ∧ k.cause.cut = (q.cause.cut || l.cut) ∧ k.cause.poison = (q.cause.poison || l.poison))

/-- R42: the partition of an identifier, by the product of the rule or as the command names it; a named partition at or above
the number of partitions completes with INVALID, and so does a CREATE_INDEX that names a reserved PART_FN. -/
def Obligations.PartitionsFollowTheirFunction : Prop :=
  (∀ (x : Index) (w : CmdWord),
    (x.cfg.partFn = 0 → writePart x w
        = (wExtId w * 0x9E3779B97F4A7C15 % 2 ^ 64 / 2 ^ 32 * x.parts.length) / 2 ^ 32
      ∧ (0 < x.parts.length → writePart x w < x.parts.length))
    ∧ (x.cfg.partFn = 1 → writePart x w = cPartition w))
  ∧ (∀ (s : State) (slot seq op : Nat) (o : OutCmd) (x : Index) (c : Instr),
    (c, op) ∈ [(Instr.insert slot seq, 0x10), (Instr.upsert slot seq, 0x12)] → admitting s slot seq op = some o →
    seesIndex s slot (cIndex o.word) = true → indexAt s (cIndex o.word) = some x → x.cfg.partFn = 1 →
    x.parts.length ≤ cPartition o.word →
    ∃ t, exec c s = .next t ∧ Finished t slot seq { status := .invalid } ∧ SameButCmd s t slot seq)
  ∧ (∀ (s : State) (slot seq : Nat) (o : OutCmd), admitting s slot seq 0x83 = some o → 2 ≤ (ciCfg o.word).partFn →
    ∃ t, exec (.createIndex slot seq) s = .next t ∧ Finished t slot seq { status := .invalid } ∧ SameButCmd s t slot seq)

/-- R363 and R266. A counter that a write of 0 clears accepts only 0, and any other value gives RANGE; the clear leaves 0, and an
event counted after it counts from there. TAB_UNLOAD of a number above 63 gives RANGE; of one that is not loaded, or whose
tablature an admitted dense command names, REFUSED, and nothing changes; otherwise that tablature's space is free. -/
def Obligations.ClearsAndUnloadsAreChecked : Prop :=
  (∀ (s : State) (path key : Nat) (binds : List (Nat × Nat)) (e : DictEnt), entryAt key = some e → e.clears = true →
    writeStatus s path binds e.typ e.len 0 key = stOk →
    (∀ v, v ≠ 0 → writeStatus s path binds e.typ e.len v key = stRange)
    ∧ (∀ sub, key = 0x910000 + sub → sub < 256 →
      counter (writeItem s path binds e.typ e.len 0 key false).1 sub = 0
      ∧ counter (bump (writeItem s path binds e.typ e.len 0 key false).1 sub 1) sub = 1)
    ∧ (∀ i, key / 256 ≠ 0x9100 → objOf s path binds e = some i →
      readNum (writeItem s path binds e.typ e.len 0 key false).1 path binds e i = 0))
  ∧ (∀ (s : State) (path v : Nat) (e : DictEnt), s.dict.ready = true → s.dict.restart = none → entryAt 0x720003 = some e →
    denied (dropStage (usePath s path) path) path e = false → available (dropStage (usePath s path) path) path 0x720003 = true →
    ((pathOf (dropStage (usePath s path) path) path).unlock.isSome = true ∨ e.expert = false) →
    (63 < v → writeStatus (dropStage (usePath s path) path) path [] e.typ e.len v 0x720003 = stRange
      ∧ exec (.tabUnload path v) s = .next (bump (dropStage (usePath s path) path) 0x81 1))
    ∧ (v ≤ 63 → (look s.dense.tabs v = none ∨ tabNamed s v = true) →
      writeStatus (dropStage (usePath s path) path) path [] e.typ e.len v 0x720003 = stRefused
      ∧ exec (.tabUnload path v) s = .next (bump (dropStage (usePath s path) path) 0x81 1))
    ∧ (v ≤ 63 → look s.dense.tabs v ≠ none → tabNamed s v = false →
      ∃ t, exec (.tabUnload path v) s = .next t ∧ look t.dense.tabs v = none
        ∧ (∀ n, n ≠ v → look t.dense.tabs n = look s.dense.tabs n)
        ∧ t = { s with dict := t.dict, dense := { s.dense with tabs := t.dense.tabs } }))
end

