-- ==== Sys2Proof/Laws/Lists.lean ====
section
/-!
SUPPORT. Association lists: what is read back after a key is kept, forgotten or altered. They hold of every list; `Rising` is
the order that `keep` maintains.
-/
namespace Sys2Proof

theorem look_cons (p : Nat × α) (l : List (Nat × α)) (k : Nat) :
    look (p :: l) k = if p.1 = k then some p.2 else look l k := by
  by_cases h : p.1 = k <;> simp [look, h]

@[simp] theorem look_nil (k : Nat) : look ([] : List (Nat × α)) k = none := rfl

@[simp] theorem look_keep_same (k : Nat) (v : α) (l : List (Nat × α)) : look (keep k v l) k = some v := by
  induction l with
  | nil => simp [keep, look_cons]
  | cons p r ih =>
    obtain ⟨j, w⟩ := p
    simp only [keep]
    split
    · next h => simp [look_cons, Nat.ne_of_lt h, ih]
    · split <;> simp [look_cons]

theorem look_keep_other {k n : Nat} (v : α) (l : List (Nat × α)) (h : n ≠ k) : look (keep k v l) n = look l n := by
  induction l with
  | nil => simp [keep, look_cons, h.symm]
  | cons p r ih =>
    obtain ⟨j, w⟩ := p
    simp only [keep]
    split
    · simp [look_cons, ih]
    · split
      · next e => subst e; simp [look_cons, h.symm]
      · simp [look_cons, h.symm]

theorem look_keep (k n : Nat) (v : α) (l : List (Nat × α)) : look (keep k v l) n = if n = k then some v else look l n := by
  by_cases h : n = k
  · subst h; simp
  · simp [h, look_keep_other v l h]

@[simp] theorem look_forget_same (k : Nat) (l : List (Nat × α)) : look (forget l k) k = none := by
  simp [look, forget, List.find?_eq_none]

theorem look_forget_other {k n : Nat} (l : List (Nat × α)) (h : n ≠ k) : look (forget l k) n = look l n := by
  induction l with
  | nil => rfl
  | cons p r ih =>
    by_cases e : p.1 = k
    · have : forget (p :: r) k = forget r k := by simp [forget, e]
      rw [this, ih, look_cons]; simp [show p.1 ≠ n from fun x => h (x.symm.trans e)]
    · have : forget (p :: r) k = p :: forget r k := by simp [forget, e]
      rw [this, look_cons, look_cons, ih]

theorem look_forget (k n : Nat) (l : List (Nat × α)) : look (forget l k) n = if n = k then none else look l n := by
  by_cases h : n = k
  · subst h; simp
  · simp [h, look_forget_other l h]

theorem look_alter (l : List (Nat × α)) (k n : Nat) (f : α → α) :
    look (alter l k f) n = if n = k then (look l n).map f else look l n := by
  induction l with
  | nil => simp [alter]
  | cons p r ih =>
    have e : alter (p :: r) k f = (if p.1 == k then (p.1, f p.2) else p) :: alter r k f := rfl
    rw [e, look_cons, look_cons, ih]
    by_cases h : p.1 = k <;> by_cases g : p.1 = n <;> by_cases j : n = k <;> simp_all

@[simp] theorem look_alter_same (l : List (Nat × α)) (k : Nat) (f : α → α) : look (alter l k f) k = (look l k).map f := by
  simp [look_alter]

/-- Keys strictly rise. -/
def Rising (l : List (Nat × α)) : Prop := l.Pairwise (fun p q => p.1 < q.1)

theorem mem_keep_key {k : Nat} {v : α} {l : List (Nat × α)} {p : Nat × α} (h : p ∈ keep k v l) : p = (k, v) ∨ p ∈ l := by
  induction l with
  | nil => simpa [keep] using h
  | cons q r ih =>
    obtain ⟨j, w⟩ := q
    simp only [keep] at h
    split at h
    · rcases List.mem_cons.1 h with h | h
      · simp [h]
      · rcases ih h with h | h <;> simp [h]
    · split at h
      · rcases List.mem_cons.1 h with h | h <;> simp [h]
      · rcases List.mem_cons.1 h with h | h
        · simp [h]
        · exact .inr h

theorem Rising.keep {l : List (Nat × α)} (h : Rising l) (k : Nat) (v : α) : Rising (keep k v l) := by
  induction l with
  | nil => simp [Sys2Proof.keep, Rising]
  | cons q r ih =>
    obtain ⟨j, w⟩ := q
    obtain ⟨hq, hr⟩ := List.pairwise_cons.1 h
    simp only [Sys2Proof.keep]
    split
    · next lt =>
      refine List.pairwise_cons.2 ⟨fun p hp => ?_, ih hr⟩
      rcases mem_keep_key hp with e | m
      · simpa [e] using lt
      · exact hq p m
    · next ge =>
      split
      · next e => subst e; exact List.pairwise_cons.2 ⟨hq, hr⟩
      · next ne =>
        have lt : k < j := by omega
        refine List.pairwise_cons.2 ⟨fun p hp => ?_, List.pairwise_cons.2 ⟨hq, hr⟩⟩
        rcases List.mem_cons.1 hp with e | m
        · simpa [e] using lt
        · exact Nat.lt_trans lt (hq p m)

theorem Rising.forget {l : List (Nat × α)} (h : Rising l) (k : Nat) : Rising (forget l k) := h.sublist List.filter_sublist

end Sys2Proof
end

