-- ==== Sys2Proof/Laws/Memory.lean ====
section
/-!
SUPPORT. Byte memory: a byte read after a write, and the canonical form, which every write keeps.
-/
namespace Sys2Proof.Machine

@[simp] theorem writeByte_fill (m : Mem) (a : Nat) (b : Byte) : (writeByte m a b).fill = m.fill := by
  unfold writeByte; split <;> rfl

@[simp] theorem unlisted_writeByte (m : Mem) (a x : Nat) (b : Byte) : unlisted (writeByte m a b) x = unlisted m x := by
  simp [unlisted]

theorem readByte_writeByte (m : Mem) (a x : Nat) (b : Byte) :
    readByte (writeByte m a b) x = if x = a then b else readByte m x := by
  have u := unlisted_writeByte m a x b
  unfold readByte
  rw [u]
  unfold writeByte
  split
  · next e => by_cases h : x = a <;> simp [look_forget, h, e]
  · by_cases h : x = a <;> simp [look_keep, h]

theorem cellsOk_mono {m : Mem} {lo hi : Nat} (h : hi ≤ lo) {l : List (Nat × Byte)} (c : cellsOk m lo l = true) :
    cellsOk m hi l = true := by
  cases l with
  | nil => rfl
  | cons p r => obtain ⟨a, b⟩ := p; simp [cellsOk] at c ⊢; exact ⟨⟨by omega, c.1.2⟩, c.2⟩

theorem cellsOk_congr {m n : Mem} (h : m.fill = n.fill) (lo : Nat) (l : List (Nat × Byte)) : cellsOk m lo l = cellsOk n lo l := by
  induction l generalizing lo with
  | nil => rfl
  | cons p r ih => obtain ⟨a, b⟩ := p; simp [cellsOk, ih, unlisted, h]

theorem cellsOk_forget {m : Mem} {lo : Nat} {l : List (Nat × Byte)} (a : Nat) (c : cellsOk m lo l = true) :
    cellsOk m lo (forget l a) = true := by
  induction l generalizing lo with
  | nil => rfl
  | cons p r ih =>
    obtain ⟨x, y⟩ := p
    simp [cellsOk] at c
    by_cases e : x = a
    · have : forget ((x, y) :: r) a = forget r a := by simp [forget, e]
      rw [this]; exact cellsOk_mono (by omega) (ih c.2)
    · have : forget ((x, y) :: r) a = (x, y) :: forget r a := by simp [forget, e]
      rw [this]; simp [cellsOk, c.1, ih c.2]

theorem cellsOk_keep {m : Mem} {lo a : Nat} {l : List (Nat × Byte)} {b : Byte} (u : b ≠ unlisted m a) (h : lo ≤ a)
    (c : cellsOk m lo l = true) : cellsOk m lo (keep a b l) = true := by
  induction l generalizing lo with
  | nil => simp [keep, cellsOk, h, u]
  | cons p r ih =>
    obtain ⟨x, y⟩ := p
    simp [cellsOk] at c
    simp only [keep]
    split
    · next lt => simp [cellsOk, c.1, ih (by omega) c.2]
    · split
      · next e => subst e; simp [cellsOk, h, u, c.2]
      · next ne => simp [cellsOk, h, u, c.1.2, c.2]; omega

/-- Every write keeps the canonical form. -/
theorem writeByte_wf {m : Mem} (h : Mem.wf m = true) (a : Nat) (b : Byte) : Mem.wf (writeByte m a b) = true := by
  unfold writeByte Mem.wf at *
  split
  · rw [cellsOk_congr (m := { m with cells := forget m.cells a }) (n := m) rfl]; exact cellsOk_forget a h
  · next u =>
    rw [cellsOk_congr (m := { m with cells := keep a b m.cells }) (n := m) rfl]; exact cellsOk_keep u (Nat.zero_le a) h

theorem writeBytes_wf {m : Mem} (h : Mem.wf m = true) (a : Nat) (bs : List Byte) : Mem.wf (writeBytes m a bs) = true := by
  induction bs generalizing m a with
  | nil => exact h
  | cons b r ih => exact ih (writeByte_wf h a b) (a + 1)

/-- Empty memory has it, as every memory of the state after reset. -/
theorem empty_wf (fill : Nat) : Mem.wf { fill := fill } = true := rfl

end Sys2Proof.Machine
end

