-- ==== Sys2Proof/Laws/State.lean ====
section
/-!
SUPPORT. What the elementary updates of the state leave alone: for each, every field that it does not write.
-/
namespace Sys2Proof.Machine


@[simp] theorem setChan_kept (s : State) (n : Nat) (c : Channel) :
    (setChan s n c).pending = s.pending ∧ (setChan s n c).free = s.free ∧ (setChan s n c).time = s.time
    ∧ (setChan s n c).pins = s.pins ∧ (setChan s n c).power = s.power ∧ (setChan s n c).tap = s.tap
    ∧ (setChan s n c).portA = s.portA ∧ (setChan s n c).portB = s.portB ∧ (setChan s n c).rlocks = s.rlocks
    ∧ (setChan s n c).pinSlots = s.pinSlots ∧ (setChan s n c).pageReqs = s.pageReqs ∧ (setChan s n c).indexes = s.indexes
    ∧ (setChan s n c).ring0 = s.ring0 ∧ (setChan s n c).ring1 = s.ring1 ∧ (setChan s n c).kernels = s.kernels
    ∧ (setChan s n c).queries = s.queries ∧ (setChan s n c).bridges = s.bridges ∧ (setChan s n c).strums = s.strums
    ∧ (setChan s n c).strays = s.strays ∧ (setChan s n c).childNext = s.childNext ∧ (setChan s n c).dense = s.dense
    ∧ (setChan s n c).fabric = s.fabric ∧ (setChan s n c).dict = s.dict ∧ (setChan s n c).log = s.log
    ∧ (setChan s n c).integ = s.integ ∧ (setChan s n c).sec = s.sec ∧ (setChan s n c).ctr = s.ctr
    ∧ (setChan s n c).writes = s.writes ∧ (setChan s n c).msi = s.msi := by
  and_intros <;> rfl

@[simp] theorem setCtl_kept (s : State) (key obj v : Nat) :
    (setCtl s key obj v).pending = s.pending ∧ (setCtl s key obj v).free = s.free ∧ (setCtl s key obj v).time = s.time
    ∧ (setCtl s key obj v).pins = s.pins ∧ (setCtl s key obj v).power = s.power ∧ (setCtl s key obj v).tap = s.tap
    ∧ (setCtl s key obj v).portA = s.portA ∧ (setCtl s key obj v).portB = s.portB ∧ (setCtl s key obj v).chans = s.chans
    ∧ (setCtl s key obj v).rlocks = s.rlocks ∧ (setCtl s key obj v).pinSlots = s.pinSlots
    ∧ (setCtl s key obj v).pageReqs = s.pageReqs ∧ (setCtl s key obj v).indexes = s.indexes
    ∧ (setCtl s key obj v).ring0 = s.ring0 ∧ (setCtl s key obj v).ring1 = s.ring1 ∧ (setCtl s key obj v).kernels = s.kernels
    ∧ (setCtl s key obj v).queries = s.queries ∧ (setCtl s key obj v).bridges = s.bridges
    ∧ (setCtl s key obj v).strums = s.strums ∧ (setCtl s key obj v).strays = s.strays
    ∧ (setCtl s key obj v).childNext = s.childNext ∧ (setCtl s key obj v).dense = s.dense
    ∧ (setCtl s key obj v).fabric = s.fabric ∧ (setCtl s key obj v).log = s.log ∧ (setCtl s key obj v).integ = s.integ
    ∧ (setCtl s key obj v).sec = s.sec ∧ (setCtl s key obj v).ctr = s.ctr ∧ (setCtl s key obj v).writes = s.writes
    ∧ (setCtl s key obj v).msi = s.msi := by
  and_intros <;> rfl

@[simp] theorem bump_kept (s : State) (sub n : Nat) :
    (bump s sub n).pending = s.pending ∧ (bump s sub n).free = s.free ∧ (bump s sub n).time = s.time
    ∧ (bump s sub n).pins = s.pins ∧ (bump s sub n).power = s.power ∧ (bump s sub n).tap = s.tap
    ∧ (bump s sub n).portA = s.portA ∧ (bump s sub n).portB = s.portB ∧ (bump s sub n).chans = s.chans
    ∧ (bump s sub n).rlocks = s.rlocks ∧ (bump s sub n).pinSlots = s.pinSlots ∧ (bump s sub n).pageReqs = s.pageReqs
    ∧ (bump s sub n).indexes = s.indexes ∧ (bump s sub n).ring0 = s.ring0 ∧ (bump s sub n).ring1 = s.ring1
    ∧ (bump s sub n).kernels = s.kernels ∧ (bump s sub n).queries = s.queries ∧ (bump s sub n).bridges = s.bridges
    ∧ (bump s sub n).strums = s.strums ∧ (bump s sub n).strays = s.strays ∧ (bump s sub n).childNext = s.childNext
    ∧ (bump s sub n).dense = s.dense ∧ (bump s sub n).fabric = s.fabric ∧ (bump s sub n).dict = s.dict
    ∧ (bump s sub n).log = s.log ∧ (bump s sub n).integ = s.integ ∧ (bump s sub n).sec = s.sec
    ∧ (bump s sub n).writes = s.writes ∧ (bump s sub n).msi = s.msi := by
  and_intros <;> rfl

@[simp] theorem clearCounter_kept (s : State) (sub : Nat) :
    (clearCounter s sub).pending = s.pending ∧ (clearCounter s sub).free = s.free ∧ (clearCounter s sub).time = s.time
    ∧ (clearCounter s sub).pins = s.pins ∧ (clearCounter s sub).power = s.power ∧ (clearCounter s sub).tap = s.tap
    ∧ (clearCounter s sub).portA = s.portA ∧ (clearCounter s sub).portB = s.portB ∧ (clearCounter s sub).chans = s.chans
    ∧ (clearCounter s sub).rlocks = s.rlocks ∧ (clearCounter s sub).pinSlots = s.pinSlots
    ∧ (clearCounter s sub).pageReqs = s.pageReqs ∧ (clearCounter s sub).indexes = s.indexes
    ∧ (clearCounter s sub).ring0 = s.ring0 ∧ (clearCounter s sub).ring1 = s.ring1 ∧ (clearCounter s sub).kernels = s.kernels
    ∧ (clearCounter s sub).queries = s.queries ∧ (clearCounter s sub).bridges = s.bridges
    ∧ (clearCounter s sub).strums = s.strums ∧ (clearCounter s sub).strays = s.strays
    ∧ (clearCounter s sub).childNext = s.childNext ∧ (clearCounter s sub).dense = s.dense
    ∧ (clearCounter s sub).fabric = s.fabric ∧ (clearCounter s sub).dict = s.dict ∧ (clearCounter s sub).log = s.log
    ∧ (clearCounter s sub).integ = s.integ ∧ (clearCounter s sub).sec = s.sec ∧ (clearCounter s sub).writes = s.writes
    ∧ (clearCounter s sub).msi = s.msi := by
  and_intros <;> rfl

@[simp] theorem raise_kept (s : State) (code sev kind source handle index : Nat) (args : List Nat) :
    (raise s code sev kind source handle index args).pending = s.pending
    ∧ (raise s code sev kind source handle index args).free = s.free
    ∧ (raise s code sev kind source handle index args).time = s.time
    ∧ (raise s code sev kind source handle index args).pins = s.pins
    ∧ (raise s code sev kind source handle index args).power = s.power
    ∧ (raise s code sev kind source handle index args).tap = s.tap
    ∧ (raise s code sev kind source handle index args).portA = s.portA
    ∧ (raise s code sev kind source handle index args).portB = s.portB
    ∧ (raise s code sev kind source handle index args).chans = s.chans
    ∧ (raise s code sev kind source handle index args).rlocks = s.rlocks
    ∧ (raise s code sev kind source handle index args).pinSlots = s.pinSlots
    ∧ (raise s code sev kind source handle index args).pageReqs = s.pageReqs
    ∧ (raise s code sev kind source handle index args).indexes = s.indexes
    ∧ (raise s code sev kind source handle index args).ring0 = s.ring0
    ∧ (raise s code sev kind source handle index args).ring1 = s.ring1
    ∧ (raise s code sev kind source handle index args).kernels = s.kernels
    ∧ (raise s code sev kind source handle index args).queries = s.queries
    ∧ (raise s code sev kind source handle index args).bridges = s.bridges
    ∧ (raise s code sev kind source handle index args).strums = s.strums
    ∧ (raise s code sev kind source handle index args).strays = s.strays
    ∧ (raise s code sev kind source handle index args).childNext = s.childNext
    ∧ (raise s code sev kind source handle index args).dense = s.dense
    ∧ (raise s code sev kind source handle index args).fabric = s.fabric
    ∧ (raise s code sev kind source handle index args).dict = s.dict
    ∧ (raise s code sev kind source handle index args).integ = s.integ
    ∧ (raise s code sev kind source handle index args).sec = s.sec
    ∧ (raise s code sev kind source handle index args).ctr = s.ctr
    ∧ (raise s code sev kind source handle index args).writes = s.writes
    ∧ (raise s code sev kind source handle index args).msi = s.msi := by
  and_intros <;> rfl

@[simp] theorem withCmd_kept (s : State) (slot seq : Nat) (f : OutCmd → OutCmd) :
    (withCmd s slot seq f).pending = s.pending ∧ (withCmd s slot seq f).free = s.free ∧ (withCmd s slot seq f).time = s.time
    ∧ (withCmd s slot seq f).pins = s.pins ∧ (withCmd s slot seq f).power = s.power ∧ (withCmd s slot seq f).tap = s.tap
    ∧ (withCmd s slot seq f).portA = s.portA ∧ (withCmd s slot seq f).portB = s.portB
    ∧ (withCmd s slot seq f).rlocks = s.rlocks ∧ (withCmd s slot seq f).pinSlots = s.pinSlots
    ∧ (withCmd s slot seq f).pageReqs = s.pageReqs ∧ (withCmd s slot seq f).indexes = s.indexes
    ∧ (withCmd s slot seq f).ring0 = s.ring0 ∧ (withCmd s slot seq f).ring1 = s.ring1
    ∧ (withCmd s slot seq f).kernels = s.kernels ∧ (withCmd s slot seq f).queries = s.queries
    ∧ (withCmd s slot seq f).bridges = s.bridges ∧ (withCmd s slot seq f).strums = s.strums
    ∧ (withCmd s slot seq f).strays = s.strays ∧ (withCmd s slot seq f).childNext = s.childNext
    ∧ (withCmd s slot seq f).dense = s.dense ∧ (withCmd s slot seq f).fabric = s.fabric
    ∧ (withCmd s slot seq f).dict = s.dict ∧ (withCmd s slot seq f).log = s.log ∧ (withCmd s slot seq f).integ = s.integ
    ∧ (withCmd s slot seq f).sec = s.sec ∧ (withCmd s slot seq f).ctr = s.ctr ∧ (withCmd s slot seq f).writes = s.writes
    ∧ (withCmd s slot seq f).msi = s.msi := by
  and_intros <;> rfl

@[simp] theorem dropCmd_kept (s : State) (slot seq : Nat) :
    (dropCmd s slot seq).pending = s.pending ∧ (dropCmd s slot seq).free = s.free ∧ (dropCmd s slot seq).time = s.time
    ∧ (dropCmd s slot seq).pins = s.pins ∧ (dropCmd s slot seq).power = s.power ∧ (dropCmd s slot seq).tap = s.tap
    ∧ (dropCmd s slot seq).portA = s.portA ∧ (dropCmd s slot seq).portB = s.portB ∧ (dropCmd s slot seq).rlocks = s.rlocks
    ∧ (dropCmd s slot seq).pinSlots = s.pinSlots ∧ (dropCmd s slot seq).pageReqs = s.pageReqs
    ∧ (dropCmd s slot seq).indexes = s.indexes ∧ (dropCmd s slot seq).ring0 = s.ring0 ∧ (dropCmd s slot seq).ring1 = s.ring1
    ∧ (dropCmd s slot seq).kernels = s.kernels ∧ (dropCmd s slot seq).queries = s.queries
    ∧ (dropCmd s slot seq).bridges = s.bridges ∧ (dropCmd s slot seq).strums = s.strums
    ∧ (dropCmd s slot seq).strays = s.strays ∧ (dropCmd s slot seq).childNext = s.childNext
    ∧ (dropCmd s slot seq).dense = s.dense ∧ (dropCmd s slot seq).fabric = s.fabric ∧ (dropCmd s slot seq).dict = s.dict
    ∧ (dropCmd s slot seq).log = s.log ∧ (dropCmd s slot seq).integ = s.integ ∧ (dropCmd s slot seq).sec = s.sec
    ∧ (dropCmd s slot seq).ctr = s.ctr ∧ (dropCmd s slot seq).writes = s.writes ∧ (dropCmd s slot seq).msi = s.msi := by
  and_intros <;> rfl

@[simp] theorem setStage_kept (s : State) (slot seq : Nat) (st : Stage) :
    (setStage s slot seq st).pending = s.pending ∧ (setStage s slot seq st).free = s.free
    ∧ (setStage s slot seq st).time = s.time ∧ (setStage s slot seq st).pins = s.pins
    ∧ (setStage s slot seq st).power = s.power ∧ (setStage s slot seq st).tap = s.tap
    ∧ (setStage s slot seq st).portA = s.portA ∧ (setStage s slot seq st).portB = s.portB
    ∧ (setStage s slot seq st).rlocks = s.rlocks ∧ (setStage s slot seq st).pinSlots = s.pinSlots
    ∧ (setStage s slot seq st).pageReqs = s.pageReqs ∧ (setStage s slot seq st).indexes = s.indexes
    ∧ (setStage s slot seq st).ring0 = s.ring0 ∧ (setStage s slot seq st).ring1 = s.ring1
    ∧ (setStage s slot seq st).kernels = s.kernels ∧ (setStage s slot seq st).queries = s.queries
    ∧ (setStage s slot seq st).bridges = s.bridges ∧ (setStage s slot seq st).strums = s.strums
    ∧ (setStage s slot seq st).strays = s.strays ∧ (setStage s slot seq st).childNext = s.childNext
    ∧ (setStage s slot seq st).dense = s.dense ∧ (setStage s slot seq st).fabric = s.fabric
    ∧ (setStage s slot seq st).dict = s.dict ∧ (setStage s slot seq st).log = s.log
    ∧ (setStage s slot seq st).integ = s.integ ∧ (setStage s slot seq st).sec = s.sec ∧ (setStage s slot seq st).ctr = s.ctr
    ∧ (setStage s slot seq st).writes = s.writes ∧ (setStage s slot seq st).msi = s.msi := by
  and_intros <;> rfl

@[simp] theorem hostWrite_kept (s : State) (slot addr : Nat) (data : List Byte) :
    (hostWrite s slot addr data).pending = s.pending ∧ (hostWrite s slot addr data).free = s.free
    ∧ (hostWrite s slot addr data).time = s.time ∧ (hostWrite s slot addr data).pins = s.pins
    ∧ (hostWrite s slot addr data).power = s.power ∧ (hostWrite s slot addr data).tap = s.tap
    ∧ (hostWrite s slot addr data).portA = s.portA ∧ (hostWrite s slot addr data).portB = s.portB
    ∧ (hostWrite s slot addr data).chans = s.chans ∧ (hostWrite s slot addr data).rlocks = s.rlocks
    ∧ (hostWrite s slot addr data).pinSlots = s.pinSlots ∧ (hostWrite s slot addr data).pageReqs = s.pageReqs
    ∧ (hostWrite s slot addr data).indexes = s.indexes ∧ (hostWrite s slot addr data).ring0 = s.ring0
    ∧ (hostWrite s slot addr data).ring1 = s.ring1 ∧ (hostWrite s slot addr data).kernels = s.kernels
    ∧ (hostWrite s slot addr data).queries = s.queries ∧ (hostWrite s slot addr data).bridges = s.bridges
    ∧ (hostWrite s slot addr data).strums = s.strums ∧ (hostWrite s slot addr data).strays = s.strays
    ∧ (hostWrite s slot addr data).childNext = s.childNext ∧ (hostWrite s slot addr data).dense = s.dense
    ∧ (hostWrite s slot addr data).fabric = s.fabric ∧ (hostWrite s slot addr data).dict = s.dict
    ∧ (hostWrite s slot addr data).log = s.log ∧ (hostWrite s slot addr data).integ = s.integ
    ∧ (hostWrite s slot addr data).sec = s.sec ∧ (hostWrite s slot addr data).ctr = s.ctr
    ∧ (hostWrite s slot addr data).msi = s.msi := by
  and_intros <;> rfl

@[simp] theorem withIndex_kept (s : State) (i : Nat) (f : Index → Index) :
    (withIndex s i f).pending = s.pending ∧ (withIndex s i f).free = s.free ∧ (withIndex s i f).time = s.time
    ∧ (withIndex s i f).pins = s.pins ∧ (withIndex s i f).power = s.power ∧ (withIndex s i f).tap = s.tap
    ∧ (withIndex s i f).portA = s.portA ∧ (withIndex s i f).portB = s.portB ∧ (withIndex s i f).chans = s.chans
    ∧ (withIndex s i f).rlocks = s.rlocks ∧ (withIndex s i f).pinSlots = s.pinSlots ∧ (withIndex s i f).pageReqs = s.pageReqs
    ∧ (withIndex s i f).ring0 = s.ring0 ∧ (withIndex s i f).ring1 = s.ring1 ∧ (withIndex s i f).kernels = s.kernels
    ∧ (withIndex s i f).queries = s.queries ∧ (withIndex s i f).bridges = s.bridges ∧ (withIndex s i f).strums = s.strums
    ∧ (withIndex s i f).strays = s.strays ∧ (withIndex s i f).childNext = s.childNext ∧ (withIndex s i f).dense = s.dense
    ∧ (withIndex s i f).fabric = s.fabric ∧ (withIndex s i f).dict = s.dict ∧ (withIndex s i f).log = s.log
    ∧ (withIndex s i f).integ = s.integ ∧ (withIndex s i f).sec = s.sec ∧ (withIndex s i f).ctr = s.ctr
    ∧ (withIndex s i f).writes = s.writes ∧ (withIndex s i f).msi = s.msi := by
  and_intros <;> rfl

@[simp] theorem withPart_kept (s : State) (i p : Nat) (f : Part → Part) :
    (withPart s i p f).pending = s.pending ∧ (withPart s i p f).free = s.free ∧ (withPart s i p f).time = s.time
    ∧ (withPart s i p f).pins = s.pins ∧ (withPart s i p f).power = s.power ∧ (withPart s i p f).tap = s.tap
    ∧ (withPart s i p f).portA = s.portA ∧ (withPart s i p f).portB = s.portB ∧ (withPart s i p f).chans = s.chans
    ∧ (withPart s i p f).rlocks = s.rlocks ∧ (withPart s i p f).pinSlots = s.pinSlots
    ∧ (withPart s i p f).pageReqs = s.pageReqs ∧ (withPart s i p f).ring0 = s.ring0 ∧ (withPart s i p f).ring1 = s.ring1
    ∧ (withPart s i p f).kernels = s.kernels ∧ (withPart s i p f).queries = s.queries
    ∧ (withPart s i p f).bridges = s.bridges ∧ (withPart s i p f).strums = s.strums ∧ (withPart s i p f).strays = s.strays
    ∧ (withPart s i p f).childNext = s.childNext ∧ (withPart s i p f).dense = s.dense ∧ (withPart s i p f).fabric = s.fabric
    ∧ (withPart s i p f).dict = s.dict ∧ (withPart s i p f).log = s.log ∧ (withPart s i p f).integ = s.integ
    ∧ (withPart s i p f).sec = s.sec ∧ (withPart s i p f).ctr = s.ctr ∧ (withPart s i p f).writes = s.writes
    ∧ (withPart s i p f).msi = s.msi := by
  and_intros <;> rfl

@[simp] theorem withQuery_kept (s : State) (tag : Nat) (f : Query → Query) :
    (withQuery s tag f).pending = s.pending ∧ (withQuery s tag f).free = s.free ∧ (withQuery s tag f).time = s.time
    ∧ (withQuery s tag f).pins = s.pins ∧ (withQuery s tag f).power = s.power ∧ (withQuery s tag f).tap = s.tap
    ∧ (withQuery s tag f).portA = s.portA ∧ (withQuery s tag f).portB = s.portB ∧ (withQuery s tag f).chans = s.chans
    ∧ (withQuery s tag f).rlocks = s.rlocks ∧ (withQuery s tag f).pinSlots = s.pinSlots
    ∧ (withQuery s tag f).pageReqs = s.pageReqs ∧ (withQuery s tag f).indexes = s.indexes
    ∧ (withQuery s tag f).ring0 = s.ring0 ∧ (withQuery s tag f).ring1 = s.ring1 ∧ (withQuery s tag f).kernels = s.kernels
    ∧ (withQuery s tag f).bridges = s.bridges ∧ (withQuery s tag f).strums = s.strums ∧ (withQuery s tag f).strays = s.strays
    ∧ (withQuery s tag f).childNext = s.childNext ∧ (withQuery s tag f).dense = s.dense
    ∧ (withQuery s tag f).fabric = s.fabric ∧ (withQuery s tag f).dict = s.dict ∧ (withQuery s tag f).log = s.log
    ∧ (withQuery s tag f).integ = s.integ ∧ (withQuery s tag f).sec = s.sec ∧ (withQuery s tag f).ctr = s.ctr
    ∧ (withQuery s tag f).writes = s.writes ∧ (withQuery s tag f).msi = s.msi := by
  and_intros <;> rfl

@[simp] theorem withWalk_kept (s : State) (tag part : Nat) (f : Walk → Walk) :
    (withWalk s tag part f).pending = s.pending ∧ (withWalk s tag part f).free = s.free
    ∧ (withWalk s tag part f).time = s.time ∧ (withWalk s tag part f).pins = s.pins ∧ (withWalk s tag part f).power = s.power
    ∧ (withWalk s tag part f).tap = s.tap ∧ (withWalk s tag part f).portA = s.portA ∧ (withWalk s tag part f).portB = s.portB
    ∧ (withWalk s tag part f).chans = s.chans ∧ (withWalk s tag part f).rlocks = s.rlocks
    ∧ (withWalk s tag part f).pinSlots = s.pinSlots ∧ (withWalk s tag part f).pageReqs = s.pageReqs
    ∧ (withWalk s tag part f).indexes = s.indexes ∧ (withWalk s tag part f).ring0 = s.ring0
    ∧ (withWalk s tag part f).ring1 = s.ring1 ∧ (withWalk s tag part f).kernels = s.kernels
    ∧ (withWalk s tag part f).bridges = s.bridges ∧ (withWalk s tag part f).strums = s.strums
    ∧ (withWalk s tag part f).strays = s.strays ∧ (withWalk s tag part f).childNext = s.childNext
    ∧ (withWalk s tag part f).dense = s.dense ∧ (withWalk s tag part f).fabric = s.fabric
    ∧ (withWalk s tag part f).dict = s.dict ∧ (withWalk s tag part f).log = s.log ∧ (withWalk s tag part f).integ = s.integ
    ∧ (withWalk s tag part f).sec = s.sec ∧ (withWalk s tag part f).ctr = s.ctr ∧ (withWalk s tag part f).writes = s.writes
    ∧ (withWalk s tag part f).msi = s.msi := by
  and_intros <;> rfl

@[simp] theorem setBridge_kept (s : State) (m : Nat) (b : Bridge) :
    (setBridge s m b).pending = s.pending ∧ (setBridge s m b).free = s.free ∧ (setBridge s m b).time = s.time
    ∧ (setBridge s m b).pins = s.pins ∧ (setBridge s m b).power = s.power ∧ (setBridge s m b).tap = s.tap
    ∧ (setBridge s m b).portA = s.portA ∧ (setBridge s m b).portB = s.portB ∧ (setBridge s m b).chans = s.chans
    ∧ (setBridge s m b).rlocks = s.rlocks ∧ (setBridge s m b).pinSlots = s.pinSlots ∧ (setBridge s m b).pageReqs = s.pageReqs
    ∧ (setBridge s m b).indexes = s.indexes ∧ (setBridge s m b).ring0 = s.ring0 ∧ (setBridge s m b).ring1 = s.ring1
    ∧ (setBridge s m b).kernels = s.kernels ∧ (setBridge s m b).queries = s.queries ∧ (setBridge s m b).strums = s.strums
    ∧ (setBridge s m b).strays = s.strays ∧ (setBridge s m b).childNext = s.childNext ∧ (setBridge s m b).dense = s.dense
    ∧ (setBridge s m b).fabric = s.fabric ∧ (setBridge s m b).dict = s.dict ∧ (setBridge s m b).log = s.log
    ∧ (setBridge s m b).integ = s.integ ∧ (setBridge s m b).sec = s.sec ∧ (setBridge s m b).ctr = s.ctr
    ∧ (setBridge s m b).writes = s.writes ∧ (setBridge s m b).msi = s.msi := by
  and_intros <;> rfl

@[simp] theorem withRun_kept (s : State) (slot seq : Nat) (f : Run → Run) :
    (withRun s slot seq f).pending = s.pending ∧ (withRun s slot seq f).free = s.free ∧ (withRun s slot seq f).time = s.time
    ∧ (withRun s slot seq f).pins = s.pins ∧ (withRun s slot seq f).power = s.power ∧ (withRun s slot seq f).tap = s.tap
    ∧ (withRun s slot seq f).portA = s.portA ∧ (withRun s slot seq f).portB = s.portB
    ∧ (withRun s slot seq f).chans = s.chans ∧ (withRun s slot seq f).rlocks = s.rlocks
    ∧ (withRun s slot seq f).pinSlots = s.pinSlots ∧ (withRun s slot seq f).pageReqs = s.pageReqs
    ∧ (withRun s slot seq f).indexes = s.indexes ∧ (withRun s slot seq f).ring0 = s.ring0
    ∧ (withRun s slot seq f).ring1 = s.ring1 ∧ (withRun s slot seq f).kernels = s.kernels
    ∧ (withRun s slot seq f).queries = s.queries ∧ (withRun s slot seq f).bridges = s.bridges
    ∧ (withRun s slot seq f).strums = s.strums ∧ (withRun s slot seq f).strays = s.strays
    ∧ (withRun s slot seq f).childNext = s.childNext ∧ (withRun s slot seq f).fabric = s.fabric
    ∧ (withRun s slot seq f).dict = s.dict ∧ (withRun s slot seq f).log = s.log ∧ (withRun s slot seq f).integ = s.integ
    ∧ (withRun s slot seq f).sec = s.sec ∧ (withRun s slot seq f).ctr = s.ctr ∧ (withRun s slot seq f).writes = s.writes
    ∧ (withRun s slot seq f).msi = s.msi := by
  and_intros <;> rfl

@[simp] theorem withRunOf_kept (s : State) (die : Nat) (f : Run → Run) :
    (withRunOf s die f).pending = s.pending ∧ (withRunOf s die f).free = s.free ∧ (withRunOf s die f).time = s.time
    ∧ (withRunOf s die f).pins = s.pins ∧ (withRunOf s die f).power = s.power ∧ (withRunOf s die f).tap = s.tap
    ∧ (withRunOf s die f).portA = s.portA ∧ (withRunOf s die f).portB = s.portB ∧ (withRunOf s die f).chans = s.chans
    ∧ (withRunOf s die f).rlocks = s.rlocks ∧ (withRunOf s die f).pinSlots = s.pinSlots
    ∧ (withRunOf s die f).pageReqs = s.pageReqs ∧ (withRunOf s die f).indexes = s.indexes
    ∧ (withRunOf s die f).ring0 = s.ring0 ∧ (withRunOf s die f).ring1 = s.ring1 ∧ (withRunOf s die f).kernels = s.kernels
    ∧ (withRunOf s die f).queries = s.queries ∧ (withRunOf s die f).bridges = s.bridges
    ∧ (withRunOf s die f).strums = s.strums ∧ (withRunOf s die f).strays = s.strays
    ∧ (withRunOf s die f).childNext = s.childNext ∧ (withRunOf s die f).fabric = s.fabric ∧ (withRunOf s die f).dict = s.dict
    ∧ (withRunOf s die f).log = s.log ∧ (withRunOf s die f).integ = s.integ ∧ (withRunOf s die f).sec = s.sec
    ∧ (withRunOf s die f).ctr = s.ctr ∧ (withRunOf s die f).writes = s.writes ∧ (withRunOf s die f).msi = s.msi := by
  and_intros <;> rfl

@[simp] theorem withDie_kept (s : State) (die : Nat) (f : DieSeq → DieSeq) :
    (withDie s die f).pending = s.pending ∧ (withDie s die f).free = s.free ∧ (withDie s die f).time = s.time
    ∧ (withDie s die f).pins = s.pins ∧ (withDie s die f).power = s.power ∧ (withDie s die f).tap = s.tap
    ∧ (withDie s die f).portA = s.portA ∧ (withDie s die f).portB = s.portB ∧ (withDie s die f).chans = s.chans
    ∧ (withDie s die f).rlocks = s.rlocks ∧ (withDie s die f).pinSlots = s.pinSlots ∧ (withDie s die f).pageReqs = s.pageReqs
    ∧ (withDie s die f).indexes = s.indexes ∧ (withDie s die f).ring0 = s.ring0 ∧ (withDie s die f).ring1 = s.ring1
    ∧ (withDie s die f).kernels = s.kernels ∧ (withDie s die f).queries = s.queries ∧ (withDie s die f).bridges = s.bridges
    ∧ (withDie s die f).strums = s.strums ∧ (withDie s die f).strays = s.strays ∧ (withDie s die f).childNext = s.childNext
    ∧ (withDie s die f).fabric = s.fabric ∧ (withDie s die f).dict = s.dict ∧ (withDie s die f).log = s.log
    ∧ (withDie s die f).integ = s.integ ∧ (withDie s die f).sec = s.sec ∧ (withDie s die f).ctr = s.ctr
    ∧ (withDie s die f).writes = s.writes ∧ (withDie s die f).msi = s.msi := by
  and_intros <;> rfl

@[simp] theorem withTab_kept (s : State) (n : Nat) (f : Tablature → Tablature) :
    (withTab s n f).pending = s.pending ∧ (withTab s n f).free = s.free ∧ (withTab s n f).time = s.time
    ∧ (withTab s n f).pins = s.pins ∧ (withTab s n f).power = s.power ∧ (withTab s n f).tap = s.tap
    ∧ (withTab s n f).portA = s.portA ∧ (withTab s n f).portB = s.portB ∧ (withTab s n f).chans = s.chans
    ∧ (withTab s n f).rlocks = s.rlocks ∧ (withTab s n f).pinSlots = s.pinSlots ∧ (withTab s n f).pageReqs = s.pageReqs
    ∧ (withTab s n f).indexes = s.indexes ∧ (withTab s n f).ring0 = s.ring0 ∧ (withTab s n f).ring1 = s.ring1
    ∧ (withTab s n f).kernels = s.kernels ∧ (withTab s n f).queries = s.queries ∧ (withTab s n f).bridges = s.bridges
    ∧ (withTab s n f).strums = s.strums ∧ (withTab s n f).strays = s.strays ∧ (withTab s n f).childNext = s.childNext
    ∧ (withTab s n f).fabric = s.fabric ∧ (withTab s n f).dict = s.dict ∧ (withTab s n f).log = s.log
    ∧ (withTab s n f).integ = s.integ ∧ (withTab s n f).sec = s.sec ∧ (withTab s n f).ctr = s.ctr
    ∧ (withTab s n f).writes = s.writes ∧ (withTab s n f).msi = s.msi := by
  and_intros <;> rfl

@[simp] theorem setCore_kept (s : State) (die c : Nat) (k : Core) :
    (setCore s die c k).pending = s.pending ∧ (setCore s die c k).free = s.free ∧ (setCore s die c k).time = s.time
    ∧ (setCore s die c k).pins = s.pins ∧ (setCore s die c k).power = s.power ∧ (setCore s die c k).tap = s.tap
    ∧ (setCore s die c k).portA = s.portA ∧ (setCore s die c k).portB = s.portB ∧ (setCore s die c k).chans = s.chans
    ∧ (setCore s die c k).rlocks = s.rlocks ∧ (setCore s die c k).pinSlots = s.pinSlots
    ∧ (setCore s die c k).pageReqs = s.pageReqs ∧ (setCore s die c k).indexes = s.indexes
    ∧ (setCore s die c k).ring0 = s.ring0 ∧ (setCore s die c k).ring1 = s.ring1 ∧ (setCore s die c k).kernels = s.kernels
    ∧ (setCore s die c k).queries = s.queries ∧ (setCore s die c k).bridges = s.bridges
    ∧ (setCore s die c k).strums = s.strums ∧ (setCore s die c k).strays = s.strays
    ∧ (setCore s die c k).childNext = s.childNext ∧ (setCore s die c k).fabric = s.fabric ∧ (setCore s die c k).dict = s.dict
    ∧ (setCore s die c k).log = s.log ∧ (setCore s die c k).integ = s.integ ∧ (setCore s die c k).sec = s.sec
    ∧ (setCore s die c k).ctr = s.ctr ∧ (setCore s die c k).writes = s.writes ∧ (setCore s die c k).msi = s.msi := by
  and_intros <;> rfl

@[simp] theorem withStream_kept (s : State) (die n : Nat) (f : StreamSt → StreamSt) :
    (withStream s die n f).pending = s.pending ∧ (withStream s die n f).free = s.free ∧ (withStream s die n f).time = s.time
    ∧ (withStream s die n f).pins = s.pins ∧ (withStream s die n f).power = s.power ∧ (withStream s die n f).tap = s.tap
    ∧ (withStream s die n f).portA = s.portA ∧ (withStream s die n f).portB = s.portB
    ∧ (withStream s die n f).chans = s.chans ∧ (withStream s die n f).rlocks = s.rlocks
    ∧ (withStream s die n f).pinSlots = s.pinSlots ∧ (withStream s die n f).pageReqs = s.pageReqs
    ∧ (withStream s die n f).indexes = s.indexes ∧ (withStream s die n f).ring0 = s.ring0
    ∧ (withStream s die n f).ring1 = s.ring1 ∧ (withStream s die n f).kernels = s.kernels
    ∧ (withStream s die n f).queries = s.queries ∧ (withStream s die n f).bridges = s.bridges
    ∧ (withStream s die n f).strums = s.strums ∧ (withStream s die n f).strays = s.strays
    ∧ (withStream s die n f).childNext = s.childNext ∧ (withStream s die n f).fabric = s.fabric
    ∧ (withStream s die n f).dict = s.dict ∧ (withStream s die n f).log = s.log ∧ (withStream s die n f).integ = s.integ
    ∧ (withStream s die n f).sec = s.sec ∧ (withStream s die n f).ctr = s.ctr ∧ (withStream s die n f).writes = s.writes
    ∧ (withStream s die n f).msi = s.msi := by
  and_intros <;> rfl

@[simp] theorem withMacro_kept (s : State) (die core : Nat) (u : ExecUnit) (f : Macro → Macro) :
    (withMacro s die core u f).pending = s.pending ∧ (withMacro s die core u f).free = s.free
    ∧ (withMacro s die core u f).time = s.time ∧ (withMacro s die core u f).pins = s.pins
    ∧ (withMacro s die core u f).power = s.power ∧ (withMacro s die core u f).tap = s.tap
    ∧ (withMacro s die core u f).portA = s.portA ∧ (withMacro s die core u f).portB = s.portB
    ∧ (withMacro s die core u f).chans = s.chans ∧ (withMacro s die core u f).rlocks = s.rlocks
    ∧ (withMacro s die core u f).pinSlots = s.pinSlots ∧ (withMacro s die core u f).pageReqs = s.pageReqs
    ∧ (withMacro s die core u f).indexes = s.indexes ∧ (withMacro s die core u f).ring0 = s.ring0
    ∧ (withMacro s die core u f).ring1 = s.ring1 ∧ (withMacro s die core u f).kernels = s.kernels
    ∧ (withMacro s die core u f).queries = s.queries ∧ (withMacro s die core u f).bridges = s.bridges
    ∧ (withMacro s die core u f).strums = s.strums ∧ (withMacro s die core u f).strays = s.strays
    ∧ (withMacro s die core u f).childNext = s.childNext ∧ (withMacro s die core u f).fabric = s.fabric
    ∧ (withMacro s die core u f).dict = s.dict ∧ (withMacro s die core u f).log = s.log
    ∧ (withMacro s die core u f).integ = s.integ ∧ (withMacro s die core u f).sec = s.sec
    ∧ (withMacro s die core u f).ctr = s.ctr ∧ (withMacro s die core u f).writes = s.writes
    ∧ (withMacro s die core u f).msi = s.msi := by
  and_intros <;> rfl

@[simp] theorem setFabPort_kept (s : State) (i : Nat) (p : FabPort) :
    (setFabPort s i p).pending = s.pending ∧ (setFabPort s i p).free = s.free ∧ (setFabPort s i p).time = s.time
    ∧ (setFabPort s i p).pins = s.pins ∧ (setFabPort s i p).power = s.power ∧ (setFabPort s i p).tap = s.tap
    ∧ (setFabPort s i p).portA = s.portA ∧ (setFabPort s i p).portB = s.portB ∧ (setFabPort s i p).chans = s.chans
    ∧ (setFabPort s i p).rlocks = s.rlocks ∧ (setFabPort s i p).pinSlots = s.pinSlots
    ∧ (setFabPort s i p).pageReqs = s.pageReqs ∧ (setFabPort s i p).indexes = s.indexes ∧ (setFabPort s i p).ring0 = s.ring0
    ∧ (setFabPort s i p).ring1 = s.ring1 ∧ (setFabPort s i p).kernels = s.kernels ∧ (setFabPort s i p).queries = s.queries
    ∧ (setFabPort s i p).bridges = s.bridges ∧ (setFabPort s i p).strums = s.strums ∧ (setFabPort s i p).strays = s.strays
    ∧ (setFabPort s i p).childNext = s.childNext ∧ (setFabPort s i p).dense = s.dense ∧ (setFabPort s i p).dict = s.dict
    ∧ (setFabPort s i p).log = s.log ∧ (setFabPort s i p).integ = s.integ ∧ (setFabPort s i p).sec = s.sec
    ∧ (setFabPort s i p).ctr = s.ctr ∧ (setFabPort s i p).writes = s.writes ∧ (setFabPort s i p).msi = s.msi := by
  and_intros <;> rfl

@[simp] theorem freeFlits_kept (s : State) (i c n : Nat) :
    (freeFlits s i c n).pending = s.pending ∧ (freeFlits s i c n).free = s.free ∧ (freeFlits s i c n).time = s.time
    ∧ (freeFlits s i c n).pins = s.pins ∧ (freeFlits s i c n).power = s.power ∧ (freeFlits s i c n).tap = s.tap
    ∧ (freeFlits s i c n).portA = s.portA ∧ (freeFlits s i c n).portB = s.portB ∧ (freeFlits s i c n).chans = s.chans
    ∧ (freeFlits s i c n).rlocks = s.rlocks ∧ (freeFlits s i c n).pinSlots = s.pinSlots
    ∧ (freeFlits s i c n).pageReqs = s.pageReqs ∧ (freeFlits s i c n).indexes = s.indexes
    ∧ (freeFlits s i c n).ring0 = s.ring0 ∧ (freeFlits s i c n).ring1 = s.ring1 ∧ (freeFlits s i c n).kernels = s.kernels
    ∧ (freeFlits s i c n).queries = s.queries ∧ (freeFlits s i c n).bridges = s.bridges
    ∧ (freeFlits s i c n).strums = s.strums ∧ (freeFlits s i c n).strays = s.strays
    ∧ (freeFlits s i c n).childNext = s.childNext ∧ (freeFlits s i c n).dense = s.dense ∧ (freeFlits s i c n).dict = s.dict
    ∧ (freeFlits s i c n).log = s.log ∧ (freeFlits s i c n).integ = s.integ ∧ (freeFlits s i c n).sec = s.sec
    ∧ (freeFlits s i c n).ctr = s.ctr ∧ (freeFlits s i c n).writes = s.writes ∧ (freeFlits s i c n).msi = s.msi := by
  and_intros <;> rfl

@[simp] theorem sendLc_kept (s : State) (i : Nat) (op : LcOp) (aseq tA tB : Nat) :
    (sendLc s i op aseq tA tB).pending = s.pending ∧ (sendLc s i op aseq tA tB).free = s.free
    ∧ (sendLc s i op aseq tA tB).time = s.time ∧ (sendLc s i op aseq tA tB).pins = s.pins
    ∧ (sendLc s i op aseq tA tB).power = s.power ∧ (sendLc s i op aseq tA tB).tap = s.tap
    ∧ (sendLc s i op aseq tA tB).portA = s.portA ∧ (sendLc s i op aseq tA tB).portB = s.portB
    ∧ (sendLc s i op aseq tA tB).chans = s.chans ∧ (sendLc s i op aseq tA tB).rlocks = s.rlocks
    ∧ (sendLc s i op aseq tA tB).pinSlots = s.pinSlots ∧ (sendLc s i op aseq tA tB).pageReqs = s.pageReqs
    ∧ (sendLc s i op aseq tA tB).indexes = s.indexes ∧ (sendLc s i op aseq tA tB).ring0 = s.ring0
    ∧ (sendLc s i op aseq tA tB).ring1 = s.ring1 ∧ (sendLc s i op aseq tA tB).kernels = s.kernels
    ∧ (sendLc s i op aseq tA tB).queries = s.queries ∧ (sendLc s i op aseq tA tB).bridges = s.bridges
    ∧ (sendLc s i op aseq tA tB).strums = s.strums ∧ (sendLc s i op aseq tA tB).strays = s.strays
    ∧ (sendLc s i op aseq tA tB).childNext = s.childNext ∧ (sendLc s i op aseq tA tB).dense = s.dense
    ∧ (sendLc s i op aseq tA tB).dict = s.dict ∧ (sendLc s i op aseq tA tB).log = s.log
    ∧ (sendLc s i op aseq tA tB).integ = s.integ ∧ (sendLc s i op aseq tA tB).sec = s.sec
    ∧ (sendLc s i op aseq tA tB).ctr = s.ctr ∧ (sendLc s i op aseq tA tB).writes = s.writes
    ∧ (sendLc s i op aseq tA tB).msi = s.msi := by
  and_intros <;> rfl

@[simp] theorem pump_kept (s : State) (i : Nat) :
    (pump s i).pending = s.pending ∧ (pump s i).free = s.free ∧ (pump s i).time = s.time ∧ (pump s i).pins = s.pins
    ∧ (pump s i).power = s.power ∧ (pump s i).tap = s.tap ∧ (pump s i).portA = s.portA ∧ (pump s i).portB = s.portB
    ∧ (pump s i).chans = s.chans ∧ (pump s i).rlocks = s.rlocks ∧ (pump s i).pinSlots = s.pinSlots
    ∧ (pump s i).pageReqs = s.pageReqs ∧ (pump s i).indexes = s.indexes ∧ (pump s i).ring0 = s.ring0
    ∧ (pump s i).ring1 = s.ring1 ∧ (pump s i).kernels = s.kernels ∧ (pump s i).queries = s.queries
    ∧ (pump s i).bridges = s.bridges ∧ (pump s i).strums = s.strums ∧ (pump s i).strays = s.strays
    ∧ (pump s i).childNext = s.childNext ∧ (pump s i).dense = s.dense ∧ (pump s i).dict = s.dict ∧ (pump s i).log = s.log
    ∧ (pump s i).integ = s.integ ∧ (pump s i).sec = s.sec ∧ (pump s i).writes = s.writes ∧ (pump s i).msi = s.msi := by
  and_intros <;> rfl

@[simp] theorem withPath_kept (s : State) (n : Nat) (f : Path → Path) :
    (withPath s n f).pending = s.pending ∧ (withPath s n f).free = s.free ∧ (withPath s n f).time = s.time
    ∧ (withPath s n f).pins = s.pins ∧ (withPath s n f).power = s.power ∧ (withPath s n f).tap = s.tap
    ∧ (withPath s n f).portA = s.portA ∧ (withPath s n f).portB = s.portB ∧ (withPath s n f).chans = s.chans
    ∧ (withPath s n f).rlocks = s.rlocks ∧ (withPath s n f).pinSlots = s.pinSlots ∧ (withPath s n f).pageReqs = s.pageReqs
    ∧ (withPath s n f).indexes = s.indexes ∧ (withPath s n f).ring0 = s.ring0 ∧ (withPath s n f).ring1 = s.ring1
    ∧ (withPath s n f).kernels = s.kernels ∧ (withPath s n f).queries = s.queries ∧ (withPath s n f).bridges = s.bridges
    ∧ (withPath s n f).strums = s.strums ∧ (withPath s n f).strays = s.strays ∧ (withPath s n f).childNext = s.childNext
    ∧ (withPath s n f).dense = s.dense ∧ (withPath s n f).fabric = s.fabric ∧ (withPath s n f).log = s.log
    ∧ (withPath s n f).integ = s.integ ∧ (withPath s n f).sec = s.sec ∧ (withPath s n f).ctr = s.ctr
    ∧ (withPath s n f).writes = s.writes ∧ (withPath s n f).msi = s.msi := by
  and_intros <;> rfl

@[simp] theorem withCores_kept (s : State) (die : Nat) (f : DieCores → DieCores) :
    (withCores s die f).pending = s.pending ∧ (withCores s die f).free = s.free ∧ (withCores s die f).time = s.time
    ∧ (withCores s die f).pins = s.pins ∧ (withCores s die f).power = s.power ∧ (withCores s die f).tap = s.tap
    ∧ (withCores s die f).portA = s.portA ∧ (withCores s die f).portB = s.portB ∧ (withCores s die f).chans = s.chans
    ∧ (withCores s die f).rlocks = s.rlocks ∧ (withCores s die f).pinSlots = s.pinSlots
    ∧ (withCores s die f).pageReqs = s.pageReqs ∧ (withCores s die f).indexes = s.indexes
    ∧ (withCores s die f).ring0 = s.ring0 ∧ (withCores s die f).ring1 = s.ring1 ∧ (withCores s die f).kernels = s.kernels
    ∧ (withCores s die f).queries = s.queries ∧ (withCores s die f).bridges = s.bridges
    ∧ (withCores s die f).strums = s.strums ∧ (withCores s die f).strays = s.strays
    ∧ (withCores s die f).childNext = s.childNext ∧ (withCores s die f).dense = s.dense
    ∧ (withCores s die f).fabric = s.fabric ∧ (withCores s die f).dict = s.dict ∧ (withCores s die f).log = s.log
    ∧ (withCores s die f).sec = s.sec ∧ (withCores s die f).ctr = s.ctr ∧ (withCores s die f).writes = s.writes
    ∧ (withCores s die f).msi = s.msi := by
  and_intros <;> rfl

@[simp] theorem touch_kept (s : State)  :
    (touch s).pending = s.pending ∧ (touch s).free = s.free ∧ (touch s).time = s.time ∧ (touch s).pins = s.pins
    ∧ (touch s).tap = s.tap ∧ (touch s).portA = s.portA ∧ (touch s).portB = s.portB ∧ (touch s).chans = s.chans
    ∧ (touch s).rlocks = s.rlocks ∧ (touch s).pinSlots = s.pinSlots ∧ (touch s).pageReqs = s.pageReqs
    ∧ (touch s).indexes = s.indexes ∧ (touch s).ring0 = s.ring0 ∧ (touch s).ring1 = s.ring1 ∧ (touch s).kernels = s.kernels
    ∧ (touch s).queries = s.queries ∧ (touch s).bridges = s.bridges ∧ (touch s).strums = s.strums
    ∧ (touch s).strays = s.strays ∧ (touch s).childNext = s.childNext ∧ (touch s).dense = s.dense
    ∧ (touch s).fabric = s.fabric ∧ (touch s).dict = s.dict ∧ (touch s).log = s.log ∧ (touch s).integ = s.integ
    ∧ (touch s).sec = s.sec ∧ (touch s).ctr = s.ctr ∧ (touch s).writes = s.writes ∧ (touch s).msi = s.msi := by
  and_intros <;> rfl

@[simp] theorem setDuty_kept (s : State) (dies : List Nat) (f : Nat → Nat) :
    (setDuty s dies f).pending = s.pending ∧ (setDuty s dies f).free = s.free ∧ (setDuty s dies f).time = s.time
    ∧ (setDuty s dies f).pins = s.pins ∧ (setDuty s dies f).tap = s.tap ∧ (setDuty s dies f).portA = s.portA
    ∧ (setDuty s dies f).portB = s.portB ∧ (setDuty s dies f).chans = s.chans ∧ (setDuty s dies f).rlocks = s.rlocks
    ∧ (setDuty s dies f).pinSlots = s.pinSlots ∧ (setDuty s dies f).pageReqs = s.pageReqs
    ∧ (setDuty s dies f).indexes = s.indexes ∧ (setDuty s dies f).ring0 = s.ring0 ∧ (setDuty s dies f).ring1 = s.ring1
    ∧ (setDuty s dies f).kernels = s.kernels ∧ (setDuty s dies f).queries = s.queries
    ∧ (setDuty s dies f).bridges = s.bridges ∧ (setDuty s dies f).strums = s.strums ∧ (setDuty s dies f).strays = s.strays
    ∧ (setDuty s dies f).childNext = s.childNext ∧ (setDuty s dies f).dense = s.dense ∧ (setDuty s dies f).fabric = s.fabric
    ∧ (setDuty s dies f).dict = s.dict ∧ (setDuty s dies f).log = s.log ∧ (setDuty s dies f).integ = s.integ
    ∧ (setDuty s dies f).sec = s.sec ∧ (setDuty s dies f).ctr = s.ctr ∧ (setDuty s dies f).writes = s.writes
    ∧ (setDuty s dies f).msi = s.msi := by
  and_intros <;> rfl

@[simp] theorem setMeter_kept (s : State) (m : Nat) :
    (setMeter s m).pending = s.pending ∧ (setMeter s m).free = s.free ∧ (setMeter s m).time = s.time
    ∧ (setMeter s m).pins = s.pins ∧ (setMeter s m).tap = s.tap ∧ (setMeter s m).portA = s.portA
    ∧ (setMeter s m).portB = s.portB ∧ (setMeter s m).chans = s.chans ∧ (setMeter s m).rlocks = s.rlocks
    ∧ (setMeter s m).pinSlots = s.pinSlots ∧ (setMeter s m).pageReqs = s.pageReqs ∧ (setMeter s m).indexes = s.indexes
    ∧ (setMeter s m).ring0 = s.ring0 ∧ (setMeter s m).ring1 = s.ring1 ∧ (setMeter s m).kernels = s.kernels
    ∧ (setMeter s m).queries = s.queries ∧ (setMeter s m).bridges = s.bridges ∧ (setMeter s m).strums = s.strums
    ∧ (setMeter s m).strays = s.strays ∧ (setMeter s m).childNext = s.childNext ∧ (setMeter s m).dense = s.dense
    ∧ (setMeter s m).fabric = s.fabric ∧ (setMeter s m).dict = s.dict ∧ (setMeter s m).log = s.log
    ∧ (setMeter s m).integ = s.integ ∧ (setMeter s m).sec = s.sec ∧ (setMeter s m).ctr = s.ctr
    ∧ (setMeter s m).writes = s.writes ∧ (setMeter s m).msi = s.msi := by
  and_intros <;> rfl

@[simp] theorem setDuties_kept (s : State) (l : List Nat) :
    (setDuties s l).pending = s.pending ∧ (setDuties s l).free = s.free ∧ (setDuties s l).time = s.time
    ∧ (setDuties s l).pins = s.pins ∧ (setDuties s l).tap = s.tap ∧ (setDuties s l).portA = s.portA
    ∧ (setDuties s l).portB = s.portB ∧ (setDuties s l).chans = s.chans ∧ (setDuties s l).rlocks = s.rlocks
    ∧ (setDuties s l).pinSlots = s.pinSlots ∧ (setDuties s l).pageReqs = s.pageReqs ∧ (setDuties s l).indexes = s.indexes
    ∧ (setDuties s l).ring0 = s.ring0 ∧ (setDuties s l).ring1 = s.ring1 ∧ (setDuties s l).kernels = s.kernels
    ∧ (setDuties s l).queries = s.queries ∧ (setDuties s l).bridges = s.bridges ∧ (setDuties s l).strums = s.strums
    ∧ (setDuties s l).strays = s.strays ∧ (setDuties s l).childNext = s.childNext ∧ (setDuties s l).dense = s.dense
    ∧ (setDuties s l).fabric = s.fabric ∧ (setDuties s l).dict = s.dict ∧ (setDuties s l).log = s.log
    ∧ (setDuties s l).integ = s.integ ∧ (setDuties s l).sec = s.sec ∧ (setDuties s l).ctr = s.ctr
    ∧ (setDuties s l).writes = s.writes ∧ (setDuties s l).msi = s.msi := by
  and_intros <;> rfl

@[simp] theorem drawToken_kept (s : State)  :
    (drawToken s).pending = s.pending ∧ (drawToken s).free = s.free ∧ (drawToken s).time = s.time
    ∧ (drawToken s).pins = s.pins ∧ (drawToken s).tap = s.tap ∧ (drawToken s).portA = s.portA ∧ (drawToken s).portB = s.portB
    ∧ (drawToken s).chans = s.chans ∧ (drawToken s).rlocks = s.rlocks ∧ (drawToken s).pinSlots = s.pinSlots
    ∧ (drawToken s).pageReqs = s.pageReqs ∧ (drawToken s).indexes = s.indexes ∧ (drawToken s).ring0 = s.ring0
    ∧ (drawToken s).ring1 = s.ring1 ∧ (drawToken s).kernels = s.kernels ∧ (drawToken s).queries = s.queries
    ∧ (drawToken s).bridges = s.bridges ∧ (drawToken s).strums = s.strums ∧ (drawToken s).strays = s.strays
    ∧ (drawToken s).childNext = s.childNext ∧ (drawToken s).dense = s.dense ∧ (drawToken s).fabric = s.fabric
    ∧ (drawToken s).dict = s.dict ∧ (drawToken s).log = s.log ∧ (drawToken s).integ = s.integ ∧ (drawToken s).sec = s.sec
    ∧ (drawToken s).ctr = s.ctr ∧ (drawToken s).writes = s.writes ∧ (drawToken s).msi = s.msi := by
  and_intros <;> rfl

@[simp] theorem gainToken_kept (s : State)  :
    (gainToken s).pending = s.pending ∧ (gainToken s).free = s.free ∧ (gainToken s).time = s.time
    ∧ (gainToken s).pins = s.pins ∧ (gainToken s).tap = s.tap ∧ (gainToken s).portA = s.portA ∧ (gainToken s).portB = s.portB
    ∧ (gainToken s).chans = s.chans ∧ (gainToken s).rlocks = s.rlocks ∧ (gainToken s).pinSlots = s.pinSlots
    ∧ (gainToken s).pageReqs = s.pageReqs ∧ (gainToken s).indexes = s.indexes ∧ (gainToken s).ring0 = s.ring0
    ∧ (gainToken s).ring1 = s.ring1 ∧ (gainToken s).kernels = s.kernels ∧ (gainToken s).queries = s.queries
    ∧ (gainToken s).bridges = s.bridges ∧ (gainToken s).strums = s.strums ∧ (gainToken s).strays = s.strays
    ∧ (gainToken s).childNext = s.childNext ∧ (gainToken s).dense = s.dense ∧ (gainToken s).fabric = s.fabric
    ∧ (gainToken s).dict = s.dict ∧ (gainToken s).log = s.log ∧ (gainToken s).integ = s.integ ∧ (gainToken s).sec = s.sec
    ∧ (gainToken s).ctr = s.ctr ∧ (gainToken s).writes = s.writes ∧ (gainToken s).msi = s.msi := by
  and_intros <;> rfl

@[simp] theorem freeHome_kept (s : State) (x : Queued) :
    (freeHome s x).pending = s.pending ∧ (freeHome s x).free = s.free ∧ (freeHome s x).time = s.time
    ∧ (freeHome s x).pins = s.pins ∧ (freeHome s x).power = s.power ∧ (freeHome s x).tap = s.tap
    ∧ (freeHome s x).portA = s.portA ∧ (freeHome s x).portB = s.portB ∧ (freeHome s x).chans = s.chans
    ∧ (freeHome s x).rlocks = s.rlocks ∧ (freeHome s x).pinSlots = s.pinSlots ∧ (freeHome s x).pageReqs = s.pageReqs
    ∧ (freeHome s x).indexes = s.indexes ∧ (freeHome s x).ring0 = s.ring0 ∧ (freeHome s x).ring1 = s.ring1
    ∧ (freeHome s x).kernels = s.kernels ∧ (freeHome s x).queries = s.queries ∧ (freeHome s x).bridges = s.bridges
    ∧ (freeHome s x).strums = s.strums ∧ (freeHome s x).strays = s.strays ∧ (freeHome s x).childNext = s.childNext
    ∧ (freeHome s x).dense = s.dense ∧ (freeHome s x).dict = s.dict ∧ (freeHome s x).log = s.log
    ∧ (freeHome s x).integ = s.integ ∧ (freeHome s x).sec = s.sec ∧ (freeHome s x).ctr = s.ctr
    ∧ (freeHome s x).writes = s.writes ∧ (freeHome s x).msi = s.msi := by
  and_intros <;> rfl

@[simp] theorem forgetHome_kept (s : State) (i : Nat) :
    (forgetHome s i).pending = s.pending ∧ (forgetHome s i).free = s.free ∧ (forgetHome s i).time = s.time
    ∧ (forgetHome s i).pins = s.pins ∧ (forgetHome s i).power = s.power ∧ (forgetHome s i).tap = s.tap
    ∧ (forgetHome s i).portA = s.portA ∧ (forgetHome s i).portB = s.portB ∧ (forgetHome s i).chans = s.chans
    ∧ (forgetHome s i).rlocks = s.rlocks ∧ (forgetHome s i).pinSlots = s.pinSlots ∧ (forgetHome s i).pageReqs = s.pageReqs
    ∧ (forgetHome s i).indexes = s.indexes ∧ (forgetHome s i).ring0 = s.ring0 ∧ (forgetHome s i).ring1 = s.ring1
    ∧ (forgetHome s i).kernels = s.kernels ∧ (forgetHome s i).queries = s.queries ∧ (forgetHome s i).bridges = s.bridges
    ∧ (forgetHome s i).strums = s.strums ∧ (forgetHome s i).strays = s.strays ∧ (forgetHome s i).childNext = s.childNext
    ∧ (forgetHome s i).dense = s.dense ∧ (forgetHome s i).dict = s.dict ∧ (forgetHome s i).log = s.log
    ∧ (forgetHome s i).integ = s.integ ∧ (forgetHome s i).sec = s.sec ∧ (forgetHome s i).ctr = s.ctr
    ∧ (forgetHome s i).writes = s.writes ∧ (forgetHome s i).msi = s.msi := by
  and_intros <;> rfl

@[simp] theorem setPort_kept (s : State) (p : Port) (h : HostPort) :
    (setPort s p h).pending = s.pending ∧ (setPort s p h).free = s.free ∧ (setPort s p h).time = s.time
    ∧ (setPort s p h).pins = s.pins ∧ (setPort s p h).power = s.power ∧ (setPort s p h).tap = s.tap
    ∧ (setPort s p h).chans = s.chans ∧ (setPort s p h).rlocks = s.rlocks ∧ (setPort s p h).pinSlots = s.pinSlots
    ∧ (setPort s p h).pageReqs = s.pageReqs ∧ (setPort s p h).indexes = s.indexes ∧ (setPort s p h).ring0 = s.ring0
    ∧ (setPort s p h).ring1 = s.ring1 ∧ (setPort s p h).kernels = s.kernels ∧ (setPort s p h).queries = s.queries
    ∧ (setPort s p h).bridges = s.bridges ∧ (setPort s p h).strums = s.strums ∧ (setPort s p h).strays = s.strays
    ∧ (setPort s p h).childNext = s.childNext ∧ (setPort s p h).dense = s.dense ∧ (setPort s p h).fabric = s.fabric
    ∧ (setPort s p h).dict = s.dict ∧ (setPort s p h).log = s.log ∧ (setPort s p h).integ = s.integ
    ∧ (setPort s p h).sec = s.sec ∧ (setPort s p h).ctr = s.ctr ∧ (setPort s p h).writes = s.writes
    ∧ (setPort s p h).msi = s.msi := by
  cases p <;> and_intros <;> rfl

end Sys2Proof.Machine
end

