-- ==== Sys2Proof/Laws/Ops.lean ====
section
/-!
SUPPORT. What the shared operations of channels, ports, counters, stored values and the log do: a lemma for each, which later
proofs cite.
-/
namespace Sys2Proof.Machine

/-! ### Channels -/

theorem chan_setChan (s : State) (n m : Nat) (c : Channel) : chan (setChan s n c) m = if m = n then c else chan s m := by
  unfold chan setChan
  by_cases h : m = n <;> simp [look_keep, h]

@[simp] theorem chan_setChan_same (s : State) (n : Nat) (c : Channel) : chan (setChan s n c) n = c := by simp [chan_setChan]

theorem setChan_eq (s : State) (n : Nat) (c : Channel) : setChan s n c = { s with chans := (setChan s n c).chans } := rfl

theorem find_map_seq {f : OutCmd → OutCmd} (hf : ∀ o, (f o).seq = o.seq) (l : List OutCmd) (seq q : Nat) :
    (l.map (fun o => if o.seq == seq then f o else o)).find? (fun o => o.seq == q)
      = (l.find? (fun o => o.seq == q)).map (fun o => if o.seq == seq then f o else o) := by
  induction l with
  | nil => rfl
  | cons o r ih =>
    by_cases h : o.seq = seq <;> by_cases g : o.seq = q <;> simp_all

/-- A change of one outstanding command: that command is changed, every other stands. -/
theorem outCmd_withCmd {f : OutCmd → OutCmd} (hf : ∀ o, (f o).seq = o.seq) (s : State) (slot seq n q : Nat) :
    outCmd (withCmd s slot seq f) n q
      = if n = slot ∧ q = seq then (outCmd s n q).map f else outCmd s n q := by
  unfold outCmd withCmd
  simp only [chan_setChan]
  by_cases h : n = slot
  · subst h
    simp only [if_true, find_map_seq hf, true_and]
    by_cases g : q = seq
    · subst g
      cases e : (chan s n).cmds.find? (fun o => o.seq == q) with
      | none => simp
      | some o => have := List.find?_some e; simp_all
    · cases e : (chan s n).cmds.find? (fun o => o.seq == q) with
      | none => simp [g]
      | some o => have := List.find?_some e; simp_all
  · simp [h]

theorem chan_withCmd (s : State) (slot seq n : Nat) (f : OutCmd → OutCmd) :
    chan (withCmd s slot seq f) n = if n = slot then
      { chan s slot with cmds := (chan s slot).cmds.map (fun o => if o.seq == seq then f o else o) } else chan s n := by
  simp [withCmd, chan_setChan]

/-- A command that ends its work: it is done with the completion, waits in the order of endings, and nothing else changes. -/
theorem finish_spec {s : State} {slot seq : Nat} {o : OutCmd} (k : Compl) (h : outCmd s slot seq = some o) :
    Finished (finish s slot seq k) slot seq k ∧ SameButCmd s (finish s slot seq k) slot seq := by
  have hf : ∀ o : OutCmd, ({ o with stage := .done k } : OutCmd).seq = o.seq := fun _ => rfl
  have e : ∀ q, outCmd (withCmd s slot seq (fun o => { o with stage := .done k })) slot q
      = if q = seq then (outCmd s slot q).map (fun o => { o with stage := .done k }) else outCmd s slot q := by
    intro q; rw [outCmd_withCmd hf]; simp
  have c : ∀ n, n ≠ slot → chan (withCmd s slot seq (fun o => { o with stage := .done k })) n = chan s n := by
    intro n hn; simp [chan_withCmd, hn]
  unfold finish
  simp only [h, Option.isNone_some, Bool.false_eq_true, if_false]
  split
  · next m =>
    refine ⟨⟨{ o with stage := .done k }, ?_, rfl, by simpa using m⟩, rfl, c, ?_, ?_⟩
    · rw [e]; simp [h]
    · simp [chan_withCmd]
    · intro q hq; rw [e]; simp [hq]
  · refine ⟨⟨{ o with stage := .done k }, ?_, rfl, by simp⟩, rfl, ?_, ?_, ?_⟩
    · have := e seq; rw [h] at this; simp only [outCmd, chan_setChan_same] at this ⊢; rw [this]; simp
    · intro n hn; rw [chan_setChan]; simp [hn, c n hn]
    · simp [chan_withCmd]
    · intro q hq
      have := e q; simp only [outCmd, chan_setChan_same] at this ⊢; rw [this]; simp [hq]

theorem finishWith_spec {s : State} {slot seq : Nat} {o : OutCmd} (st : Status) (h : outCmd s slot seq = some o) :
    Finished (finishWith s slot seq st) slot seq { status := st } ∧ SameButCmd s (finishWith s slot seq st) slot seq :=
  finish_spec _ h

/-- A command that is not outstanding leaves no trace. -/
theorem finish_absent {s : State} {slot seq : Nat} (k : Compl) (h : outCmd s slot seq = none) : finish s slot seq k = s := by
  simp [finish, h]

theorem setStage_spec {s : State} {slot seq : Nat} {o : OutCmd} (st : Stage) (h : outCmd s slot seq = some o) :
    outCmd (setStage s slot seq st) slot seq = some { o with stage := st } ∧ SameButCmd s (setStage s slot seq st) slot seq := by
  have hf : ∀ o : OutCmd, ({ o with stage := st } : OutCmd).seq = o.seq := fun _ => rfl
  unfold setStage
  refine ⟨?_, rfl, ?_, ?_, ?_⟩
  · rw [outCmd_withCmd hf]; simp [h]
  · intro n hn; simp [chan_withCmd, hn]
  · simp [chan_withCmd]
  · intro q hq; rw [outCmd_withCmd hf]; simp [hq]

/-- A command that may be admitted is outstanding, fetched, of that opcode and not refused at its fetch, on a channel that is
ACTIVE or in ERROR. -/
theorem admitting_spec {s : State} {slot seq op : Nat} {o : OutCmd} (h : admitting s slot seq op = some o) :
    outCmd s slot seq = some o ∧ (cOpcode o.word = op ∧ refused s slot o.word = false) ∧ isFetched o = true
      ∧ ((chan s slot).state = .active ∨ (chan s slot).state = .error) := by
  unfold admitting at h
  obtain ⟨h1, h2⟩ := Option.filter_eq_some_iff.1 h
  unfold mayAdmit at h1
  simp only at h1
  split at h1
  · cases h1
  · next p e =>
    split at h1
    · next c =>
      cases h1
      simp only [Bool.and_eq_true, Bool.or_eq_true, beq_iff_eq] at c
      exact ⟨e, by simpa using h2, c.1.2, c.1.1⟩
    · cases h1

/-! ### Ports -/

theorem port_setPort (s : State) (p q : Port) (h : HostPort) : port (setPort s p h) q = if q = p then h else port s q := by
  cases p <;> cases q <;> rfl

@[simp] theorem port_setPort_same (s : State) (p : Port) (h : HostPort) : port (setPort s p h) p = h := by cases p <;> rfl

/-! ### Stored values and fabric ports -/

theorem ctlObj_setCtl (s : State) (key obj v key' obj' : Nat) :
    ctlObj (setCtl s key obj v) key' obj'
      = if key' * 65536 + obj' = key * 65536 + obj then (if v = defaultOf key then defaultOf key' else v) else ctlObj s key' obj' := by
  unfold ctlObj setCtl
  by_cases d : v = defaultOf key <;> by_cases e : key' * 65536 + obj' = key * 65536 + obj <;>
    simp [d, e, look_keep, look_forget]

theorem fabPort_setFabPort (s : State) (i j : Nat) (p : FabPort) (h : i < s.fabric.ports.length) :
    fabPort (setFabPort s i p) j = if j = i then p else fabPort s j := by
  unfold fabPort setFabPort nth
  by_cases e : i = j
  · subst e; simp [h]
  · simp [List.getD, e, Ne.symm e]

/-- A port that is not DISABLED exists. -/
theorem fabPort_exists {s : State} {i : Nat} (h : (fabPort s i).state ≠ .disabled) : i < s.fabric.ports.length := by
  by_cases c : i < s.fabric.ports.length
  · exact c
  · exact absurd (by simp [fabPort, nth, List.getD, List.getElem?_eq_none (Nat.le_of_not_lt c)]) h

/-! ### The log -/

@[simp] theorem ringPut_kept (l : Log) (e : Event) :
    (ringPut l e).next = l.next ∧ (ringPut l e).early = l.early ∧ (ringPut l e).fatal = l.fatal ∧ (ringPut l e).ack = l.ack
    ∧ (ringPut l e).isFatal = l.isFatal := by
  unfold ringPut; split <;> simp

/-- What every event does to the log, whichever ring holds it: it takes the next number, severity 3 goes to FL1 too, and
MODULE_FATAL sets FATAL. -/
theorem raise_log (s : State) (code sev kind source handle index : Nat) (args : List Nat) :
    (raise s code sev kind source handle index args).log.next = s.log.next + 1
    ∧ (raise s code sev kind source handle index args).log.ack = s.log.ack
    ∧ (raise s code sev kind source handle index args).log.isFatal = (s.log.isFatal || code == 0x0114)
    ∧ (raise s code sev kind source handle index args).log.fatal
      = if sev = 3 then ({ seq := s.log.next, time := s.time.base, code := code, severity := sev, kind := kind, source := source,
                           handle := handle, index := index, args := args } :: s.log.fatal).take 16 else s.log.fatal := by
  unfold raise
  simp only
  split
  · simp
  · split <;> simp

@[simp] theorem raise_next (s : State) (code sev kind source handle index : Nat) (args : List Nat) :
    (raise s code sev kind source handle index args).log.next = s.log.next + 1 := (raise_log ..).1

@[simp] theorem raise_ack (s : State) (code sev kind source handle index : Nat) (args : List Nat) :
    (raise s code sev kind source handle index args).log.ack = s.log.ack := (raise_log ..).2.1

@[simp] theorem raise_isFatal (s : State) (code sev kind source handle index : Nat) (args : List Nat) :
    (raise s code sev kind source handle index args).log.isFatal = (s.log.isFatal || code == 0x0114) := (raise_log ..).2.2.1

end Sys2Proof.Machine
end

