-- ==== Sys2Proof/Laws/Sound.lean ====
section
/-!
SUPPORT. What no operation but the few that are made for it can do: `Sound s t` says that `t` has the queue of `s`, keeps the
order of the log and the rule of the TAP, takes no security version back, draws no key twice, opens no debug port, brings no
auxiliary power and changes no sampled strap. One lemma for each operation on the state, which later proofs cite.
-/
namespace Sys2Proof.Machine

/-- What a step keeps. -/
structure Sound (s t : State) : Prop where
  queue : t.pending = s.pending
  tap : TapOk s.tap → TapOk t.tap
  log : LogOk s.log s.power.farUp → LogOk t.log t.power.farUp
  version : s.sec.secVersion ≤ t.sec.secVersion
  drawn : s.sec.keysDrawn ≤ t.sec.keysDrawn
  debug : t.sec.dbg = .open_ → s.sec.dbg = .open_
  aux : s.pins.aux = false → t.pins.aux = false
  unsampled : s.pins.sampled = false → t.pins.sampled = false
  straps : s.pins.sampled = true → t.pins.aux = false
    ∨ (t.pins.sampled = true ∧ t.pins.modId = s.pins.modId ∧ t.pins.split = s.pins.split)

theorem Sound.refl (s : State) : Sound s s :=
  ⟨rfl, id, id, Nat.le_refl _, Nat.le_refl _, id, id, id, fun h => .inr ⟨h, rfl, rfl⟩⟩

theorem Sound.trans {s t u : State} (a : Sound s t) (b : Sound t u) : Sound s u where
  queue := b.queue.trans a.queue
  tap := b.tap ∘ a.tap
  log := b.log ∘ a.log
  version := Nat.le_trans a.version b.version
  drawn := Nat.le_trans a.drawn b.drawn
  debug := a.debug ∘ b.debug
  aux := b.aux ∘ a.aux
  unsampled := b.unsampled ∘ a.unsampled
  straps := fun h => by
    rcases a.straps h with x | ⟨x, y, z⟩
    · exact .inl (b.aux x)
    · rcases b.straps x with p | ⟨p, q, r⟩
      · exact .inl p
      · exact .inr ⟨p, q.trans y, r.trans z⟩

/-- An update of any fields but the queue, the TAP, the log, security, the pins and `farUp`. -/
theorem Sound.upd {s x : State} {free time power portA portB chans rlocks pinSlots pageReqs indexes ring0 ring1 kernels queries
    bridges strums strays childNext dense fabric dict integ ctr writes msi} (h : Sound s x) (e : power.farUp = x.power.farUp) :
    Sound s { pending := x.pending, free := free, time := time, pins := x.pins, power := power, tap := x.tap, portA := portA,
              portB := portB, chans := chans, rlocks := rlocks, pinSlots := pinSlots, pageReqs := pageReqs, indexes := indexes,
              ring0 := ring0, ring1 := ring1, kernels := kernels, queries := queries, bridges := bridges, strums := strums,
              strays := strays, childNext := childNext, dense := dense, fabric := fabric, dict := dict, log := x.log,
              integ := integ, sec := x.sec, ctr := ctr, writes := writes, msi := msi } := by
  refine h.trans ⟨rfl, id, ?_, Nat.le_refl _, Nat.le_refl _, id, id, id, fun h => .inr ⟨h, rfl, rfl⟩⟩
  simp only [e]; exact id

/-- A state that differs in nothing that counts, but for security that takes nothing back. -/
theorem Sound.near {s x t : State} (h : Sound s x) (queue : t.pending = x.pending) (tap : t.tap = x.tap) (log : t.log = x.log)
    (up : t.power.farUp = x.power.farUp) (pins : t.pins = x.pins) (v : x.sec.secVersion ≤ t.sec.secVersion)
    (d : x.sec.keysDrawn ≤ t.sec.keysDrawn) (o : t.sec.dbg = .open_ → x.sec.dbg = .open_) : Sound s t :=
  h.trans {
    queue := queue, tap := fun k => tap ▸ k, log := fun k => by rw [log, up]; exact k, version := v, drawn := d, debug := o
    aux := fun k => by rw [pins]; exact k, unsampled := fun k => by rw [pins]; exact k
    straps := fun k => .inr (by rw [pins]; exact ⟨k, rfl, rfl⟩) }

/-- An update of security that takes nothing back. -/
theorem Sound.secure {s x : State} {sec : Security} (h : Sound s x) (v : x.sec.secVersion ≤ sec.secVersion)
    (d : x.sec.keysDrawn ≤ sec.keysDrawn) (o : sec.dbg = .open_ → x.sec.dbg = .open_) : Sound s { x with sec := sec } :=
  h.near rfl rfl rfl rfl rfl v d o

theorem Sound.foldl {s x : State} {f : State → α → State} (l : List α) (hf : ∀ a y, Sound s y → Sound s (f y a)) (h : Sound s x) :
    Sound s (l.foldl f x) := by
  induction l generalizing x with
  | nil => exact h
  | cons a r ih => exact ih (hf a x h)

/-- A fold that may fail along a list. -/
theorem Sound.foldlSome {s : State} {f : Option State → α → Option State} (l : List α)
    (hf : ∀ a o, (∀ x, o = some x → Sound s x) → ∀ y, f o a = some y → Sound s y) (o : Option State) (h : ∀ x, o = some x → Sound s x) :
    ∀ t, l.foldl f o = some t → Sound s t := by
  induction l generalizing o with
  | nil => exact h
  | cons a r ih => exact ih (f o a) (hf a o h)

theorem Sound.of_pair {s t : State} {p : State × β} {x : β} (h : Sound s p.1) (e : p = (t, x)) : Sound s t := by
  subst e; exact h

theorem Sound.ite {s t u : State} {c : Prop} [Decidable c] (h : c → Sound s t) (g : ¬c → Sound s u) :
    Sound s (if c then t else u) := by
  split
  · exact h ‹_›
  · exact g ‹_›

theorem LogOk.raise {s : State} (h : LogOk s.log s.power.farUp) (code sev kind source handle index : Nat) (args : List Nat) :
    LogOk (raise s code sev kind source handle index args).log s.power.farUp := by
  obtain ⟨hp, hn, he, hr, hu, hd, hf, hs⟩ := h
  unfold LogOk Sys2Proof.Machine.raise farReady ringPut ringSize earlySize
  have taken : ∀ e : Event, (if sev = 3 then (e :: s.log.fatal).take 16 else s.log.fatal).length ≤ 16 := by
    intro e; split
    · rw [List.length_take]; omega
    · exact hf
  have three : ∀ e : Event, e.severity = sev →
      ∀ x, x ∈ (if sev = 3 then (e :: s.log.fatal).take 16 else s.log.fatal) → x.severity = 3 := by
    intro e v x m
    split at m
    · rcases List.mem_cons.1 (List.mem_of_mem_take m) with i | i
      · subst i; omega
      · exact hs x i
    · exact hs x m
  cases up : s.power.farUp
  · have r0 := hd up
    simp only [r0, List.append_nil] at hp hn
    simp only [Bool.false_eq_true, if_false]
    split
    · next lt =>
      refine ⟨?_, ?_, ?_, ?_, by simp, by simp [r0], taken _, three _ rfl⟩
      · simp only [r0, List.append_nil, List.pairwise_cons]; exact ⟨fun e m => hn e m, hp⟩
      · simp only [r0, List.append_nil, List.mem_cons]
        rintro e (i | i)
        · subst i; simp
        · have := hn e i; simp; omega
      · simp at lt ⊢; omega
      · simp [r0]
    · refine ⟨by simpa [r0] using hp, ?_, by simpa using he, by simp [r0], by simp, by simp [r0], taken _, three _ rfl⟩
      simp only [r0, List.append_nil]
      intro e i; have := hn e i; simp; omega
  · have e0 := hu up
    simp only [e0, List.nil_append] at hp hn
    simp only [if_true]
    split
    · next lt =>
      refine ⟨?_, ?_, by simp [e0], ?_, by simp [e0], by simp, taken _, three _ rfl⟩
      · simp only [e0, List.nil_append, List.pairwise_cons]; exact ⟨fun e m => hn e m, hp⟩
      · simp only [e0, List.nil_append, List.mem_cons]
        rintro e (i | i)
        · subst i; simp
        · have := hn e i; simp; omega
      · simp at lt ⊢; omega
    · next ge =>
      refine ⟨?_, ?_, by simp [e0], ?_, by simp [e0], by simp, taken _, three _ rfl⟩
      · simp only [e0, List.nil_append, List.pairwise_cons]
        exact ⟨fun e m => hn e (List.dropLast_subset _ m), hp.sublist (List.dropLast_sublist _)⟩
      · simp only [e0, List.nil_append, List.mem_cons]
        rintro e (i | i)
        · subst i; simp
        · have := hn e (List.dropLast_subset _ i); simp; omega
      · simp at ge ⊢; omega

theorem some_of_ite {c : Prop} [Decidable c] {a : Option β} {t : β} (e : (if c then none else a) = some t) : a = some t := by
  split at e
  · cases e
  · exact e

theorem LogOk.restart {l : Log} {up : Bool} (h : LogOk l up) : LogOk { fatal := l.fatal } false := by
  obtain ⟨_, _, _, _, _, _, f, g⟩ := h
  exact ⟨by simp, by simp, by simp, by simp, by simp, fun _ => rfl, f, g⟩

theorem raise_sound {s0 s : State} (h : Sound s0 s) (code sev kind source handle index : Nat) (args : List Nat) :
    Sound s0 (raise s code sev kind source handle index args) :=
  h.trans ⟨rfl, id, fun l => l.raise code sev kind source handle index args, Nat.le_refl _, Nat.le_refl _, id, id, id,
    fun h => .inr ⟨h, rfl, rfl⟩⟩

end Sys2Proof.Machine
end

