-- ==== Sys2Proof/Laws/SoundChannels.lean ====
section
/-!
SUPPORT. `Sound` for the operations on channels, the log and the memory of indexes.
-/
namespace Sys2Proof.Machine

theorem setPort_sound {s0 : State} (s : State) (p : Port) (h : HostPort) (hs : Sound s0 s) : Sound s0 (setPort s p h) := by
  unfold setPort
  try dsimp only
  iterate 2
    repeat' first | assumption | (with_reducible apply Sound.foldl) | (with_reducible apply Sound.ite) | exact rfl | (with_reducible intro _ _ _) | (with_reducible intro _)
    all_goals try with_reducible apply Sound.upd
    repeat' first | assumption | (with_reducible apply Sound.foldl) | (with_reducible apply Sound.ite) | exact rfl | (with_reducible intro _ _ _) | (with_reducible intro _)
    all_goals try split
    all_goals try dsimp only

theorem setCtl_sound {s0 : State} (s : State) (key : Nat) (obj : Nat) (v : Nat) (hs : Sound s0 s) : Sound s0 (setCtl s key obj v) := by
  unfold setCtl
  exact hs.upd rfl

theorem bump_sound {s0 : State} (s : State) (sub : Nat) (n : Nat) (hs : Sound s0 s) : Sound s0 (bump s sub n) := by
  unfold bump
  exact hs.upd rfl

theorem clearCounter_sound {s0 : State} (s : State) (sub : Nat) (hs : Sound s0 s) : Sound s0 (clearCounter s sub) := by
  unfold clearCounter
  exact hs.upd rfl

theorem drawToken_sound {s0 : State} (s : State) (hs : Sound s0 s) : Sound s0 (drawToken s) := by
  unfold drawToken
  exact hs.upd rfl

theorem gainToken_sound {s0 : State} (s : State) (hs : Sound s0 s) : Sound s0 (gainToken s) := by
  unfold gainToken
  exact hs.upd rfl

theorem setChan_sound {s0 : State} (s : State) (slot : Nat) (c : Channel) (hs : Sound s0 s) : Sound s0 (setChan s slot c) := by
  unfold setChan
  exact hs.upd rfl

theorem withCmd_sound {s0 : State} (s : State) (slot : Nat) (seq : Nat) (f : OutCmd → OutCmd) (hs : Sound s0 s) : Sound s0 (withCmd s slot seq f) := by
  unfold withCmd
  exact hs.upd rfl

theorem dropCmd_sound {s0 : State} (s : State) (slot : Nat) (seq : Nat) (hs : Sound s0 s) : Sound s0 (dropCmd s slot seq) := by
  unfold dropCmd
  exact hs.upd rfl

theorem finish_sound {s0 : State} (s : State) (slot : Nat) (seq : Nat) (c : Compl) (hs : Sound s0 s) : Sound s0 (finish s slot seq c) := by
  unfold finish
  repeat' first | assumption | (with_reducible apply setChan_sound) | (with_reducible apply withCmd_sound) | (with_reducible apply Sound.ite) | (with_reducible intro _)

theorem finishWith_sound {s0 : State} (s : State) (slot : Nat) (seq : Nat) (st : Status) (hs : Sound s0 s) : Sound s0 (finishWith s slot seq st) := by
  unfold finishWith
  repeat' first | assumption | (with_reducible apply finish_sound)

theorem hostWrite_sound {s0 : State} (s : State) (slot : Nat) (addr : Nat) (data : List Byte) (hs : Sound s0 s) : Sound s0 (hostWrite s slot addr data) := by
  unfold hostWrite
  exact hs.upd rfl

theorem sendMsi_sound {s0 : State} (s : State) (p : Port) (vector : Nat) (hs : Sound s0 s) : Sound s0 (sendMsi s p vector) := by
  unfold sendMsi
  repeat' first | assumption | (with_reducible apply setPort_sound) | (with_reducible apply Sound.ite) | (with_reducible intro _) | (with_reducible apply Sound.upd) | dsimp only

theorem setMsix_sound {s0 : State} (s : State) (p : Port) (i : Nat) (v : Nat) (hs : Sound s0 s) : Sound s0 (setMsix s p i v) := by
  unfold setMsix
  repeat' first | assumption | (with_reducible apply setPort_sound) | (with_reducible apply Sound.ite) | (with_reducible intro _) | (with_reducible apply Sound.upd) | dsimp only

theorem freshFill_sound {s0 : State} (s : State) (hs : Sound s0 s) : Sound s0 (freshFill s).1 := by
  unfold freshFill
  exact hs.upd rfl

theorem setDuties_sound {s0 : State} (s : State) (duty : List Nat) (hs : Sound s0 s) : Sound s0 (setDuties s duty) := by
  unfold setDuties
  exact hs.upd rfl

theorem issuePages_sound {s0 : State} (s : State) (hs : Sound s0 s) : Sound s0 (issuePages s) := by
  unfold issuePages
  dsimp only
  refine Sound.upd ?_ rfl
  have : ∀ (l : List PageReq) (x : State × List PageReq), Sound s0 x.1 → Sound s0 (l.foldl (fun x r =>
      (bump x.1 0x46 (min r.more (pagesAllowed s r.port - (sumOf (x.2.filterMap (fun y => if y.port = r.port then some y.sinces.length else none))
      + sumOf (s.pageReqs.filterMap (fun y => if y.port = r.port ∧ !(x.2.any (fun z => z.slot == y.slot && z.seq == y.seq && z.acc == y.acc))
          then some y.sinces.length else none))))),
        x.2 ++ [{ r with
          sinces := r.sinces ++ List.replicate (min r.more (pagesAllowed s r.port - (sumOf (x.2.filterMap (fun y => if y.port = r.port then some y.sinces.length else none))
            + sumOf (s.pageReqs.filterMap (fun y => if y.port = r.port ∧ !(x.2.any (fun z => z.slot == y.slot && z.seq == y.seq && z.acc == y.acc))
              then some y.sinces.length else none))))) s.time.tick,
          more := r.more - (min r.more (pagesAllowed s r.port - (sumOf (x.2.filterMap (fun y => if y.port = r.port then some y.sinces.length else none))
            + sumOf (s.pageReqs.filterMap (fun y => if y.port = r.port ∧ !(x.2.any (fun z => z.slot == y.slot && z.seq == y.seq && z.acc == y.acc))
              then some y.sinces.length else none))))) }])) x).1 := by
    intro l
    induction l with
    | nil => exact fun _ h => h
    | cons r l ih => exact fun x h => ih _ (bump_sound _ _ _ h)
  exact this _ _ hs

theorem withdraw_sound {s0 : State} (s : State) (p : PageReq → Bool) (hs : Sound s0 s) : Sound s0 (withdraw s p) := by
  unfold withdraw
  repeat' first | assumption | (with_reducible apply issuePages_sound) | (with_reducible apply Sound.upd) | dsimp only

theorem touch_sound {s0 : State} (s : State) (hs : Sound s0 s) : Sound s0 (touch s) := by
  unfold touch
  exact hs.upd rfl

theorem refuseDue_sound {s0 : State} (s : State) (slot : Nat) (hs : Sound s0 s) : Sound s0 (refuseDue s slot) := by
  unfold refuseDue
  try dsimp only
  iterate 2
    repeat' first | assumption | (with_reducible apply finishWith_sound) | (with_reducible apply Sound.foldl) | (with_reducible apply Sound.ite) | (with_reducible intro _)
    all_goals try with_reducible apply Sound.upd
    repeat' first | assumption | (with_reducible apply finishWith_sound) | (with_reducible apply Sound.foldl) | (with_reducible apply Sound.ite) | (with_reducible intro _)
    all_goals try split
    all_goals try dsimp only

theorem setStage_sound {s0 : State} (s : State) (slot : Nat) (seq : Nat) (st : Stage) (hs : Sound s0 s) : Sound s0 (setStage s slot seq st) := by
  unfold setStage
  exact hs.upd rfl

theorem nowWaiting_sound {s0 : State} (s : State) (slot : Nat) (seq : Nat) (hs : Sound s0 s) : Sound s0 (nowWaiting s slot seq) := by
  unfold nowWaiting
  exact hs.upd rfl

theorem doorbell_sound {s0 : State} (s : State) (p : Port) (slot : Nat) (value : Nat) (sub : Bool) (hs : Sound s0 s) : Sound s0 (doorbell s p slot value sub) := by
  unfold doorbell
  repeat' first | assumption | (with_reducible apply raise_sound) | (with_reducible apply bump_sound) | (with_reducible apply setChan_sound) | (with_reducible apply touch_sound) | (with_reducible apply Sound.ite) | (with_reducible intro _) | (with_reducible apply Sound.upd) | dsimp only

theorem interrupt_sound {s0 : State} (s : State) (slot : Nat) (hs : Sound s0 s) : Sound s0 (interrupt s slot) := by
  unfold interrupt
  repeat' first | assumption | (with_reducible apply setChan_sound) | (with_reducible apply sendMsi_sound) | (with_reducible apply Sound.ite) | (with_reducible intro _)

theorem putEntry_sound {s0 : State} (s : State) (slot : Nat) (e : EntryIn) (hs : Sound s0 s) : Sound s0 (putEntry s slot e) := by
  unfold putEntry
  repeat' first | assumption | (with_reducible apply bump_sound) | (with_reducible apply setChan_sound) | (with_reducible apply hostWrite_sound) | (with_reducible apply touch_sound) | (with_reducible apply interrupt_sound)

theorem deferReport_sound {s0 : State} (s : State) (slot : Nat) (seq : Nat) (st : Status) (hs : Sound s0 s) : Sound s0 (deferReport s slot seq st) := by
  unfold deferReport
  repeat' first | assumption | (with_reducible apply raise_sound) | (with_reducible apply bump_sound) | (with_reducible apply setChan_sound) | (with_reducible apply Sound.ite) | (with_reducible intro _)

theorem countEntry_sound {s0 : State} (s : State) (o : OutCmd) (st : Status) (hs : Sound s0 s) : Sound s0 (countEntry s o st) := by
  unfold countEntry
  repeat' first | assumption | (with_reducible apply bump_sound) | (with_reducible apply Sound.ite) | (with_reducible intro _)

theorem withIndex_sound {s0 : State} (s : State) (i : Nat) (f : Index → Index) (hs : Sound s0 s) : Sound s0 (withIndex s i f) := by
  unfold withIndex
  exact hs.upd rfl

theorem withPart_sound {s0 : State} (s : State) (i : Nat) (p : Nat) (f : Part → Part) (hs : Sound s0 s) : Sound s0 (withPart s i p f) := by
  unfold withPart
  exact hs.upd rfl

theorem leaveRun_sound {s0 : State} (s : State) (i : Nat) (high : Option Nat) (hs : Sound s0 s) : Sound s0 (leaveRun s i high) := by
  cases high
  · exact hs
  · exact withIndex_sound _ _ _ (raise_sound hs _ _ _ _ _ _ _)

theorem leavePress_sound {s0 : State} (s : State) (i : Nat) (high : Option Nat) (hs : Sound s0 s) : Sound s0 (leavePress s i high) := by
  cases high
  · exact withIndex_sound _ _ _ hs
  · exact hs

theorem pressIndex_sound {s0 : State} (m : Nat) (high : Nat) (s : State) (i : Nat) (x : Index) (hs : Sound s0 s) : Sound s0 (pressIndex m high s i x) := by
  unfold pressIndex
  exact Sound.ite (fun _ => leaveRun_sound _ _ _ hs) (fun _ => Sound.ite (fun _ => leavePress_sound _ _ _ hs) (fun _ => hs))

theorem pressCheck_sound {s0 : State} (s : State) (m : Nat) (hs : Sound s0 s) : Sound s0 (pressCheck s m) := by
  unfold pressCheck
  exact Sound.foldl _ (fun _ _ h => Sound.ite (fun _ => pressIndex_sound _ _ _ _ _ h) (fun _ => h)) hs

theorem fixPasses_sound {s0 : State} (s : State) (hs : Sound s0 s) : Sound s0 (fixPasses s) := by
  unfold fixPasses
  exact hs.upd rfl

theorem closeBatch_sound {s0 : State} (s : State) (i : Nat) (hs : Sound s0 s) : Sound s0 (closeBatch s i) := by
  unfold closeBatch
  exact hs.upd rfl

theorem joinBatch_sound {s0 : State} (s : State) (i : Nat) (w : Work) (hs : Sound s0 s) : Sound s0 (joinBatch s i w) := by
  unfold joinBatch
  exact hs.upd rfl

theorem setRing_sound {s0 : State} (s : State) (i : Nat) (r : Ring) (hs : Sound s0 s) : Sound s0 (setRing s i r) := by
  unfold setRing
  repeat' first | assumption | (with_reducible apply Sound.ite) | (with_reducible intro _) | (with_reducible apply Sound.upd) | dsimp only

theorem retire_sound {s0 : State} (s : State) (i : Nat) (hs : Sound s0 s) : Sound s0 (retire s i) := by
  unfold retire
  repeat' first | assumption | (with_reducible apply setRing_sound)

theorem withEntries_sound {s0 : State} (s : State) (i : Nat) (p : JEntry → Bool) (f : JEntry → JEntry) (hs : Sound s0 s) : Sound s0 (withEntries s i p f) := by
  unfold withEntries
  repeat' first | assumption | (with_reducible apply setRing_sound)

theorem unlock_sound {s0 : State} (s : State) (e : JEntry) (hs : Sound s0 s) : Sound s0 (unlock s e) := by
  unfold unlock
  exact hs.upd rfl

theorem failWrite_sound {s0 : State} (s : State) (e : JEntry) (st : Status) (hs : Sound s0 s) : Sound s0 (failWrite s e st) := by
  unfold failWrite
  try dsimp only
  iterate 2
    repeat' first | assumption | (with_reducible apply raise_sound) | (with_reducible apply bump_sound) | (with_reducible apply finish_sound) | (with_reducible apply deferReport_sound) | (with_reducible apply withIndex_sound) | (with_reducible apply withEntries_sound) | (with_reducible apply unlock_sound) | (with_reducible apply Sound.ite) | (with_reducible intro _)
    all_goals try with_reducible apply Sound.upd
    repeat' first | assumption | (with_reducible apply raise_sound) | (with_reducible apply bump_sound) | (with_reducible apply finish_sound) | (with_reducible apply deferReport_sound) | (with_reducible apply withIndex_sound) | (with_reducible apply withEntries_sound) | (with_reducible apply unlock_sound) | (with_reducible apply Sound.ite) | (with_reducible intro _)
    all_goals try split
    all_goals try dsimp only

end Sys2Proof.Machine
end

