-- ==== Sys2Proof/Laws/SoundDense.lean ====
section
/-!
SUPPORT. `Sound` for the operations on streams, training state, the fabric and the cores.
-/
namespace Sys2Proof.Machine

theorem withRun_sound {s0 : State} (s : State) (slot : Nat) (seq : Nat) (f : Run → Run) (hs : Sound s0 s) : Sound s0 (withRun s slot seq f) := by
  unfold withRun
  exact hs.upd rfl

theorem withRunOf_sound {s0 : State} (s : State) (die : Nat) (f : Run → Run) (hs : Sound s0 s) : Sound s0 (withRunOf s die f) := by
  unfold withRunOf
  exact hs.upd rfl

theorem withDie_sound {s0 : State} (s : State) (die : Nat) (f : DieSeq → DieSeq) (hs : Sound s0 s) : Sound s0 (withDie s die f) := by
  unfold withDie
  exact hs.upd rfl

theorem noteLimit_sound {s0 : State} (s : State) (core : Nat) (hs : Sound s0 s) : Sound s0 (noteLimit s core) := by
  unfold noteLimit
  try dsimp only
  iterate 2
    repeat' first | assumption | (with_reducible apply bump_sound)
    all_goals try with_reducible apply Sound.upd
    repeat' first | assumption | (with_reducible apply bump_sound)
    all_goals try split
    all_goals try dsimp only

theorem putBucket_sound {s0 : State} (s : State) (die : Nat) (b : Int) (hs : Sound s0 s) : Sound s0 (putBucket s die b) := by
  unfold putBucket
  repeat' first | assumption | (with_reducible apply withDie_sound) | (with_reducible apply Sound.ite) | (with_reducible intro _)

theorem issueReqs_sound {s0 : State} (s : State) (core : Nat) (hs : Sound s0 s) : Sound s0 (issueReqs s core) := by
  unfold issueReqs
  repeat' first | assumption | (with_reducible apply noteLimit_sound) | (with_reducible apply putBucket_sound) | (with_reducible apply Sound.upd) | dsimp only

theorem beginReqs_sound {s0 : State} (s : State) (core : Nat) (o : ReqOwner) (todo : List (Nat × Nat)) (hs : Sound s0 s) : Sound s0 (beginReqs s core o todo) := by
  unfold beginReqs
  repeat' first | assumption | (with_reducible apply noteLimit_sound) | (with_reducible apply putBucket_sound) | (with_reducible apply Sound.ite) | (with_reducible intro _) | (with_reducible apply Sound.upd) | dsimp only

theorem endReqs_sound {s0 : State} (s : State) (o : ReqOwner) (hs : Sound s0 s) : Sound s0 (endReqs s o) := by
  unfold endReqs
  try dsimp only
  iterate 2
    repeat' first | assumption | (with_reducible apply issueReqs_sound)
    all_goals try with_reducible apply Sound.upd
    repeat' first | assumption | (with_reducible apply issueReqs_sound)
    all_goals try split
    all_goals try dsimp only

theorem retireReqs_sound {s0 : State} (s : State) (o : ReqOwner) (bad : Bool) (hs : Sound s0 s) : Sound s0 (retireReqs s o bad) := by
  unfold retireReqs
  try dsimp only
  iterate 2
    repeat' first | assumption | (with_reducible apply issueReqs_sound)
    all_goals try with_reducible apply Sound.upd
    repeat' first | assumption | (with_reducible apply issueReqs_sound)
    all_goals try split
    all_goals try dsimp only

theorem packetReqs_sound {s0 : State} (s : State) (o : ReqOwner) (at_ : Nat) (header : Bool) (hs : Sound s0 s) : Sound s0 (packetReqs s o at_ header) := by
  unfold packetReqs
  exact hs.upd rfl

theorem dropReqs_sound {s0 : State} (s : State) (die : Nat) (hs : Sound s0 s) : Sound s0 (dropReqs s die) := by
  unfold dropReqs
  try dsimp only
  iterate 2
    repeat' first | assumption | (with_reducible apply endReqs_sound) | (with_reducible apply Sound.foldl) | (with_reducible apply Sound.ite) | exact rfl | (with_reducible intro _ _ _) | (with_reducible intro _)
    all_goals try with_reducible apply Sound.upd
    repeat' first | assumption | (with_reducible apply endReqs_sound) | (with_reducible apply Sound.foldl) | (with_reducible apply Sound.ite) | exact rfl | (with_reducible intro _ _ _) | (with_reducible intro _)
    all_goals try split
    all_goals try dsimp only

theorem dropCoreReqs_sound {s0 : State} (s : State) (core : Nat) (hs : Sound s0 s) : Sound s0 (dropCoreReqs s core) := by
  unfold dropCoreReqs
  repeat' first | assumption | (with_reducible apply endReqs_sound) | (with_reducible apply Sound.foldl) | (with_reducible apply Sound.ite) | (with_reducible intro _)

theorem refillDie_sound {s0 : State} (s : State) (die : Nat) (hs : Sound s0 s) : Sound s0 (refillDie s die) := by
  unfold refillDie
  exact hs.upd rfl

theorem issueDie_sound {s0 : State} (s : State) (die : Nat) (hs : Sound s0 s) : Sound s0 (issueDie s die) := by
  unfold issueDie
  repeat' first | assumption | (with_reducible apply issueReqs_sound) | (with_reducible apply refillDie_sound) | (with_reducible apply Sound.foldl) | (with_reducible intro _)

theorem withTab_sound {s0 : State} (s : State) (n : Nat) (f : Tablature → Tablature) (hs : Sound s0 s) : Sound s0 (withTab s n f) := by
  unfold withTab
  exact hs.upd rfl

theorem withTabOfDie_sound {s0 : State} (s : State) (die : Nat) (f : Tablature → Tablature) (hs : Sound s0 s) : Sound s0 (withTabOfDie s die f) := by
  unfold withTabOfDie
  try dsimp only
  iterate 2
    repeat' first | assumption | (with_reducible apply withTab_sound) | (with_reducible apply Sound.foldl) | (with_reducible apply Sound.ite) | exact rfl | (with_reducible intro _ _ _) | (with_reducible intro _)
    all_goals try with_reducible apply Sound.upd
    repeat' first | assumption | (with_reducible apply withTab_sound) | (with_reducible apply Sound.foldl) | (with_reducible apply Sound.ite) | exact rfl | (with_reducible intro _ _ _) | (with_reducible intro _)
    all_goals try split
    all_goals try dsimp only

theorem setCore_sound {s0 : State} (s : State) (die : Nat) (c : Nat) (k : Core) (hs : Sound s0 s) : Sound s0 (setCore s die c k) := by
  unfold setCore
  exact hs.upd rfl

theorem withStream_sound {s0 : State} (s : State) (die : Nat) (n : Nat) (f : StreamSt → StreamSt) (hs : Sound s0 s) : Sound s0 (withStream s die n f) := by
  unfold withStream
  exact hs.upd rfl

theorem progressed_sound {s0 : State} (s : State) (die : Nat) (hs : Sound s0 s) : Sound s0 (progressed s die) := by
  unfold progressed
  exact hs.upd rfl

theorem withMacro_sound {s0 : State} (s : State) (die : Nat) (core : Nat) (u : ExecUnit) (f : Macro → Macro) (hs : Sound s0 s) : Sound s0 (withMacro s die core u f) := by
  unfold withMacro
  exact hs.upd rfl

theorem dropMacro_sound {s0 : State} (s : State) (die : Nat) (core : Nat) (u : ExecUnit) (hs : Sound s0 s) : Sound s0 (dropMacro s die core u) := by
  unfold dropMacro
  exact hs.upd rfl

theorem withStash_sound {s0 : State} (s : State) (die : Nat) (n : Nat) (f : StashState → StashState) (hs : Sound s0 s) : Sound s0 (withStash s die n f) := by
  unfold withStash
  repeat' first | assumption | (with_reducible apply withTabOfDie_sound)

theorem noteShared_sound {s0 : State} (s : State) (die : Nat) (hs : Sound s0 s) : Sound s0 (noteShared s die) := by
  unfold noteShared
  exact hs.upd rfl

theorem releaseBlock_sound {s0 : State} (s : State) (die : Nat) (n : Nat) (b : Block) (hs : Sound s0 s) : Sound s0 (releaseBlock s die n b) := by
  unfold releaseBlock
  repeat' first | assumption | (with_reducible apply withStream_sound) | (with_reducible apply progressed_sound) | (with_reducible apply Sound.ite) | (with_reducible intro _)

theorem freeTags_sound {s0 : State} (s : State) (die : Nat) (n : Nat) (hs : Sound s0 s) : Sound s0 (freeTags s die n) := by
  unfold freeTags
  repeat' first | assumption | (with_reducible apply withStream_sound) | (with_reducible apply withStash_sound) | (with_reducible apply Sound.foldl) | (with_reducible intro _)

theorem releaseTaken_sound {s0 : State} (s : State) (die : Nat) (n : Nat) (hs : Sound s0 s) : Sound s0 (releaseTaken s die n) := by
  unfold releaseTaken
  try dsimp only
  iterate 2
    repeat' first | assumption | (with_reducible apply releaseBlock_sound) | (with_reducible apply freeTags_sound) | (with_reducible apply Sound.foldl) | (with_reducible apply Sound.ite) | (with_reducible intro _)
    all_goals try with_reducible apply Sound.upd
    repeat' first | assumption | (with_reducible apply releaseBlock_sound) | (with_reducible apply freeTags_sound) | (with_reducible apply Sound.foldl) | (with_reducible apply Sound.ite) | (with_reducible intro _)
    all_goals try split
    all_goals try dsimp only

theorem takeBytes_sound {s0 : State} (s : State) (die : Nat) (n : Nat) (b : Block) (reader : Nat) (k : Nat) (hs : Sound s0 s) : Sound s0 (takeBytes s die n b reader k) := by
  unfold takeBytes
  repeat' first | assumption | (with_reducible apply withStream_sound) | (with_reducible apply releaseBlock_sound) | (with_reducible apply Sound.ite) | (with_reducible intro _)

theorem outBuffer_sound {s0 : State} (s : State) (die : Nat) (n : Nat) (no : Nat) {t : State} (hs : Sound s0 s) (e : outBuffer s die n no = some t) : Sound s0 t := by
  unfold outBuffer at e
  refine Sound.foldlSome _ (fun a o h y i => ?_) _ (fun x i => by cases i; exact hs) t e
  obtain ⟨x, rfl, k⟩ := Option.bind_eq_some_iff.1 i
  obtain ⟨_, _, rfl⟩ := Option.map_eq_some_iff.1 k
  exact noteShared_sound _ _ (withStream_sound _ _ _ _ (h x rfl))

theorem assignXfers_sound {s0 : State} (s : State) (die : Nat) (n : Nat) (hs : Sound s0 s) : Sound s0 (assignXfers s die n) := by
  unfold assignXfers
  repeat' first | assumption | (with_reducible apply withStream_sound) | (with_reducible apply withMacro_sound) | (with_reducible apply Sound.foldl) | (with_reducible apply Sound.ite) | (with_reducible intro _)

theorem beginMove_sound {s0 : State} (s : State) (die : Nat) (n : Nat) (len : Nat) (ver : Nat) (v : Move) (hs : Sound s0 s) : Sound s0 (beginMove s die n len ver v) := by
  unfold beginMove
  repeat' first | assumption | (with_reducible apply beginReqs_sound) | (with_reducible apply withStream_sound) | (with_reducible apply noteShared_sound)

theorem beginBlocks_sound {s0 : State} (s : State) (die : Nat) (hs : Sound s0 s) : Sound s0 (beginBlocks s die) := by
  unfold beginBlocks
  try dsimp only
  iterate 2
    repeat' first | assumption | (with_reducible apply beginMove_sound) | (with_reducible apply Sound.foldl) | (with_reducible apply Sound.ite) | (with_reducible intro _)
    all_goals try with_reducible apply Sound.upd
    repeat' first | assumption | (with_reducible apply beginMove_sound) | (with_reducible apply Sound.foldl) | (with_reducible apply Sound.ite) | (with_reducible intro _)
    all_goals try split
    all_goals try dsimp only

theorem linkPush_sound {s0 : State} (fuel : Nat) (s : State) (die from_ n : Nat) (hs : Sound s0 s) :
    Sound s0 (linkPush fuel s die from_ n) := by
  induction fuel generalizing s with
  | zero => exact hs
  | succ k ih =>
    unfold linkPush
    split
    · exact hs
    · dsimp only
      refine ih _ ?_
      have h := fun f g => withStream_sound _ die n f (withStream_sound s die from_ g hs)
      split
      · exact h _ _
      · exact withRunOf_sound _ _ _ (h _ _)

theorem linkAll_sound {s0 : State} (s : State) (die : Nat) (hs : Sound s0 s) : Sound s0 (linkAll s die) := by
  unfold linkAll; exact Sound.foldl _ (fun _ _ h => linkPush_sound _ _ _ _ _ h) hs

theorem notePool_sound {s0 : State} (s : State) (die : Nat) (hs : Sound s0 s) : Sound s0 (notePool s die) := by
  unfold notePool
  try dsimp only
  iterate 2
    repeat' first | assumption | (with_reducible apply bump_sound) | (with_reducible apply withDie_sound) | (with_reducible apply Sound.foldl) | (with_reducible apply Sound.ite) | exact rfl | (with_reducible intro _ _ _) | (with_reducible intro _)
    all_goals try with_reducible apply Sound.upd
    repeat' first | assumption | (with_reducible apply bump_sound) | (with_reducible apply withDie_sound) | (with_reducible apply Sound.foldl) | (with_reducible apply Sound.ite) | exact rfl | (with_reducible intro _ _ _) | (with_reducible intro _)
    all_goals try split
    all_goals try dsimp only

theorem settle_sound {s0 : State} (s : State) (die : Nat) (hs : Sound s0 s) : Sound s0 (settle s die) := by
  unfold settle
  repeat' first | assumption | (with_reducible apply withDie_sound) | (with_reducible apply beginBlocks_sound) | (with_reducible apply linkAll_sound) | (with_reducible apply notePool_sound)

theorem pullMacro_sound {s0 : State} (fuel : Nat) (s : State) (die core : Nat) (hs : Sound s0 s) :
    Sound s0 (pullMacro fuel s die core) := by
  induction fuel generalizing s with
  | zero => exact hs
  | succ n ih =>
    unfold pullMacro
    split
    · exact hs
    · dsimp only
      refine Sound.ite (fun _ => hs) (fun _ => Sound.ite (fun _ => ?_) (fun _ => ?_))
      · split
        · exact hs
        · split
          · exact hs
          · next e => exact ih _ (withMacro_sound _ _ _ _ _ (withStream_sound _ _ _ _ (outBuffer_sound _ _ _ _ hs e)))
      · split
        · exact hs
        · split
          · exact hs
          · exact ih _ (withMacro_sound _ _ _ _ _ (takeBytes_sound _ _ _ _ _ _ (setCore_sound _ _ _ _ hs)))

theorem pullAll_sound {s0 : State} (s : State) (die : Nat) (hs : Sound s0 s) : Sound s0 (pullAll s die) := by
  unfold pullAll
  exact settle_sound _ _ (Sound.foldl _ (fun _ _ h => pullMacro_sound _ _ _ _ h) (Sound.foldl _ (fun _ _ h => assignXfers_sound _ _ _ h) hs))

theorem drainQueues_sound {s0 : State} (s : State) (die : Nat) (hs : Sound s0 s) : Sound s0 (drainQueues s die) := by
  unfold drainQueues
  exact settle_sound _ _ (Sound.foldl _ (fun _ _ h => releaseTaken_sound _ _ _ h)
    (withDie_sound _ _ _ (Sound.foldl _ (fun _ _ h => withStream_sound _ _ _ _ h) hs)))

theorem writeFactors_sound {s0 : State} (s : State) (r : Run) (hs : Sound s0 s) : Sound s0 (writeFactors s r) := by
  unfold writeFactors
  repeat' first | assumption | (with_reducible apply withTab_sound) | (with_reducible apply setCore_sound) | (with_reducible apply Sound.foldl) | (with_reducible intro _)

theorem stepDone_sound {s0 : State} (s : State) (r : Run) (hs : Sound s0 s) : Sound s0 (stepDone s r) := by
  unfold stepDone
  repeat' first | assumption | (with_reducible apply raise_sound) | (with_reducible apply setCtl_sound) | (with_reducible apply bump_sound) | (with_reducible apply withTab_sound) | (with_reducible apply Sound.foldl) | (with_reducible apply Sound.ite) | exact rfl | (with_reducible intro _ _ _) | (with_reducible intro _)

theorem stepUndone_sound {s0 : State} (s : State) (r : Run) (hs : Sound s0 s) : Sound s0 (stepUndone s r) := by
  unfold stepUndone
  exact hs.upd rfl

theorem stashKept_sound {s0 : State} (s : State) (r : Run) (hs : Sound s0 s) : Sound s0 (stashKept s r) := by
  unfold stashKept
  exact hs.upd rfl

theorem countTagWait_sound {s0 : State} (s : State) (die : Nat) (hs : Sound s0 s) : Sound s0 (countTagWait s die) := by
  unfold countTagWait
  try dsimp only
  iterate 2
    repeat' first | assumption | (with_reducible apply bump_sound) | (with_reducible apply withDie_sound) | (with_reducible apply Sound.foldl) | (with_reducible apply Sound.ite) | exact rfl | (with_reducible intro _ _ _) | (with_reducible intro _)
    all_goals try with_reducible apply Sound.upd
    repeat' first | assumption | (with_reducible apply bump_sound) | (with_reducible apply withDie_sound) | (with_reducible apply Sound.foldl) | (with_reducible apply Sound.ite) | exact rfl | (with_reducible intro _ _ _) | (with_reducible intro _)
    all_goals try split
    all_goals try dsimp only

theorem countWaits_sound {s0 : State} (s : State) (die : Nat) (hs : Sound s0 s) : Sound s0 (countWaits s die) := by
  unfold countWaits
  repeat' first | assumption | (with_reducible apply bump_sound) | (with_reducible apply withDie_sound) | (with_reducible apply refillDie_sound) | (with_reducible apply countTagWait_sound)

theorem setFabPort_sound {s0 : State} (s : State) (p : Nat) (f : FabPort) (hs : Sound s0 s) : Sound s0 (setFabPort s p f) := by
  unfold setFabPort
  exact hs.upd rfl

theorem freeFlits_sound {s0 : State} (s : State) (i : Nat) (c : Nat) (n : Nat) (hs : Sound s0 s) : Sound s0 (freeFlits s i c n) := by
  unfold freeFlits
  exact hs.upd rfl

theorem admitHeld_sound {s0 : State} (s : State) (hub : Nat) (hs : Sound s0 s) : Sound s0 (admitHeld s hub) := by
  unfold admitHeld
  repeat' first | assumption | (with_reducible apply freeFlits_sound) | (with_reducible apply Sound.foldl) | (with_reducible apply Sound.ite) | (with_reducible intro _) | (with_reducible apply Sound.upd) | dsimp only

theorem settleIngress_sound {s0 : State} (s : State) (hub : Nat) (hs : Sound s0 s) : Sound s0 (settleIngress s hub) := by
  unfold settleIngress
  repeat' first | assumption | (with_reducible apply freeFlits_sound) | (with_reducible apply admitHeld_sound) | (with_reducible apply Sound.foldl) | (with_reducible intro _) | (with_reducible apply Sound.upd) | dsimp only

theorem passIngress_sound {s0 : State} (s : State) (i : Nat) (f : Frame) (hs : Sound s0 s) : Sound s0 (passIngress s i f) := by
  unfold passIngress
  repeat' first | assumption | (with_reducible apply freeFlits_sound) | (with_reducible apply Sound.ite) | (with_reducible intro _) | (with_reducible apply Sound.upd) | dsimp only

theorem freeHome_sound {s0 : State} (s : State) (x : Queued) (hs : Sound s0 s) : Sound s0 (freeHome s x) := by
  unfold freeHome
  exact hs.upd rfl

theorem pump_sound {s0 : State} (s : State) (i : Nat) (hs : Sound s0 s) : Sound s0 (pump s i) := by
  unfold pump
  exact hs.upd rfl

theorem fabSend_sound {s0 : State} (s : State) (f : Frame) (home : Option (Nat × Nat)) (hs : Sound s0 s) : Sound s0 (fabSend s f home) := by
  unfold fabSend
  try dsimp only
  iterate 2
    repeat' first | assumption | (with_reducible apply bump_sound) | (with_reducible apply setFabPort_sound) | (with_reducible apply freeHome_sound) | (with_reducible apply pump_sound) | (with_reducible apply Sound.ite) | (with_reducible intro _)
    all_goals try with_reducible apply Sound.upd
    repeat' first | assumption | (with_reducible apply bump_sound) | (with_reducible apply setFabPort_sound) | (with_reducible apply freeHome_sound) | (with_reducible apply pump_sound) | (with_reducible apply Sound.ite) | (with_reducible intro _)
    all_goals try split
    all_goals try dsimp only

theorem sendLc_sound {s0 : State} (s : State) (i : Nat) (op : LcOp) (aseq : Nat) (tA : Nat) (tB : Nat) (hs : Sound s0 s) : Sound s0 (sendLc s i op aseq tA tB) := by
  unfold sendLc
  exact hs.upd rfl

theorem linkReceive_sound {s0 : State} (s : State) (i : Nat) (r : RxFrame) (hs : Sound s0 s) : Sound s0 (linkReceive s i r).1 := by
  unfold linkReceive
  dsimp only
  have take : ∀ x, Sound s0 x → Sound s0 (sendLc (setFabPort x i { fabPort x i with
      rxSeq := ((fabPort x i).rxSeq + 1) % 4096, nakked := false }) i .ack r.fseq) :=
    fun x h => sendLc_sound _ _ _ _ _ _ (setFabPort_sound _ _ _ h)
  have nak : Sound s0 (sendLc (setFabPort s i { fabPort s i with nakked := true }) i .nak (fabPort s i).rxSeq) :=
    sendLc_sound _ _ _ _ _ _ (setFabPort_sound _ _ _ hs)
  split
  · exact hs
  · split
    · split
      · exact hs
      · exact nak
    · split
      · exact take s hs
      · split
        · exact setFabPort_sound _ _ _ (raise_sound (bump_sound _ _ _ (take s hs)) _ _ _ _ _ _ _)
        · exact nak
      · split
        · exact freeFlits_sound _ _ _ _ (setFabPort_sound _ _ _ (raise_sound (bump_sound _ _ _ (take s hs)) _ _ _ _ _ _ _))
        · exact nak

theorem fabReceive_sound {s0 : State} (s : State) (i : Nat) (r : RxFrame) (hs : Sound s0 s) : Sound s0 (fabReceive s i r).1 := by
  unfold fabReceive
  try dsimp only
  iterate 6
    repeat' first | assumption | (with_reducible apply raise_sound) | (with_reducible apply bump_sound) | (with_reducible apply fabSend_sound) | (with_reducible apply freeFlits_sound) | (with_reducible apply linkReceive_sound) | (refine Sound.of_pair ?_ (by assumption))
    all_goals try with_reducible apply Sound.upd
    repeat' first | assumption | (with_reducible apply raise_sound) | (with_reducible apply bump_sound) | (with_reducible apply fabSend_sound) | (with_reducible apply freeFlits_sound) | (with_reducible apply linkReceive_sound) | (refine Sound.of_pair ?_ (by assumption))
    all_goals try split
    all_goals try dsimp only

theorem timeParentLost_sound {s0 : State} (s : State) (i : Nat) (hs : Sound s0 s) : Sound s0 (timeParentLost s i) := by
  unfold timeParentLost
  repeat' first | assumption | (with_reducible apply raise_sound) | (with_reducible apply Sound.ite) | (with_reducible intro _) | (with_reducible apply Sound.upd) | dsimp only

theorem forgetHome_sound {s0 : State} (s : State) (i : Nat) (hs : Sound s0 s) : Sound s0 (forgetHome s i) := by
  unfold forgetHome
  exact hs.upd rfl

theorem portDown_sound {s0 : State} (s : State) (i : Nat) (next : PortState) (arg : Nat) (hs : Sound s0 s) : Sound s0 (portDown s i next arg) := by
  unfold portDown
  exact timeParentLost_sound _ _ (raise_sound (bump_sound _ _ _ (setFabPort_sound _ _ _ (forgetHome_sound _ _ (hs.upd rfl)))) _ _ _ _ _ _ _)

theorem takeLc_sound {s0 : State} (s : State) (i : Nat) (l : LinkControl) {t : State} (hs : Sound s0 s) (e : takeLc s i l = some t) : Sound s0 t := by
  unfold takeLc at e
  simp only at e
  split at e
  · cases e; exact setFabPort_sound _ _ _ hs
  · cases e

theorem scramble_sound {s0 : State} (s : State) (r : Run) (hs : Sound s0 s) : Sound s0 (scramble s r) := by
  unfold scramble
  repeat' first | assumption | (with_reducible apply freshFill_sound) | (with_reducible apply withTab_sound) | (with_reducible apply setCore_sound) | (with_reducible apply Sound.foldl) | (with_reducible intro _) | (with_reducible apply Sound.upd) | dsimp only

theorem abortRun_sound {s0 : State} (s : State) (slot : Nat) (seq : Nat) (cause : Nat) (st : Status) (reported : Bool) (hs : Sound s0 s) : Sound s0 (abortRun s slot seq cause st reported) := by
  unfold abortRun
  try dsimp only
  iterate 3
    repeat' first | assumption | (with_reducible apply raise_sound) | (with_reducible apply bump_sound) | (with_reducible apply withdraw_sound) | (with_reducible apply dropReqs_sound) | (with_reducible apply withRun_sound) | (with_reducible apply notePool_sound) | (with_reducible apply stepUndone_sound) | (with_reducible apply stashKept_sound) | (with_reducible apply countWaits_sound) | (with_reducible apply fabSend_sound) | (with_reducible apply scramble_sound) | (with_reducible apply Sound.foldl) | (with_reducible apply Sound.ite) | exact rfl | (with_reducible intro _ _ _) | (with_reducible intro _)
    all_goals try with_reducible apply Sound.upd
    repeat' first | assumption | (with_reducible apply raise_sound) | (with_reducible apply bump_sound) | (with_reducible apply withdraw_sound) | (with_reducible apply dropReqs_sound) | (with_reducible apply withRun_sound) | (with_reducible apply notePool_sound) | (with_reducible apply stepUndone_sound) | (with_reducible apply stashKept_sound) | (with_reducible apply countWaits_sound) | (with_reducible apply fabSend_sound) | (with_reducible apply scramble_sound) | (with_reducible apply Sound.foldl) | (with_reducible apply Sound.ite) | exact rfl | (with_reducible intro _ _ _) | (with_reducible intro _)
    all_goals try split
    all_goals try dsimp only

theorem invalidate_sound {s0 : State} (s : State) (die : Nat) (hs : Sound s0 s) : Sound s0 (invalidate s die) := by
  unfold invalidate
  try dsimp only
  iterate 2
    repeat' first | assumption | (with_reducible apply abortRun_sound) | (with_reducible apply Sound.foldl) | (with_reducible apply Sound.ite) | exact rfl | (with_reducible intro _ _ _) | (with_reducible intro _)
    all_goals try with_reducible apply Sound.upd
    repeat' first | assumption | (with_reducible apply abortRun_sound) | (with_reducible apply Sound.foldl) | (with_reducible apply Sound.ite) | exact rfl | (with_reducible intro _ _ _) | (with_reducible intro _)
    all_goals try split
    all_goals try dsimp only

theorem storeRow_sound {s0 : State} (s : State) (die : Nat) (core : Nat) (rowNo : Nat) (dst : Nat) (l : MList) (hs : Sound s0 s) : Sound s0 (storeRow s die core rowNo dst l) := by
  unfold storeRow
  exact hs.upd rfl

theorem takeHeld_sound {s0 : State} (s : State) (h : Held) (hs : Sound s0 s) : Sound s0 (takeHeld s h) := by
  unfold takeHeld
  repeat' first | assumption | (with_reducible apply freeFlits_sound) | (with_reducible apply settleIngress_sound) | (with_reducible apply Sound.ite) | (with_reducible intro _) | (with_reducible apply Sound.upd) | dsimp only

theorem combineRowSel_sound {s0 : State} (s : State) (slot : Nat) (seq : Nat) (rowNo : Nat) (die : Nat) (dest : Nat) (hs : Sound s0 s) : Sound s0 (combineRowSel s slot seq rowNo die dest) := by
  unfold combineRowSel
  try dsimp only
  iterate 4
    repeat' first | assumption | (with_reducible apply bump_sound) | (with_reducible apply withRun_sound) | (with_reducible apply fabSend_sound) | (with_reducible apply storeRow_sound) | (with_reducible apply takeHeld_sound) | (with_reducible apply Sound.foldl) | (with_reducible apply Sound.ite) | (with_reducible intro _)
    all_goals try with_reducible apply Sound.upd
    repeat' first | assumption | (with_reducible apply bump_sound) | (with_reducible apply withRun_sound) | (with_reducible apply fabSend_sound) | (with_reducible apply storeRow_sound) | (with_reducible apply takeHeld_sound) | (with_reducible apply Sound.foldl) | (with_reducible apply Sound.ite) | (with_reducible intro _)
    all_goals try split
    all_goals try dsimp only

theorem deliverRowList_sound {s0 : State} (s : State) (die : Nat) (core : Nat) (op : Nat) (d : Nat) (l : MList) (hs : Sound s0 s) : Sound s0 (deliverRowList s die core op d l) := by
  unfold deliverRowList
  try dsimp only
  iterate 2
    repeat' first | assumption | (with_reducible apply withRun_sound) | (with_reducible apply combineRowSel_sound) | (with_reducible apply Sound.foldl) | (with_reducible apply Sound.ite) | exact rfl | (with_reducible intro _ _ _) | (with_reducible intro _)
    all_goals try with_reducible apply Sound.upd
    repeat' first | assumption | (with_reducible apply withRun_sound) | (with_reducible apply combineRowSel_sound) | (with_reducible apply Sound.foldl) | (with_reducible apply Sound.ite) | exact rfl | (with_reducible intro _ _ _) | (with_reducible intro _)
    all_goals try split
    all_goals try dsimp only

theorem productDone_sound {s0 : State} (s : State) (r : Run) (die : Nat) (m : Macro) {t : State} (hs : Sound s0 s) (e : productDone s r die m = some t) : Sound s0 t := by
  unfold productDone at e
  simp only at e
  split at e
  · cases e
  · cases e; exact setCore_sound _ _ _ _ hs

theorem noteStats_sound {s0 : State} (s : State) (die : Nat) (o : Option (Nat × List (FV × Conv))) (hs : Sound s0 s) : Sound s0 (noteStats s die o) := by
  unfold noteStats
  try dsimp only
  iterate 2
    repeat' first | assumption | (with_reducible apply Sound.foldl) | (with_reducible apply Sound.ite) | exact rfl | (with_reducible intro _ _ _) | (with_reducible intro _)
    all_goals try with_reducible apply Sound.upd
    repeat' first | assumption | (with_reducible apply Sound.foldl) | (with_reducible apply Sound.ite) | exact rfl | (with_reducible intro _ _ _) | (with_reducible intro _)
    all_goals try split
    all_goals try dsimp only

theorem epilogueDone_sound {s0 : State} (s : State) (r : Run) (die : Nat) (m : Macro) {t : State} (hs : Sound s0 s) (e : epilogueDone s r die m = some t) : Sound s0 t := by
  unfold epilogueDone at e
  dsimp only at e
  have e := some_of_ite e
  obtain ⟨_, _, rfl⟩ := Option.map_eq_some_iff.1 e
  have a : ∀ k g, Sound s0 (noteStats (setCore s die m.core k) die g) := fun _ _ => noteStats_sound _ _ _ (setCore_sound _ _ _ _ hs)
  have b : ∀ k g n, Sound s0 (if m.op = 4 then bump (noteStats (setCore s die m.core k) die g) 0x53 n
      else noteStats (setCore s die m.core k) die g) :=
    fun _ _ _ => Sound.ite (fun _ => bump_sound _ _ _ (a _ _)) (fun _ => a _ _)
  refine withDie_sound _ _ _ (Sound.ite (fun _ => withRunOf_sound _ _ _ ?_) (fun _ => ?_)) <;> split
  · exact withRunOf_sound _ _ _ (bump_sound _ _ _ (b _ _ _))
  · exact b _ _ _
  · exact withRunOf_sound _ _ _ (bump_sound _ _ _ (b _ _ _))
  · exact b _ _ _

theorem selectDone_sound {s0 : State} (s : State) (die : Nat) (m : Macro) (hs : Sound s0 s) : Sound s0 (selectDone s die m) := by
  unfold selectDone
  try dsimp only
  iterate 2
    repeat' first | assumption | (with_reducible apply bump_sound) | (with_reducible apply freshFill_sound) | (with_reducible apply setCore_sound) | (with_reducible apply progressed_sound) | (with_reducible apply withMacro_sound) | (with_reducible apply dropMacro_sound) | (with_reducible apply deliverRowList_sound) | (refine Sound.of_pair ?_ (by assumption)) | (with_reducible apply Sound.foldl) | (with_reducible apply Sound.ite) | exact rfl | (with_reducible intro _ _ _) | (with_reducible intro _)
    all_goals try with_reducible apply Sound.upd
    repeat' first | assumption | (with_reducible apply bump_sound) | (with_reducible apply freshFill_sound) | (with_reducible apply setCore_sound) | (with_reducible apply progressed_sound) | (with_reducible apply withMacro_sound) | (with_reducible apply dropMacro_sound) | (with_reducible apply deliverRowList_sound) | (refine Sound.of_pair ?_ (by assumption)) | (with_reducible apply Sound.foldl) | (with_reducible apply Sound.ite) | exact rfl | (with_reducible intro _ _ _) | (with_reducible intro _)
    all_goals try split
    all_goals try dsimp only

theorem setSide_sound {s0 : State} (s : State) (die : Nat) (m : SideMem) (hs : Sound s0 s) : Sound s0 (setSide s die m) := by
  unfold setSide
  exact hs.upd rfl

theorem saveRows_sound {s0 : State} (fuel : Nat) (s : State) (die : Nat) (m : Macro) (hs : Sound s0 s) :
    Sound s0 (saveRows fuel s die m) := by
  induction fuel generalizing s m with
  | zero => exact hs
  | succ n ih =>
    unfold saveRows
    dsimp only
    refine Sound.ite (fun _ => hs) (fun _ => ?_)
    split
    · exact hs
    · split
      · exact hs
      · next e => exact ih _ _ (withMacro_sound _ _ _ _ _ (withStream_sound _ _ _ _ (outBuffer_sound _ _ _ _ hs e)))

theorem loadRows_sound {s0 : State} (fuel : Nat) (s : State) (die : Nat) (m : Macro) (hs : Sound s0 s) :
    Sound s0 (loadRows fuel s die m) := by
  induction fuel generalizing s m with
  | zero => exact hs
  | succ n ih =>
    unfold loadRows
    dsimp only
    refine Sound.ite (fun _ => hs) (fun _ => ?_)
    split
    · exact hs
    · exact ih _ _ (withMacro_sound _ _ _ _ _ (takeBytes_sound _ _ _ _ _ _ (setSide_sound _ _ _ hs)))

theorem rowEngineDone_sound {s0 : State} (s : State) (die : Nat) (m : Macro) (hs : Sound s0 s) : Sound s0 (rowEngineDone s die m) := by
  unfold rowEngineDone
  try dsimp only
  iterate 3
    repeat' first | assumption | (with_reducible apply withDie_sound) | (with_reducible apply setCore_sound) | (with_reducible apply dropMacro_sound) | (with_reducible apply freeTags_sound) | (with_reducible apply setSide_sound) | (with_reducible apply saveRows_sound) | (with_reducible apply loadRows_sound) | (with_reducible apply Sound.foldl) | (with_reducible apply Sound.ite) | (with_reducible intro _)
    all_goals try with_reducible apply Sound.upd
    repeat' first | assumption | (with_reducible apply withDie_sound) | (with_reducible apply setCore_sound) | (with_reducible apply dropMacro_sound) | (with_reducible apply freeTags_sound) | (with_reducible apply setSide_sound) | (with_reducible apply saveRows_sound) | (with_reducible apply loadRows_sound) | (with_reducible apply Sound.foldl) | (with_reducible apply Sound.ite) | (with_reducible intro _)
    all_goals try split
    all_goals try dsimp only

end Sys2Proof.Machine
end

