-- ==== Sys2Proof/Laws/SoundSearch.lean ====
section
/-!
SUPPORT. `Sound` for the operations on searches and their merge stages.
-/
namespace Sys2Proof.Machine

theorem withQuery_sound {s0 : State} (s : State) (tag : Nat) (f : Query → Query) (hs : Sound s0 s) : Sound s0 (withQuery s tag f) := by
  unfold withQuery
  exact hs.upd rfl

theorem markCause_sound {s0 : State} (s : State) (tag : Nat) (f : Cause → Cause) (hs : Sound s0 s) : Sound s0 (markCause s tag f) := by
  unfold markCause
  exact hs.upd rfl

theorem markLate_sound {s0 : State} (s : State) (tag : Nat) (hs : Sound s0 s) : Sound s0 (markLate s tag) := by
  unfold markLate
  dsimp only
  have h : Sound s0 (markCause s tag setLate) := markCause_sound _ _ _ hs
  cases queryOf (markCause s tag setLate) tag with
  | none => exact h
  | some q =>
    dsimp only
    cases q.origin
    · exact Sound.ite (fun _ => h) (fun _ => withCmd_sound _ _ _ _ h)
    · exact h

theorem sendChildren_sound {s0 : State} (s : State) (tag : Nat) (hs : Sound s0 s) : Sound s0 (sendChildren s tag) := by
  unfold sendChildren
  try dsimp only
  iterate 3
    repeat' first | assumption | (with_reducible apply fabSend_sound) | (with_reducible apply withQuery_sound) | (with_reducible apply Sound.foldl) | (with_reducible apply Sound.ite) | exact rfl | (with_reducible intro _ _ _) | (with_reducible intro _)
    all_goals try with_reducible apply Sound.upd
    repeat' first | assumption | (with_reducible apply fabSend_sound) | (with_reducible apply withQuery_sound) | (with_reducible apply Sound.foldl) | (with_reducible apply Sound.ite) | exact rfl | (with_reducible intro _ _ _) | (with_reducible intro _)
    all_goals try split
    all_goals try dsimp only

theorem cancelChildren_sound {s0 : State} (s : State) (q : Query) (hs : Sound s0 s) : Sound s0 (cancelChildren s q) := by
  unfold cancelChildren
  repeat' first | assumption | (with_reducible apply fabSend_sound) | (with_reducible apply Sound.foldl) | (with_reducible apply Sound.ite) | (with_reducible intro _)

theorem sendList_sound {s0 : State} (s : State) (parent : Nat) (ptag : Nat) (group : Nat) (origin : Nat) (l : MList) (hs : Sound s0 s) : Sound s0 (sendList s parent ptag group origin l) := by
  unfold sendList
  repeat' first | assumption | (with_reducible apply fabSend_sound)

theorem setBridge_sound {s0 : State} (s : State) (m : Nat) (b : Bridge) (hs : Sound s0 s) : Sound s0 (setBridge s m b) := by
  unfold setBridge
  exact hs.upd rfl

theorem closeStrum_sound {s0 : State} (s : State) (i : Nat) (hs : Sound s0 s) : Sound s0 (closeStrum s i) := by
  unfold closeStrum
  try dsimp only
  iterate 2
    repeat' first | assumption | (with_reducible apply setBridge_sound) | (with_reducible apply Sound.foldl) | (with_reducible apply Sound.ite) | (with_reducible intro _)
    all_goals try with_reducible apply Sound.upd
    repeat' first | assumption | (with_reducible apply setBridge_sound) | (with_reducible apply Sound.foldl) | (with_reducible apply Sound.ite) | (with_reducible intro _)
    all_goals try split
    all_goals try dsimp only

theorem joinStrum_sound {s0 : State} (s : State) (i : Nat) (tag : Nat) (hs : Sound s0 s) : Sound s0 (joinStrum s i tag) := by
  unfold joinStrum
  repeat' first | assumption | (with_reducible apply closeStrum_sound) | (with_reducible apply Sound.ite) | (with_reducible intro _) | (with_reducible apply Sound.upd) | dsimp only

theorem detachRun_sound {s0 : State} (s : State) (slot : Nat) (seq : Nat) (hs : Sound s0 s) : Sound s0 (detachRun s slot seq) := by
  unfold detachRun
  exact hs.upd rfl

theorem placeExact_sound {s0 : State} (core : Nat) (l : List Nat) (s : State) (tag : Nat) {t : State} (hs : Sound s0 s)
    (e : placeExact core l s tag = some t) : Sound s0 t := by
  induction l generalizing s with
  | nil => cases e; exact hs
  | cons m r ih =>
    unfold placeExact at e
    simp only at e
    split at e
    · cases e
    · exact ih _ (withQuery_sound _ _ _ hs) e

theorem reserveCut_sound {s0 : State} (s : State) (tag : Nat) (hs : Sound s0 s) : Sound s0 (reserveCut s tag) := by
  unfold reserveCut
  try dsimp only
  iterate 4
    repeat' first | assumption | (with_reducible apply bump_sound) | (with_reducible apply withQuery_sound) | (with_reducible apply Sound.foldl) | (with_reducible apply Sound.ite) | exact rfl | (with_reducible intro _ _ _) | (with_reducible intro _)
    all_goals try with_reducible apply Sound.upd
    repeat' first | assumption | (with_reducible apply bump_sound) | (with_reducible apply withQuery_sound) | (with_reducible apply Sound.foldl) | (with_reducible apply Sound.ite) | exact rfl | (with_reducible intro _ _ _) | (with_reducible intro _)
    all_goals try split
    all_goals try dsimp only

theorem retryCuts_sound {s0 : State} (s : State) (hs : Sound s0 s) : Sound s0 (retryCuts s) := by
  unfold retryCuts
  repeat' first | assumption | (with_reducible apply reserveCut_sound) | (with_reducible apply Sound.foldl) | (with_reducible intro _)

theorem releaseQuery_sound {s0 : State} (s : State) (q : Query) (hs : Sound s0 s) : Sound s0 (releaseQuery s q) := by
  unfold releaseQuery
  try dsimp only
  iterate 2
    repeat' first | assumption | (with_reducible apply endReqs_sound) | (with_reducible apply detachRun_sound) | (with_reducible apply retryCuts_sound) | (with_reducible apply Sound.ite) | (with_reducible intro _)
    all_goals try with_reducible apply Sound.upd
    repeat' first | assumption | (with_reducible apply endReqs_sound) | (with_reducible apply detachRun_sound) | (with_reducible apply retryCuts_sound) | (with_reducible apply Sound.ite) | (with_reducible intro _)
    all_goals try split
    all_goals try dsimp only

theorem holdDone_sound {s0 : State} (s : State) (q : Query) (hs : Sound s0 s) : Sound s0 (holdDone s q) := by
  unfold holdDone
  try dsimp only
  iterate 2
    repeat' first | assumption | (with_reducible apply endReqs_sound) | (with_reducible apply withQuery_sound) | (with_reducible apply detachRun_sound) | (with_reducible apply Sound.foldl) | (with_reducible apply Sound.ite) | exact rfl | (with_reducible intro _ _ _) | (with_reducible intro _)
    all_goals try with_reducible apply Sound.upd
    repeat' first | assumption | (with_reducible apply endReqs_sound) | (with_reducible apply withQuery_sound) | (with_reducible apply detachRun_sound) | (with_reducible apply Sound.foldl) | (with_reducible apply Sound.ite) | exact rfl | (with_reducible intro _ _ _) | (with_reducible intro _)
    all_goals try split
    all_goals try dsimp only

theorem releaseDone_sound {s0 : State} (s : State) (slot : Nat) (seq : Nat) (hs : Sound s0 s) : Sound s0 (releaseDone s slot seq) := by
  unfold releaseDone
  try dsimp only
  iterate 2
    repeat' first | assumption | (with_reducible apply releaseQuery_sound) | (with_reducible apply Sound.foldl) | (with_reducible apply Sound.ite) | exact rfl | (with_reducible intro _ _ _) | (with_reducible intro _)
    all_goals try with_reducible apply Sound.upd
    repeat' first | assumption | (with_reducible apply releaseQuery_sound) | (with_reducible apply Sound.foldl) | (with_reducible apply Sound.ite) | exact rfl | (with_reducible intro _ _ _) | (with_reducible intro _)
    all_goals try split
    all_goals try dsimp only

theorem completeQuery_sound {s0 : State} (s : State) (q : Query) (l : MList) (hs : Sound s0 s) : Sound s0 (completeQuery s q l) := by
  unfold completeQuery
  try dsimp only
  iterate 2
    repeat' first | assumption | (with_reducible apply finish_sound) | (with_reducible apply sendList_sound) | (with_reducible apply releaseQuery_sound) | (with_reducible apply holdDone_sound) | (with_reducible apply Sound.foldl) | (with_reducible apply Sound.ite) | exact rfl | (with_reducible intro _ _ _) | (with_reducible intro _)
    all_goals try with_reducible apply Sound.upd
    repeat' first | assumption | (with_reducible apply finish_sound) | (with_reducible apply sendList_sound) | (with_reducible apply releaseQuery_sound) | (with_reducible apply holdDone_sound) | (with_reducible apply Sound.foldl) | (with_reducible apply Sound.ite) | exact rfl | (with_reducible intro _ _ _) | (with_reducible intro _)
    all_goals try split
    all_goals try dsimp only

theorem failQuery_sound {s0 : State} (s : State) (q : Query) (st : Status) (hs : Sound s0 s) : Sound s0 (failQuery s q st) := by
  unfold failQuery
  try dsimp only
  iterate 2
    repeat' first | assumption | (with_reducible apply finish_sound) | (with_reducible apply sendList_sound) | (with_reducible apply releaseQuery_sound) | (with_reducible apply holdDone_sound) | (with_reducible apply Sound.foldl) | (with_reducible apply Sound.ite) | exact rfl | (with_reducible intro _ _ _) | (with_reducible intro _)
    all_goals try with_reducible apply Sound.upd
    repeat' first | assumption | (with_reducible apply finish_sound) | (with_reducible apply sendList_sound) | (with_reducible apply releaseQuery_sound) | (with_reducible apply holdDone_sound) | (with_reducible apply Sound.foldl) | (with_reducible apply Sound.ite) | exact rfl | (with_reducible intro _ _ _) | (with_reducible intro _)
    all_goals try split
    all_goals try dsimp only

theorem localDone_sound {s0 : State} (s : State) (tag : Nat) (l : MList) (hs : Sound s0 s) : Sound s0 (localDone s tag l) := by
  unfold localDone
  try dsimp only
  iterate 3
    repeat' first | assumption | (with_reducible apply bump_sound) | (with_reducible apply withQuery_sound) | (with_reducible apply completeQuery_sound) | (with_reducible apply Sound.foldl) | (with_reducible apply Sound.ite) | exact rfl | (with_reducible intro _ _ _) | (with_reducible intro _)
    all_goals try with_reducible apply Sound.upd
    repeat' first | assumption | (with_reducible apply bump_sound) | (with_reducible apply withQuery_sound) | (with_reducible apply completeQuery_sound) | (with_reducible apply Sound.foldl) | (with_reducible apply Sound.ite) | exact rfl | (with_reducible intro _ _ _) | (with_reducible intro _)
    all_goals try split
    all_goals try dsimp only

theorem beginRerank_sound {s0 : State} (s : State) (q : Query) (hs : Sound s0 s) : Sound s0 (beginRerank s q) := by
  unfold beginRerank
  try dsimp only
  iterate 2
    repeat' first | assumption | (with_reducible apply beginReqs_sound) | (with_reducible apply Sound.foldl) | (with_reducible apply Sound.ite) | exact rfl | (with_reducible intro _ _ _) | (with_reducible intro _)
    all_goals try with_reducible apply Sound.upd
    repeat' first | assumption | (with_reducible apply beginReqs_sound) | (with_reducible apply Sound.foldl) | (with_reducible apply Sound.ite) | exact rfl | (with_reducible intro _ _ _) | (with_reducible intro _)
    all_goals try split
    all_goals try dsimp only

theorem hubDone_sound {s0 : State} (s : State) (tag : Nat) (l : MList) (hs : Sound s0 s) : Sound s0 (hubDone s tag l) := by
  unfold hubDone
  try dsimp only
  iterate 2
    repeat' first | assumption | (with_reducible apply withQuery_sound) | (with_reducible apply localDone_sound) | (with_reducible apply beginRerank_sound) | (with_reducible apply Sound.foldl) | (with_reducible apply Sound.ite) | exact rfl | (with_reducible intro _ _ _) | (with_reducible intro _)
    all_goals try with_reducible apply Sound.upd
    repeat' first | assumption | (with_reducible apply withQuery_sound) | (with_reducible apply localDone_sound) | (with_reducible apply beginRerank_sound) | (with_reducible apply Sound.foldl) | (with_reducible apply Sound.ite) | exact rfl | (with_reducible intro _ _ _) | (with_reducible intro _)
    all_goals try split
    all_goals try dsimp only

theorem hubForward_sound {s0 : State} (s : State) (tag : Nat) (how : Forwarded) (hs : Sound s0 s) : Sound s0 (hubForward s tag how) := by
  unfold hubForward
  try dsimp only
  iterate 2
    repeat' first | assumption | (with_reducible apply withQuery_sound) | (with_reducible apply hubDone_sound) | (with_reducible apply Sound.foldl) | (with_reducible apply Sound.ite) | exact rfl | (with_reducible intro _ _ _) | (with_reducible intro _)
    all_goals try with_reducible apply Sound.upd
    repeat' first | assumption | (with_reducible apply withQuery_sound) | (with_reducible apply hubDone_sound) | (with_reducible apply Sound.foldl) | (with_reducible apply Sound.ite) | exact rfl | (with_reducible intro _ _ _) | (with_reducible intro _)
    all_goals try split
    all_goals try dsimp only

theorem dieForward_sound {s0 : State} (s : State) (tag : Nat) (d : Nat) (how : Forwarded) (hs : Sound s0 s) : Sound s0 (dieForward s tag d how) := by
  unfold dieForward
  exact hs.upd rfl

theorem checkStage_sound {s0 : State} (s : State) (tag : Nat) (id : StageId) (hs : Sound s0 s) : Sound s0 (checkStage s tag id) := by
  unfold checkStage
  try dsimp only
  iterate 3
    repeat' first | assumption | (with_reducible apply hubForward_sound) | (with_reducible apply dieForward_sound) | (with_reducible apply Sound.foldl) | (with_reducible apply Sound.ite) | exact rfl | (with_reducible intro _ _ _) | (with_reducible intro _)
    all_goals try with_reducible apply Sound.upd
    repeat' first | assumption | (with_reducible apply hubForward_sound) | (with_reducible apply dieForward_sound) | (with_reducible apply Sound.foldl) | (with_reducible apply Sound.ite) | exact rfl | (with_reducible intro _ _ _) | (with_reducible intro _)
    all_goals try split
    all_goals try dsimp only

theorem sealStages_sound {s0 : State} (s : State) (tag : Nat) (hs : Sound s0 s) : Sound s0 (sealStages s tag) := by
  unfold sealStages
  try dsimp only
  iterate 2
    repeat' first | assumption | (with_reducible apply withQuery_sound) | (with_reducible apply checkStage_sound) | (with_reducible apply Sound.foldl) | (with_reducible apply Sound.ite) | exact rfl | (with_reducible intro _ _ _) | (with_reducible intro _)
    all_goals try with_reducible apply Sound.upd
    repeat' first | assumption | (with_reducible apply withQuery_sound) | (with_reducible apply checkStage_sound) | (with_reducible apply Sound.foldl) | (with_reducible apply Sound.ite) | exact rfl | (with_reducible intro _ _ _) | (with_reducible intro _)
    all_goals try split
    all_goals try dsimp only

theorem handOff_sound {s0 : State} (s : State) (tag : Nat) (c : Contributor) (l : MList) (hs : Sound s0 s) : Sound s0 (handOff s tag c l) := by
  unfold handOff
  exact hs.upd rfl

theorem badList__sound {s0 : State} (s : State) (i : Nat) (tag : Nat) (case_ : Nat) (hs : Sound s0 s) : Sound s0 (badList_ s i tag case_) := by
  unfold badList_
  repeat' first | assumption | (with_reducible apply raise_sound) | (with_reducible apply bump_sound)

theorem withWalk_sound {s0 : State} (s : State) (tag : Nat) (part : Nat) (f : Walk → Walk) (hs : Sound s0 s) : Sound s0 (withWalk s tag part f) := by
  unfold withWalk
  exact hs.upd rfl

theorem dropExpands_sound {s0 : State} (s : State) (tag : Nat) (part : Nat) (hs : Sound s0 s) : Sound s0 (dropExpands s tag part) := by
  unfold dropExpands
  exact hs.upd rfl

theorem endWalk_sound {s0 : State} (s : State) (tag : Nat) (part : Nat) (cut : Bool) (hs : Sound s0 s) : Sound s0 (endWalk s tag part cut) := by
  unfold endWalk
  split
  · exact hs
  · dsimp only
    exact dropExpands_sound _ _ _ (withWalk_sound _ _ _ _ (handOff_sound _ _ _ _ (bump_sound _ _ _ hs)))

theorem issueOne_sound {s0 : State} (s : State) (p : Part) (q : Query) (w : Walk) {t : State} (hs : Sound s0 s) (e : issueOne s p q w = some t) : Sound s0 t := by
  unfold issueOne at e
  simp only at e
  split at e
  · cases e
  · split at e
    · split at e
      · cases e
      · cases e; exact withWalk_sound _ _ _ _ (setBridge_sound _ _ _ (bump_sound _ _ _ hs))
    · cases e

theorem issueLoop_sound {s0 : State} (tag part : Nat) (p : Part) (fuel : Nat) (s : State) (hs : Sound s0 s) :
    Sound s0 (issueLoop tag part p fuel s) := by
  induction fuel generalizing s with
  | zero => exact hs
  | succ n ih =>
    unfold issueLoop
    split
    · exact hs
    · split
      · exact hs
      · refine Sound.ite (fun _ => hs) (fun _ => ?_)
        split
        · next e => exact ih _ (issueOne_sound _ _ _ _ hs e)
        · exact hs

theorem driveWalk_sound {s0 : State} (s : State) (tag : Nat) (part : Nat) (issue : Bool) (hs : Sound s0 s) : Sound s0 (driveWalk s tag part issue) := by
  unfold driveWalk
  try dsimp only
  iterate 4
    repeat' first | assumption | (with_reducible apply bump_sound) | (with_reducible apply endWalk_sound) | (with_reducible apply issueLoop_sound) | (with_reducible apply Sound.foldl) | (with_reducible apply Sound.ite) | exact rfl | (with_reducible intro _ _ _) | (with_reducible intro _)
    all_goals try with_reducible apply Sound.upd
    repeat' first | assumption | (with_reducible apply bump_sound) | (with_reducible apply endWalk_sound) | (with_reducible apply issueLoop_sound) | (with_reducible apply Sound.foldl) | (with_reducible apply Sound.ite) | exact rfl | (with_reducible intro _ _ _) | (with_reducible intro _)
    all_goals try split
    all_goals try dsimp only

theorem driveAll_sound {s0 : State} (s : State) (hs : Sound s0 s) : Sound s0 (driveAll s) := by
  unfold driveAll
  repeat' first | assumption | (with_reducible apply driveWalk_sound) | (with_reducible apply Sound.foldl) | (with_reducible apply Sound.ite) | exact rfl | (with_reducible intro _ _ _) | (with_reducible intro _)

theorem retryHeld_sound {s0 : State} (before s : State) (hs : Sound s0 s) : Sound s0 (retryHeld before s) := by
  unfold retryHeld
  exact Sound.ite (fun _ => Sound.ite (fun _ => driveAll_sound _ (driveAll_sound _ hs)) (fun _ => driveAll_sound _ hs)) (fun _ => hs)

theorem loseWalk_sound {s0 : State} (s : State) (tag : Nat) (part : Nat) (c : Contributor) (hs : Sound s0 s) : Sound s0 (loseWalk s tag part c) := by
  unfold loseWalk
  exact hs.upd rfl

theorem loseUnplaced_sound {s0 : State} (s : State) (hs : Sound s0 s) : Sound s0 (loseUnplaced s) := by
  unfold loseUnplaced
  try dsimp only
  iterate 2
    repeat' first | assumption | (with_reducible apply sealStages_sound) | (with_reducible apply loseWalk_sound) | (with_reducible apply Sound.foldl) | (with_reducible apply Sound.ite) | exact rfl | (with_reducible intro _ _ _) | (with_reducible intro _)
    all_goals try with_reducible apply Sound.upd
    repeat' first | assumption | (with_reducible apply sealStages_sound) | (with_reducible apply loseWalk_sound) | (with_reducible apply Sound.foldl) | (with_reducible apply Sound.ite) | exact rfl | (with_reducible intro _ _ _) | (with_reducible intro _)
    all_goals try split
    all_goals try dsimp only

theorem restartWalk_sound {s0 : State} (s : State) (tag : Nat) (part : Nat) (hs : Sound s0 s) : Sound s0 (restartWalk s tag part) := by
  unfold restartWalk
  cases queryOf s tag with
  | none => exact hs
  | some q =>
    dsimp only
    cases look s.indexes q.index with
    | none => exact hs
    | some x =>
      exact Sound.ite (fun _ => withQuery_sound _ _ _ (dropExpands_sound _ _ _ hs)) (fun _ => loseWalk_sound _ _ _ _ (dropExpands_sound _ _ _ hs))

theorem dropLuthier_sound {s0 : State} (s : State) (hit : LuthierWalk → Bool) (hs : Sound s0 s) : Sound s0 (dropLuthier s hit) := by
  unfold dropLuthier
  exact hs.upd rfl

theorem memBad_sound {s0 : State} (s : State) (kind : Nat) (unit : Nat) (addr : Nat) (hs : Sound s0 s) : Sound s0 (memBad s kind unit addr) := by
  unfold memBad
  repeat' first | assumption | (with_reducible apply raise_sound) | (with_reducible apply bump_sound)

theorem recordBad_sound {s0 : State} (s : State) (i : Nat) (pn : Nat) (slot : Nat) (header : Bool) (hs : Sound s0 s) : Sound s0 (recordBad s i pn slot header) := by
  unfold recordBad
  split
  · exact hs
  · split
    · exact hs
    · dsimp only
      have h := fun f => withPart_sound (memBad s 3 (stackOfSlot ‹Part› slot) (recAddr ‹Index› ‹Part› slot)) i pn f (memBad_sound _ _ _ _ hs)
      exact Sound.ite (fun _ => h _) (fun _ => raise_sound (h _) _ _ _ _ _ _ _)

theorem rerankLost_sound {s0 : State} (s : State) (i : Nat) (pn : Nat) (slot : Nat) (hs : Sound s0 s) : Sound s0 (rerankLost s i pn slot) := by
  unfold rerankLost
  try dsimp only
  iterate 3
    repeat' first | assumption | (with_reducible apply withPart_sound) | (with_reducible apply memBad_sound) | (with_reducible apply Sound.foldl) | (with_reducible apply Sound.ite) | exact rfl | (with_reducible intro _ _ _) | (with_reducible intro _)
    all_goals try with_reducible apply Sound.upd
    repeat' first | assumption | (with_reducible apply withPart_sound) | (with_reducible apply memBad_sound) | (with_reducible apply Sound.foldl) | (with_reducible apply Sound.ite) | exact rfl | (with_reducible intro _ _ _) | (with_reducible intro _)
    all_goals try split
    all_goals try dsimp only

theorem enterQuery_sound {s0 : State} (s : State) (q : Query) (hs : Sound s0 s) : Sound s0 (enterQuery s q) := by
  unfold enterQuery
  repeat' first | assumption | (with_reducible apply joinStrum_sound) | (with_reducible apply reserveCut_sound) | (with_reducible apply Sound.ite) | (with_reducible intro _) | (with_reducible apply Sound.upd) | dsimp only

theorem admitQuery_sound {s0 : State} (s : State) (slot : Nat) (seq : Nat) (w : CmdWord) (exact : Bool) (fromHost : Bool) (t : Nat) (hs : Sound s0 s) : Sound s0 (admitQuery s slot seq w exact fromHost t) := by
  unfold admitQuery
  try dsimp only
  iterate 2
    repeat' first | assumption | (with_reducible apply withCmd_sound) | (with_reducible apply finishWith_sound) | (with_reducible apply enterQuery_sound)
    all_goals try with_reducible apply Sound.upd
    repeat' first | assumption | (with_reducible apply withCmd_sound) | (with_reducible apply finishWith_sound) | (with_reducible apply enterQuery_sound)
    all_goals try split
    all_goals try dsimp only

theorem encodeQuery_sound {s0 : State} (s : State) (tag : Nat) (hs : Sound s0 s) : Sound s0 (encodeQuery s tag) := by
  unfold encodeQuery
  try dsimp only
  iterate 3
    repeat' first | assumption | (with_reducible apply bump_sound) | (with_reducible apply withQuery_sound) | (with_reducible apply sendChildren_sound) | (with_reducible apply Sound.foldl) | (with_reducible apply Sound.ite) | exact rfl | (with_reducible intro _ _ _) | (with_reducible intro _)
    all_goals try with_reducible apply Sound.upd
    repeat' first | assumption | (with_reducible apply bump_sound) | (with_reducible apply withQuery_sound) | (with_reducible apply sendChildren_sound) | (with_reducible apply Sound.foldl) | (with_reducible apply Sound.ite) | exact rfl | (with_reducible intro _ _ _) | (with_reducible intro _)
    all_goals try split
    all_goals try dsimp only

theorem takeVector_sound {s0 : State} (s : State) (tag : Nat) (bs : List Byte) (hs : Sound s0 s) : Sound s0 (takeVector s tag bs) := by
  unfold takeVector
  repeat' first | assumption | (with_reducible apply endReqs_sound) | (with_reducible apply withQuery_sound) | (with_reducible apply markCause_sound) | (with_reducible apply encodeQuery_sound) | (with_reducible apply Sound.ite) | (with_reducible intro _)

theorem startQuery_sound {s0 : State} (s : State) (x : Index) (q : Query) (core : Nat) {t : State} (hs : Sound s0 s) (e : startQuery s x q core = some t) : Sound s0 t := by
  unfold startQuery at e
  simp only at e
  split at e
  · split at e
    · obtain ⟨_, h, rfl⟩ := Option.map_eq_some_iff.1 e
      exact encodeQuery_sound _ _ (sealStages_sound _ _ (withQuery_sound _ _ _ (beginReqs_sound _ _ _ _ (placeExact_sound _ _ _ _ hs h))))
    · cases e
  · obtain ⟨_, _, rfl⟩ := Option.map_eq_some_iff.1 e
    exact encodeQuery_sound _ _ (sealStages_sound _ _ (withQuery_sound _ _ _ (beginReqs_sound _ _ _ _ (withQuery_sound _ _ _ hs))))

theorem exactDeliver_sound {s0 : State} (s : State) (q : Query) (x : Index) (pn : Nat) (p : Part) (stack : Nat) (reach : Nat) (bad : List Nat) (cut : Bool) (hs : Sound s0 s) : Sound s0 (exactDeliver s q x pn p stack reach bad cut) := by
  unfold exactDeliver
  repeat' first | assumption | (with_reducible apply bump_sound) | (with_reducible apply handOff_sound) | (with_reducible apply withWalk_sound) | (with_reducible apply Sound.ite) | (with_reducible intro _)

theorem setStageAt_sound {s0 : State} (s : State) (tag : Nat) (id : StageId) (st : MergeStage) (hs : Sound s0 s) : Sound s0 (setStageAt s tag id st) := by
  unfold setStageAt
  exact hs.upd rfl

theorem rerankEnd_sound {s0 : State} (s : State) (x : Index) (q : Query) (bad : List Nat) (hs : Sound s0 s) : Sound s0 (rerankEnd s x q bad) := by
  unfold rerankEnd
  repeat' first | assumption | (with_reducible apply bump_sound) | (with_reducible apply endReqs_sound) | (with_reducible apply localDone_sound) | (with_reducible apply rerankLost_sound) | (with_reducible apply Sound.foldl) | (with_reducible intro _)

theorem cutExact_sound {s0 : State} (s : State) (q : Query) (pn : Nat) (hs : Sound s0 s) : Sound s0 (cutExact s q pn) := by
  unfold cutExact
  try dsimp only
  iterate 3
    repeat' first | assumption | (with_reducible apply freshFill_sound) | (with_reducible apply exactDeliver_sound) | (refine Sound.of_pair ?_ (by assumption)) | (with_reducible apply Sound.foldl) | (with_reducible apply Sound.ite) | exact rfl | (with_reducible intro _ _ _) | (with_reducible intro _)
    all_goals try with_reducible apply Sound.upd
    repeat' first | assumption | (with_reducible apply freshFill_sound) | (with_reducible apply exactDeliver_sound) | (refine Sound.of_pair ?_ (by assumption)) | (with_reducible apply Sound.foldl) | (with_reducible apply Sound.ite) | exact rfl | (with_reducible intro _ _ _) | (with_reducible intro _)
    all_goals try split
    all_goals try dsimp only

theorem cutOut_sound {s0 : State} (s : State) (q : Query) (l : MList) (hs : Sound s0 s) : Sound s0 (cutOut s q l) := by
  unfold cutOut
  cases q.origin
  · exact Sound.ite (fun _ => completeQuery_sound _ _ _ hs) (fun _ => localDone_sound _ _ _ hs)
  · exact withQuery_sound _ _ _ hs

theorem cutQuery_sound {s0 : State} (s : State) (q : Query) (hs : Sound s0 s) : Sound s0 (cutQuery s q) := by
  unfold cutQuery
  have h : ∀ f, Sound s0 (withQuery s q.tag f) := fun f => withQuery_sound _ _ _ hs
  have walks : ∀ f, Sound s0 (match q.exact with
      | some pn => cutExact (withQuery s q.tag f) q pn
      | none => (q.walks.filter (fun w => !(isEnded w))).foldl (fun s w => endWalk s q.tag w.part true) (withQuery s q.tag f)) := by
    intro f
    cases q.exact
    · exact Sound.foldl _ (fun _ _ g => endWalk_sound _ _ _ _ g) (h f)
    · exact cutExact_sound _ _ _ (h f)
  cases q.phase
  case waiting => exact cutOut_sound _ _ _ hs
  case reranking => exact cutOut_sound _ _ _ (withQuery_sound _ _ _ (endReqs_sound _ _ hs))
  case finished => exact h _
  case done => exact hs
  all_goals exact walks _

theorem queryArrives_sound {s0 : State} (lag : Nat) (s : State) (f : Frame) (bad : Bool) (hs : Sound s0 s) : Sound s0 (queryArrives lag s f bad) := by
  unfold queryArrives
  dsimp only
  refine Sound.ite (fun _ => sendList_sound _ _ _ _ _ _ hs) (fun _ => ?_)
  split
  · exact sendList_sound _ _ _ _ _ _ (raise_sound hs _ _ _ _ _ _ _)
  · exact Sound.ite (fun _ => sendList_sound _ _ _ _ _ _ hs) (fun _ => enterQuery_sound _ _ (hs.upd rfl))

theorem listArrives_sound {s0 : State} (lag : Nat) (s : State) (f : Frame) (bad : Bool) (hs : Sound s0 s) : Sound s0 (listArrives lag s f bad) := by
  unfold listArrives
  dsimp only
  have bad_ : ∀ i n, Sound s0 (badList_ s i f.ptag n) := fun i n => badList__sound _ _ _ _ hs
  have gone : Sound s0 { bump s 0x2A 1 with fabric := { (bump s 0x2A 1).fabric with
      missed := (bump s 0x2A 1).fabric.missed.erase (f.ptag, f.src) } } := (bump_sound _ _ _ hs).upd rfl
  cases queryOf s f.ptag with
  | none => exact Sound.ite (fun _ => gone) (fun _ => bad_ _ _)
  | some q =>
    dsimp only
    cases q.fabric with
    | none => exact bad_ _ _
    | some st =>
      refine Sound.ite (fun _ => bad_ _ _) (fun _ => Sound.ite (fun _ => markCause_sound _ _ _ (bad_ _ _)) (fun _ =>
        Sound.ite (fun _ => markLate_sound _ _ gone) (fun _ => Sound.ite (fun _ => bad_ _ _) (fun _ =>
        Sound.ite (fun _ => markCause_sound _ _ _ (bad_ _ _)) (fun _ => ?_)))))
      have h := fun n g => withQuery_sound (bump s 0x29 n) q.tag g (bump_sound _ _ _ hs)
      exact Sound.ite (fun _ => completeQuery_sound _ _ _ (h _ _)) (fun _ => h _ _)

theorem rowArrives_sound {s0 : State} (s : State) (i : Nat) (f : Frame) (bad : Bool) (hs : Sound s0 s) : Sound s0 (rowArrives s i f bad) := by
  unfold rowArrives
  repeat' first | assumption | (with_reducible apply freeFlits_sound) | (with_reducible apply passIngress_sound) | (with_reducible apply combineRowSel_sound) | (with_reducible apply badList__sound) | (with_reducible apply Sound.foldl) | (with_reducible apply Sound.ite) | (with_reducible intro _) | (with_reducible apply Sound.upd) | dsimp only

theorem abandonQuery_sound {s0 : State} (s : State) (q : Query) (hs : Sound s0 s) : Sound s0 (abandonQuery s q) := by
  unfold abandonQuery
  repeat' first | assumption | (with_reducible apply cancelChildren_sound) | (with_reducible apply releaseQuery_sound)

theorem cancelArrives_sound {s0 : State} (s : State) (f : Frame) (x_ : Bool) (hs : Sound s0 s) : Sound s0 (cancelArrives s f x_) := by
  unfold cancelArrives
  try dsimp only
  iterate 3
    repeat' first | assumption | (with_reducible apply abortRun_sound) | (with_reducible apply badList__sound) | (with_reducible apply retryHeld_sound) | (with_reducible apply abandonQuery_sound) | (with_reducible apply Sound.foldl) | (with_reducible apply Sound.ite) | exact rfl | (with_reducible intro _ _ _) | (with_reducible intro _)
    all_goals try with_reducible apply Sound.upd
    repeat' first | assumption | (with_reducible apply abortRun_sound) | (with_reducible apply badList__sound) | (with_reducible apply retryHeld_sound) | (with_reducible apply abandonQuery_sound) | (with_reducible apply Sound.foldl) | (with_reducible apply Sound.ite) | exact rfl | (with_reducible intro _ _ _) | (with_reducible intro _)
    all_goals try split
    all_goals try dsimp only

end Sys2Proof.Machine
end

