-- ==== Sys2Proof/Laws/SoundIndex.lean ====
section
/-!
SUPPORT. `Sound` for the operations on writes, the luthier, retunes and host accesses.
-/
namespace Sys2Proof.Machine

theorem accept_sound {s0 : State} (s : State) (slot : Nat) (seq : Nat) (o : OutCmd) (x : Index) (payload : List Byte) (off : Nat) (lag : Nat) (hs : Sound s0 s) : Sound s0 (accept s slot seq o x payload off lag) := by
  unfold accept
  repeat' first | assumption | (with_reducible apply withCmd_sound) | (with_reducible apply finishWith_sound) | (with_reducible apply setStage_sound) | (with_reducible apply withIndex_sound) | (with_reducible apply closeBatch_sound) | (with_reducible apply setRing_sound) | (with_reducible apply Sound.ite) | (with_reducible intro _) | (with_reducible apply Sound.upd) | dsimp only

theorem noteDrift_sound {s0 : State} (s : State) (i : Nat) (clamped : Nat) (err : Option FV) (nan : Bool) (hs : Sound s0 s) : Sound s0 (noteDrift s i clamped err nan) := by
  unfold noteDrift
  try dsimp only
  iterate 2
    repeat' first | assumption | (with_reducible apply raise_sound) | (with_reducible apply withIndex_sound) | (with_reducible apply Sound.ite) | (with_reducible intro _)
    all_goals try with_reducible apply Sound.upd
    repeat' first | assumption | (with_reducible apply raise_sound) | (with_reducible apply withIndex_sound) | (with_reducible apply Sound.ite) | (with_reducible intro _)
    all_goals try split
    all_goals try dsimp only

theorem noteSample_sound {s0 : State} (s : State) (i : Nat) (p : List FV) (rr : List Nat) (hs : Sound s0 s) : Sound s0 (noteSample s i p rr) := by
  unfold noteSample
  exact hs.upd rfl

theorem noteApplied_sound {s0 : State} (s : State) (i : Nat) (epoch : Nat) (hs : Sound s0 s) : Sound s0 (noteApplied s i epoch) := by
  unfold noteApplied
  exact hs.upd rfl

theorem applyDelete_sound {s0 : State} (s : State) (i : Nat) (x : Index) (e : JEntry) (isDelete : Bool) (hs : Sound s0 s) : Sound s0 (applyDelete s i x e isDelete) := by
  unfold applyDelete
  repeat' first | assumption | (with_reducible apply bump_sound) | (with_reducible apply withIndex_sound) | (with_reducible apply Sound.ite) | (with_reducible intro _)

theorem applyInsert_sound {s0 : State} (s : State) (i : Nat) (x : Index) (e : JEntry) (pn : Nat) (stack : Nat) (slot : Nat) (hs : Sound s0 s) : Sound s0 (applyInsert s i x e pn stack slot) := by
  unfold applyInsert
  try dsimp only
  iterate 2
    repeat' first | assumption | (with_reducible apply withIndex_sound) | (with_reducible apply pressCheck_sound) | (with_reducible apply noteDrift_sound) | (with_reducible apply noteSample_sound) | (with_reducible apply Sound.foldl) | (with_reducible apply Sound.ite) | exact rfl | (with_reducible intro _ _ _) | (with_reducible intro _)
    all_goals try with_reducible apply Sound.upd
    repeat' first | assumption | (with_reducible apply withIndex_sound) | (with_reducible apply pressCheck_sound) | (with_reducible apply noteDrift_sound) | (with_reducible apply noteSample_sound) | (with_reducible apply Sound.foldl) | (with_reducible apply Sound.ite) | exact rfl | (with_reducible intro _ _ _) | (with_reducible intro _)
    all_goals try split
    all_goals try dsimp only

theorem headMoves_sound {s0 : State} (s : State) (i : Nat) (hs : Sound s0 s) : Sound s0 (headMoves s i) := by
  unfold headMoves
  exact hs.upd rfl

theorem finishAll_sound {s0 : State} (s : State) (p : OutCmd → Bool) (c : OutCmd → Compl) (hs : Sound s0 s) : Sound s0 (finishAll s p c) := by
  unfold finishAll
  repeat' first | assumption | (with_reducible apply finish_sound) | (with_reducible apply Sound.foldl) | (with_reducible intro _)

theorem mergeNowDone_sound {s0 : State} (s : State) (i : Nat) (hs : Sound s0 s) : Sound s0 (mergeNowDone s i) := by
  unfold mergeNowDone
  try dsimp only
  iterate 2
    repeat' first | assumption | (with_reducible apply finishAll_sound) | (with_reducible apply Sound.foldl) | (with_reducible apply Sound.ite) | exact rfl | (with_reducible intro _ _ _) | (with_reducible intro _)
    all_goals try with_reducible apply Sound.upd
    repeat' first | assumption | (with_reducible apply finishAll_sound) | (with_reducible apply Sound.foldl) | (with_reducible apply Sound.ite) | exact rfl | (with_reducible intro _ _ _) | (with_reducible intro _)
    all_goals try split
    all_goals try dsimp only

theorem publishMark_sound {s0 : State} (s : State) (i : Nat) (pn : Nat) (stack : Nat) (pos : Nat) (epoch : Nat) (hs : Sound s0 s) : Sound s0 (publishMark s i pn stack pos epoch) := by
  unfold publishMark
  try dsimp only
  iterate 2
    repeat' first | assumption | (with_reducible apply bump_sound) | (with_reducible apply withPart_sound) | (with_reducible apply Sound.foldl) | (with_reducible apply Sound.ite) | exact rfl | (with_reducible intro _ _ _) | (with_reducible intro _)
    all_goals try with_reducible apply Sound.upd
    repeat' first | assumption | (with_reducible apply bump_sound) | (with_reducible apply withPart_sound) | (with_reducible apply Sound.foldl) | (with_reducible apply Sound.ite) | exact rfl | (with_reducible intro _ _ _) | (with_reducible intro _)
    all_goals try split
    all_goals try dsimp only

theorem publishVersion_sound {s0 : State} (s : State) (i : Nat) (epoch : Nat) (hs : Sound s0 s) : Sound s0 (publishVersion s i epoch) := by
  unfold publishVersion
  try dsimp only
  iterate 3
    repeat' first | assumption | (with_reducible apply finish_sound) | (with_reducible apply withIndex_sound) | (with_reducible apply Sound.foldl) | (with_reducible apply Sound.ite) | exact rfl | (with_reducible intro _ _ _) | (with_reducible intro _)
    all_goals try with_reducible apply Sound.upd
    repeat' first | assumption | (with_reducible apply finish_sound) | (with_reducible apply withIndex_sound) | (with_reducible apply Sound.foldl) | (with_reducible apply Sound.ite) | exact rfl | (with_reducible intro _ _ _) | (with_reducible intro _)
    all_goals try split
    all_goals try dsimp only

theorem publishSwitch_sound {s0 : State} (s : State) (i : Nat) (epoch : Nat) (hs : Sound s0 s) : Sound s0 (publishSwitch s i epoch) := by
  unfold publishSwitch
  try dsimp only
  iterate 2
    repeat' first | assumption | (with_reducible apply finish_sound) | (with_reducible apply withIndex_sound) | (with_reducible apply Sound.foldl) | (with_reducible apply Sound.ite) | exact rfl | (with_reducible intro _ _ _) | (with_reducible intro _)
    all_goals try with_reducible apply Sound.upd
    repeat' first | assumption | (with_reducible apply finish_sound) | (with_reducible apply withIndex_sound) | (with_reducible apply Sound.foldl) | (with_reducible apply Sound.ite) | exact rfl | (with_reducible intro _ _ _) | (with_reducible intro _)
    all_goals try split
    all_goals try dsimp only

theorem publishWork_sound {s0 : State} (i : Nat) (epoch : Nat) (s : State) (w : Work) (hs : Sound s0 s) : Sound s0 (publishWork i epoch s w) := by
  unfold publishWork
  try dsimp only
  iterate 2
    repeat' first | assumption | (with_reducible apply withPart_sound) | (with_reducible apply publishMark_sound) | (with_reducible apply publishVersion_sound) | (with_reducible apply publishSwitch_sound) | (with_reducible apply Sound.foldl) | (with_reducible apply Sound.ite) | exact rfl | (with_reducible intro _ _ _) | (with_reducible intro _)
    all_goals try with_reducible apply Sound.upd
    repeat' first | assumption | (with_reducible apply withPart_sound) | (with_reducible apply publishMark_sound) | (with_reducible apply publishVersion_sound) | (with_reducible apply publishSwitch_sound) | (with_reducible apply Sound.foldl) | (with_reducible apply Sound.ite) | exact rfl | (with_reducible intro _ _ _) | (with_reducible intro _)
    all_goals try split
    all_goals try dsimp only

theorem runFetch_sound {s0 : State} (s : State) (slot : Nat) (o : OutCmd) (x : Index) (hs : Sound s0 s) : Sound s0 (runFetch s slot o x) := by
  unfold runFetch
  repeat' first | assumption | (with_reducible apply withCmd_sound) | (with_reducible apply finish_sound)

theorem createIndexEnd_sound {s0 : State} (s : State) (slot : Nat) (seq : Nat) (w : CmdWord) (table : List Byte) (image : List Byte) (hs : Sound s0 s) : Sound s0 (createIndexEnd s slot seq w table image) := by
  unfold createIndexEnd
  try dsimp only
  iterate 2
    repeat' first | assumption | (with_reducible apply finish_sound) | (with_reducible apply finishWith_sound) | (with_reducible apply Sound.ite) | (with_reducible intro _)
    all_goals try with_reducible apply Sound.upd
    repeat' first | assumption | (with_reducible apply finish_sound) | (with_reducible apply finishWith_sound) | (with_reducible apply Sound.ite) | (with_reducible intro _)
    all_goals try split
    all_goals try dsimp only

theorem finishOp_sound {s0 : State} (s : State) (slot : Nat) (seq : Nat) (op : Nat) (c : Compl) (hs : Sound s0 s) : Sound s0 (finishOp s slot seq op c) := by
  unfold finishOp
  try dsimp only
  iterate 2
    repeat' first | assumption | (with_reducible apply finish_sound) | (with_reducible apply Sound.foldl) | (with_reducible apply Sound.ite) | exact rfl | (with_reducible intro _ _ _) | (with_reducible intro _)
    all_goals try with_reducible apply Sound.upd
    repeat' first | assumption | (with_reducible apply finish_sound) | (with_reducible apply Sound.foldl) | (with_reducible apply Sound.ite) | exact rfl | (with_reducible intro _ _ _) | (with_reducible intro _)
    all_goals try split
    all_goals try dsimp only

theorem beginDrop_sound {s0 : State} (s : State) (i : Nat) (slot : Nat) (seq : Nat) (hs : Sound s0 s) : Sound s0 (beginDrop s i slot seq) := by
  unfold beginDrop
  try dsimp only
  iterate 2
    repeat' first | assumption | (with_reducible apply withIndex_sound) | (with_reducible apply retire_sound) | (with_reducible apply failWrite_sound) | (with_reducible apply finishAll_sound) | (with_reducible apply finishOp_sound) | (with_reducible apply Sound.foldl) | (with_reducible intro _)
    all_goals try with_reducible apply Sound.upd
    repeat' first | assumption | (with_reducible apply withIndex_sound) | (with_reducible apply retire_sound) | (with_reducible apply failWrite_sound) | (with_reducible apply finishAll_sound) | (with_reducible apply finishOp_sound) | (with_reducible apply Sound.foldl) | (with_reducible intro _)
    all_goals try split
    all_goals try dsimp only

theorem takeContexts_sound {s0 : State} (s : State) (i : Nat) (pn : Nat) (stack : Nat) (epoch : Nat) (core : Nat) (ctx : Nat) (g : Nat) (hs : Sound s0 s) : Sound s0 (takeContexts s i pn stack epoch core ctx g) := by
  unfold takeContexts
  exact hs.upd rfl

theorem noteTally_sound {s0 : State} (s : State) (t : Tally) (hs : Sound s0 s) : Sound s0 (noteTally s t) := by
  unfold noteTally
  exact hs.upd rfl

theorem endRetune_sound {s0 : State} (s : State) (i : Nat) (c : Compl) (hs : Sound s0 s) : Sound s0 (endRetune s i c) := by
  unfold endRetune
  try dsimp only
  iterate 3
    repeat' first | assumption | (with_reducible apply withIndex_sound) | (with_reducible apply finishOp_sound) | (with_reducible apply Sound.foldl) | (with_reducible apply Sound.ite) | exact rfl | (with_reducible intro _ _ _) | (with_reducible intro _)
    all_goals try with_reducible apply Sound.upd
    repeat' first | assumption | (with_reducible apply withIndex_sound) | (with_reducible apply finishOp_sound) | (with_reducible apply Sound.foldl) | (with_reducible apply Sound.ite) | exact rfl | (with_reducible intro _ _ _) | (with_reducible intro _)
    all_goals try split
    all_goals try dsimp only

theorem retuneStartEnd_sound {s0 : State} (s : State) (slot : Nat) (seq : Nat) (w : CmdWord) (image : List Byte) (hs : Sound s0 s) : Sound s0 (retuneStartEnd s slot seq w image) := by
  unfold retuneStartEnd
  try dsimp only
  iterate 2
    repeat' first | assumption | (with_reducible apply finishWith_sound) | (with_reducible apply setStage_sound) | (with_reducible apply withIndex_sound) | (with_reducible apply Sound.foldl) | (with_reducible apply Sound.ite) | exact rfl | (with_reducible intro _ _ _) | (with_reducible intro _)
    all_goals try with_reducible apply Sound.upd
    repeat' first | assumption | (with_reducible apply finishWith_sound) | (with_reducible apply setStage_sound) | (with_reducible apply withIndex_sound) | (with_reducible apply Sound.foldl) | (with_reducible apply Sound.ite) | exact rfl | (with_reducible intro _ _ _) | (with_reducible intro _)
    all_goals try split
    all_goals try dsimp only

theorem joinSwitch_sound {s0 : State} (s : State) (i : Nat) (hs : Sound s0 s) : Sound s0 (joinSwitch s i) := by
  unfold joinSwitch
  exact hs.upd rfl

theorem joinVersion_sound {s0 : State} (s : State) (i : Nat) (v : CodeVer) (hs : Sound s0 s) : Sound s0 (joinVersion s i v) := by
  unfold joinVersion
  exact hs.upd rfl

theorem runPasses_sound {s0 : State} (s t : State) (h : Sound s0 t) : Sound s0 (runPasses s t) := by
  exact h.upd rfl

theorem leaveQuiet_sound {s0 : State} (s : State) (hs : Sound s0 s) : Sound s0 (leaveQuiet s) := by
  unfold leaveQuiet
  exact hs.upd rfl

theorem dropEntry_sound {s0 : State} (s : State) (hs : Sound s0 s) : Sound s0 (dropEntry s) := by
  unfold dropEntry
  repeat' first | assumption | (with_reducible apply leaveQuiet_sound) | (with_reducible apply Sound.ite) | (with_reducible intro _) | (with_reducible apply Sound.upd) | dsimp only

theorem doorbellWins_sound {s0 : State} (s : State) (hs : Sound s0 s) : Sound s0 (doorbellWins s) := by
  unfold doorbellWins
  try dsimp only
  iterate 2
    repeat' first | assumption | (with_reducible apply leaveQuiet_sound) | (with_reducible apply Sound.ite) | (with_reducible intro _)
    all_goals try with_reducible apply Sound.upd
    repeat' first | assumption | (with_reducible apply leaveQuiet_sound) | (with_reducible apply Sound.ite) | (with_reducible intro _)
    all_goals try split
    all_goals try dsimp only

theorem ringDoorbell_sound {s0 : State} (s : State) (p : Port) (slot : Nat) (value : Nat) (sub : Bool) (hs : Sound s0 s) : Sound s0 (ringDoorbell s p slot value sub) := by
  unfold ringDoorbell
  repeat' first | assumption | (with_reducible apply doorbell_sound) | (with_reducible apply doorbellWins_sound) | (with_reducible apply Sound.ite) | (with_reducible intro _)

theorem reslotWaiters_sound {s0 : State} (s : State) (a : Nat) (b : Nat) (hs : Sound s0 s) : Sound s0 (reslotWaiters s a b) := by
  unfold reslotWaiters
  exact hs.upd rfl

theorem orphanIndexes_sound {s0 : State} (s : State) (slot : Nat) (hs : Sound s0 s) : Sound s0 (orphanIndexes s slot) := by
  unfold orphanIndexes
  exact hs.upd rfl

theorem keepEntries_sound {s0 : State} (s : State) (slot : Nat) (hs : Sound s0 s) : Sound s0 (keepEntries s slot) := by
  unfold keepEntries
  exact hs.upd rfl

theorem loseEntry_sound {s0 : State} (s : State) (slot : Nat) (hs : Sound s0 s) : Sound s0 (loseEntry s slot) := by
  unfold loseEntry
  try dsimp only
  iterate 2
    repeat' first | assumption | (with_reducible apply dropEntry_sound) | (with_reducible apply Sound.ite) | (with_reducible intro _)
    all_goals try with_reducible apply Sound.upd
    repeat' first | assumption | (with_reducible apply dropEntry_sound) | (with_reducible apply Sound.ite) | (with_reducible intro _)
    all_goals try split
    all_goals try dsimp only

theorem abortPoint_sound {s0 : State} (s : State) (slot : Nat) (by_ : List (Nat × Nat)) (destroy : Bool) (hs : Sound s0 s) : Sound s0 (abortPoint s slot by_ destroy) := by
  unfold abortPoint
  repeat' first | assumption | (with_reducible apply setChan_sound) | (with_reducible apply withdraw_sound) | (with_reducible apply abortRun_sound) | (with_reducible apply detachRun_sound) | (with_reducible apply retryHeld_sound) | (with_reducible apply abandonQuery_sound) | (with_reducible apply orphanIndexes_sound) | (with_reducible apply keepEntries_sound) | (with_reducible apply loseEntry_sound) | (with_reducible apply Sound.foldl) | (with_reducible apply Sound.ite) | exact rfl | (with_reducible intro _ _ _) | (with_reducible intro _) | (with_reducible apply Sound.upd)

theorem abortChan_sound {s0 : State} (s : State) (slot : Nat) (by_ : List (Nat × Nat)) (destroy : Bool) (hs : Sound s0 s) : Sound s0 (abortChan s slot by_ destroy) := by
  unfold abortChan
  try dsimp only
  iterate 2
    repeat' first | assumption | (with_reducible apply setChan_sound) | (with_reducible apply abortPoint_sound) | (with_reducible apply Sound.foldl) | (with_reducible apply Sound.ite) | exact rfl | (with_reducible intro _ _ _) | (with_reducible intro _)
    all_goals try with_reducible apply Sound.upd
    repeat' first | assumption | (with_reducible apply setChan_sound) | (with_reducible apply abortPoint_sound) | (with_reducible apply Sound.foldl) | (with_reducible apply Sound.ite) | exact rfl | (with_reducible intro _ _ _) | (with_reducible intro _)
    all_goals try split
    all_goals try dsimp only

theorem chanError_sound {s0 : State} (s : State) (slot : Nat) (cause : Nat) (hs : Sound s0 s) : Sound s0 (chanError s slot cause) := by
  unfold chanError
  repeat' first | assumption | (with_reducible apply raise_sound) | (with_reducible apply setPort_sound) | (with_reducible apply setChan_sound) | (with_reducible apply Sound.foldl) | (with_reducible apply Sound.ite) | exact rfl | (with_reducible intro _ _ _) | (with_reducible intro _)

theorem noteBuf_sound {s0 : State} (s : State) (slot : Nat) (seq : Nat) (k : BufKind) (d : Option (List Byte)) (hs : Sound s0 s) : Sound s0 (noteBuf s slot seq k d) := by
  unfold noteBuf
  exact hs.upd rfl

theorem moveQueries_sound {s0 : State} (s : State) (a : Nat) (b : Nat) (hs : Sound s0 s) : Sound s0 (moveQueries s a b) := by
  unfold moveQueries
  exact hs.upd rfl

theorem moveSlot_sound {s0 : State} (s : State) (a : Nat) (b : Nat) (hs : Sound s0 s) : Sound s0 (moveSlot s a b) := by
  unfold moveSlot
  exact hs.upd rfl

theorem splitChannels_sound {s0 : State} (s : State) (v : Nat) (hs : Sound s0 s) : Sound s0 (splitChannels s v) := by
  unfold splitChannels
  repeat' first | assumption | (with_reducible apply setCtl_sound) | (with_reducible apply moveSlot_sound) | (with_reducible apply Sound.ite) | (with_reducible intro _)

theorem adminCtrl_sound {s0 : State} (s : State) (p : Port) (value : Nat) (hs : Sound s0 s) : Sound s0 (adminCtrl s p value) := by
  unfold adminCtrl
  repeat' first | assumption | (with_reducible apply setPort_sound) | (with_reducible apply abortPoint_sound) | (with_reducible apply Sound.ite) | (with_reducible intro _)

theorem takeReport_sound {s0 : State} (s : State) (slot : Nat) (hs : Sound s0 s) : Sound s0 (takeReport s slot) := by
  unfold takeReport
  dsimp only
  split
  · exact setChan_sound _ _ _ hs
  · exact retire_sound _ _ (withEntries_sound _ _ _ _ (retire_sound _ _ (withEntries_sound _ _ _ _
      (bump_sound _ _ _ (setChan_sound _ _ _ hs)))))

end Sys2Proof.Machine
end

