-- ==== Sys2Proof/Laws/SoundRuns.lean ====
section
/-!
SUPPORT. `Sound` for the operations on die programs, tablatures, translations and fencing.
-/
namespace Sys2Proof.Machine

theorem issueStream_sound {s0 : State} (s : State) (die : Nat) (k : Nat) (x : Nat) (hs : Sound s0 s) : Sound s0 (issueStream s die k x) := by
  unfold issueStream
  repeat' first | assumption | (with_reducible apply raise_sound) | (with_reducible apply bump_sound) | (with_reducible apply withDie_sound) | (with_reducible apply withStream_sound) | (with_reducible apply withStash_sound) | (with_reducible apply Sound.foldl) | (with_reducible apply Sound.ite) | exact rfl | (with_reducible intro _ _ _) | (with_reducible intro _)

theorem claimBytes_sound {s0 : State} (s : State) (die : Nat) (n : Nat) (reader : Nat) (k : Nat) (hs : Sound s0 s) : Sound s0 (claimBytes s die n reader k).1 := by
  unfold claimBytes
  exact hs.upd rfl

theorem addMacro_sound {s0 : State} (s : State) (die : Nat) (m : Macro) (hs : Sound s0 s) : Sound s0 (addMacro s die m) := by
  unfold addMacro
  exact hs.upd rfl

theorem issueCore_sound {s0 : State} (s : State) (die : Nat) (c : Nat) (x : Nat) (wide : Nat) (span : Option Nat) (rung : Nat) (cnt : List Nat) (hs : Sound s0 s) : Sound s0 (issueCore s die c x wide span rung cnt) := by
  unfold issueCore
  try dsimp only
  iterate 2
    repeat' first | assumption | (with_reducible apply claimBytes_sound) | (with_reducible apply addMacro_sound) | (with_reducible apply Sound.ite) | (with_reducible intro _)
    all_goals try with_reducible apply Sound.upd
    repeat' first | assumption | (with_reducible apply claimBytes_sound) | (with_reducible apply addMacro_sound) | (with_reducible apply Sound.ite) | (with_reducible intro _)
    all_goals try split
    all_goals try dsimp only

theorem issueRow_sound {s0 : State} (s : State) (die : Nat) (x : Nat) (cnt : List Nat) (hs : Sound s0 s) : Sound s0 (issueRow s die x cnt) := by
  unfold issueRow
  repeat' first | assumption | (with_reducible apply claimBytes_sound) | (with_reducible apply addMacro_sound) | (with_reducible apply Sound.ite) | (with_reducible intro _)

theorem issueLine_sound {s0 : State} (s : State) (r : Run) (die : Nat) (l : Nat) (hs : Sound s0 s) : Sound s0 (issueLine s r die l) := by
  unfold issueLine
  try dsimp only
  iterate 2
    repeat' first | assumption | (with_reducible apply bump_sound) | (with_reducible apply withDie_sound) | (with_reducible apply issueStream_sound) | (with_reducible apply issueCore_sound) | (with_reducible apply issueRow_sound) | (with_reducible apply Sound.foldl) | (with_reducible apply Sound.ite) | exact rfl | (with_reducible intro _ _ _) | (with_reducible intro _)
    all_goals try with_reducible apply Sound.upd
    repeat' first | assumption | (with_reducible apply bump_sound) | (with_reducible apply withDie_sound) | (with_reducible apply issueStream_sound) | (with_reducible apply issueCore_sound) | (with_reducible apply issueRow_sound) | (with_reducible apply Sound.foldl) | (with_reducible apply Sound.ite) | exact rfl | (with_reducible intro _ _ _) | (with_reducible intro _)
    all_goals try split
    all_goals try dsimp only

theorem noteReady_sound {s0 : State} (s : State) (die : Nat) (hs : Sound s0 s) : Sound s0 (noteReady s die) := by
  unfold noteReady
  cases runOfDie s die with
  | none => exact hs
  | some r => exact Sound.ite (fun _ => withDie_sound _ _ _ hs) (fun _ => hs)

theorem takeQueues_sound {s0 : State} (s : State) (die : Nat) (hs : Sound s0 s) : Sound s0 (takeQueues s die) := by
  unfold takeQueues
  exact noteReady_sound _ _ (drainQueues_sound _ _ hs)

theorem restoreTags_sound {s0 : State} (s : State) (die : Nat) (q : DieSeq) (hs : Sound s0 s) : Sound s0 (restoreTags s die q) := by
  unfold restoreTags
  try dsimp only
  iterate 2
    repeat' first | assumption | (with_reducible apply withStash_sound) | (with_reducible apply Sound.foldl) | (with_reducible apply Sound.ite) | exact rfl | (with_reducible intro _ _ _) | (with_reducible intro _)
    all_goals try with_reducible apply Sound.upd
    repeat' first | assumption | (with_reducible apply withStash_sound) | (with_reducible apply Sound.foldl) | (with_reducible apply Sound.ite) | exact rfl | (with_reducible intro _ _ _) | (with_reducible intro _)
    all_goals try split
    all_goals try dsimp only

theorem skipLayer_sound {s0 : State} (s : State) (r : Run) (layer : Nat) (hs : Sound s0 s) : Sound s0 (skipLayer s r layer) := by
  unfold skipLayer
  repeat' first | assumption | (with_reducible apply withStash_sound) | (with_reducible apply Sound.foldl) | (with_reducible apply Sound.ite) | (with_reducible intro _)

theorem releaseBarrier_sound {s0 : State} (s : State) (r : Run) (hs : Sound s0 s) : Sound s0 (releaseBarrier s r) := by
  unfold releaseBarrier
  try dsimp only
  iterate 3
    repeat' first | assumption | (with_reducible apply raise_sound) | (with_reducible apply bump_sound) | (with_reducible apply withRun_sound) | (with_reducible apply withTab_sound) | (with_reducible apply restoreTags_sound) | (with_reducible apply skipLayer_sound) | (with_reducible apply Sound.foldl) | (with_reducible apply Sound.ite) | (with_reducible intro _)
    all_goals try with_reducible apply Sound.upd
    repeat' first | assumption | (with_reducible apply raise_sound) | (with_reducible apply bump_sound) | (with_reducible apply withRun_sound) | (with_reducible apply withTab_sound) | (with_reducible apply restoreTags_sound) | (with_reducible apply skipLayer_sound) | (with_reducible apply Sound.foldl) | (with_reducible apply Sound.ite) | (with_reducible intro _)
    all_goals try split
    all_goals try dsimp only

theorem statEvents_sound {s0 : State} (s : State) (hs : Sound s0 s) : Sound s0 (statEvents s) := by
  unfold statEvents
  repeat' first | assumption | (with_reducible apply raise_sound) | (with_reducible apply Sound.foldl) | (with_reducible apply Sound.ite) | exact rfl | (with_reducible intro _ _ _) | (with_reducible intro _)

theorem dropRun_sound {s0 : State} (s : State) (slot : Nat) (seq : Nat) (hs : Sound s0 s) : Sound s0 (dropRun s slot seq) := by
  unfold dropRun
  repeat' first | assumption | (with_reducible apply withdraw_sound) | (with_reducible apply Sound.upd) | dsimp only

theorem dropQueryOf_sound {s0 : State} (s : State) (slot : Nat) (seq : Nat) (hs : Sound s0 s) : Sound s0 (dropQueryOf s slot seq) := by
  unfold dropQueryOf
  exact hs.upd rfl

theorem denseEnd_sound {s0 : State} (s : State) (slot : Nat) (seq : Nat) (c : Compl) (hs : Sound s0 s) : Sound s0 (denseEnd s slot seq c) := by
  unfold denseEnd
  repeat' first | assumption | (with_reducible apply bump_sound) | (with_reducible apply finish_sound) | (with_reducible apply dropQueryOf_sound)

theorem macroDone_sound {s0 : State} (s : State) (r : Run) (die : Nat) (c : Nat) (u : ExecUnit) (m : Macro) (ready : Bool) {t : State} (hs : Sound s0 s) (e : macroDone s r die c u m ready = some t) : Sound s0 t := by
  unfold macroDone at e
  split at e
  · dsimp only at e
    cases e
    have h := pullMacro_sound 256 s die c hs
    exact Sound.ite (fun _ => freeTags_sound _ _ _ (dropMacro_sound _ _ _ _ (countTagWait_sound _ _ h))) (fun _ => h)
  · cases e
    exact rowEngineDone_sound _ _ _ (countTagWait_sound _ _ hs)
  · split at e
    · cases e; exact selectDone_sound _ _ _ hs
    · cases e
  · split at e
    · split at e
      · next h => cases e; exact dropMacro_sound _ _ _ _ (epilogueDone_sound _ _ _ _ hs h)
      · cases e; exact invalidate_sound _ _ hs
    · cases e
  · split at e
    · split at e
      · next h => cases e; exact dropMacro_sound _ _ _ _ (productDone_sound _ _ _ _ hs h)
      · cases e; exact invalidate_sound _ _ hs
    · cases e

theorem giveQuery_sound {s0 : State} (s : State) (r : Run) (hs : Sound s0 s) : Sound s0 (giveQuery s r) := by
  unfold giveQuery
  exact hs.upd rfl

theorem badList_sound {s0 : State} (s : State) (die : Nat) (n : Nat) (block : Nat) (hs : Sound s0 s) : Sound s0 (badList s die n block) := by
  unfold badList
  repeat' first | assumption | (with_reducible apply raise_sound) | (with_reducible apply withStream_sound)

theorem takeDescs_sound {s0 : State} (s : State) (die : Nat) (n : Nat) (e : StreamEnt) (xs : List Nat) (hs : Sound s0 s) : Sound s0 (takeDescs s die n e xs) := by
  unfold takeDescs
  repeat' first | assumption | (with_reducible apply withStream_sound) | (with_reducible apply badList_sound) | (with_reducible apply Sound.ite) | (with_reducible intro _)

theorem catchUp_sound {s0 : State} (s : State) (die : Nat) (hs : Sound s0 s) : Sound s0 (catchUp s die) := by
  unfold catchUp
  exact takeQueues_sound _ _ (issueDie_sound _ _ hs)

theorem placeBlock_sound {s0 : State} (s : State) (die : Nat) (n : Nat) (c : Credit) (b : Block) (hs : Sound s0 s) : Sound s0 (placeBlock s die n c b) := by
  unfold placeBlock
  exact pullAll_sound _ _ (releaseTaken_sound _ _ _ (progressed_sound _ _ (noteShared_sound _ _ (bump_sound _ _ _ (withStream_sound _ _ _ _ hs)))))

theorem faultBlock_sound {s0 : State} (s : State) (die : Nat) (n : Nat) (no : Nat) (hs : Sound s0 s) : Sound s0 (faultBlock s die n no) := by
  unfold faultBlock
  exact hs.upd rfl

theorem streamPart_sound {s0 : State} (s : State) (die : Nat) (n : Nat) (hs : Sound s0 s) : Sound s0 (streamPart s die n) := by
  unfold streamPart
  repeat' first | assumption | (with_reducible apply retireReqs_sound)

theorem blockMoved_sound {s0 : State} (s : State) (die : Nat) (n : Nat) (hs : Sound s0 s) : Sound s0 (blockMoved s die n) := by
  unfold blockMoved
  repeat' first | assumption | (with_reducible apply endReqs_sound) | (with_reducible apply withStream_sound)

theorem arrivedBlock_sound {s0 : State} (s : State) (r : Run) (die : Nat) (n : Nat) (e : StreamEnt) (c : Credit) (len : Nat) (sh : Bool) (data : List Byte) (bad : List Nat) (hs : Sound s0 s) : Sound s0 (arrivedBlock s r die n e c len sh data bad) := by
  unfold arrivedBlock
  dsimp only
  have f : Sound s0 (if isBad (streamSt (dieSeq s die) n) (streamSt (dieSeq s die) n).fetchNo then freshFill s else (s, 0)).1 := by
    split
    · exact freshFill_sound _ hs
    · exact hs
  exact placeBlock_sound _ _ _ _ _ (blockMoved_sound _ _ _ (Sound.ite (fun _ => bump_sound _ _ _ f) (fun _ => f)))

theorem writeBlock_sound {s0 : State} (s : State) (r : Run) (die : Nat) (n : Nat) (e : StreamEnt) (c : Credit) (b : Block) (len : Nat) (hs : Sound s0 s) : Sound s0 (writeBlock s r die n e c b len) := by
  unfold writeBlock
  try dsimp only
  iterate 2
    repeat' first | assumption | (with_reducible apply hostWrite_sound) | (with_reducible apply withRun_sound) | (with_reducible apply withTab_sound) | (with_reducible apply withStash_sound) | (with_reducible apply Sound.foldl) | (with_reducible apply Sound.ite) | exact rfl | (with_reducible intro _ _ _) | (with_reducible intro _)
    all_goals try with_reducible apply Sound.upd
    repeat' first | assumption | (with_reducible apply hostWrite_sound) | (with_reducible apply withRun_sound) | (with_reducible apply withTab_sound) | (with_reducible apply withStash_sound) | (with_reducible apply Sound.foldl) | (with_reducible apply Sound.ite) | exact rfl | (with_reducible intro _ _ _) | (with_reducible intro _)
    all_goals try split
    all_goals try dsimp only

theorem releaseWritten_sound {s0 : State} (s : State) (die : Nat) (n : Nat) (e : StreamEnt) (c : Credit) (b : Block) (hs : Sound s0 s) : Sound s0 (releaseWritten s die n e c b) := by
  unfold releaseWritten
  repeat' first | assumption | (with_reducible apply withStream_sound) | (with_reducible apply withStash_sound) | (with_reducible apply Sound.ite) | (with_reducible intro _)

theorem writtenBlock_sound {s0 : State} (s1 : State) (r : Run) (die : Nat) (n : Nat) (e : StreamEnt) (c : Credit) (b : Block) (len : Nat) (present : Bool) (hs : Sound s0 s1) : Sound s0 (writtenBlock s1 r die n e c b len present) := by
  unfold writtenBlock
  dsimp only
  refine pullAll_sound _ _ (progressed_sound _ _ (bump_sound _ _ _ (blockMoved_sound _ _ _ (releaseWritten_sound _ _ _ _ _ _ ?_))))
  repeat' first | assumption | (with_reducible apply faultBlock_sound) | (with_reducible apply withRunOf_sound) | (with_reducible apply writeBlock_sound) | (with_reducible apply bump_sound) | (with_reducible apply Sound.ite) | (with_reducible intro _)

theorem stallAbort_sound {s0 : State} (s : State) (r : Run) (die : Nat) (hs : Sound s0 s) : Sound s0 (stallAbort s r die) := by
  unfold stallAbort
  repeat' first | assumption | (with_reducible apply raise_sound) | (with_reducible apply bump_sound) | (with_reducible apply abortRun_sound)

theorem loadEnd_sound {s0 : State} (s : State) (slot : Nat) (seq : Nat) (w : CmdWord) (img : List Byte) (hs : Sound s0 s) : Sound s0 (loadEnd s slot seq w img) := by
  unfold loadEnd
  try dsimp only
  iterate 2
    repeat' first | assumption | (with_reducible apply finish_sound) | (with_reducible apply finishWith_sound) | (with_reducible apply Sound.ite) | (with_reducible intro _)
    all_goals try with_reducible apply Sound.upd
    repeat' first | assumption | (with_reducible apply finish_sound) | (with_reducible apply finishWith_sound) | (with_reducible apply Sound.ite) | (with_reducible intro _)
    all_goals try split
    all_goals try dsimp only

theorem enqueue_sound {s0 : State} (s : State) (slot : Nat) (seq : Nat) (hs : Sound s0 s) : Sound s0 (enqueue s slot seq) := by
  unfold enqueue
  exact hs.upd rfl

theorem bufferDone_sound {s0 : State} (s : State) (slot : Nat) (seq : Nat) (k : BufKind) (d : Option (List Byte)) (hs : Sound s0 s) : Sound s0 (bufferDone s slot seq k d) := by
  unfold bufferDone
  try dsimp only
  iterate 4
    repeat' first | assumption | (with_reducible apply finishWith_sound) | (with_reducible apply createIndexEnd_sound) | (with_reducible apply retuneStartEnd_sound) | (with_reducible apply noteBuf_sound) | (with_reducible apply loadEnd_sound)
    all_goals try with_reducible apply Sound.upd
    repeat' first | assumption | (with_reducible apply finishWith_sound) | (with_reducible apply createIndexEnd_sound) | (with_reducible apply retuneStartEnd_sound) | (with_reducible apply noteBuf_sound) | (with_reducible apply loadEnd_sound)
    all_goals try split
    all_goals try dsimp only

theorem readDone_sound {s0 : State} (s : State) (slot : Nat) (seq : Nat) (k : BufKind) (d : Option (List Byte)) (hs : Sound s0 s) : Sound s0 (readDone s slot seq k d) := by
  unfold readDone
  try dsimp only
  iterate 4
    repeat' first | assumption | (with_reducible apply failQuery_sound) | (with_reducible apply takeVector_sound) | (with_reducible apply bufferDone_sound) | (with_reducible apply Sound.ite) | (with_reducible intro _)
    all_goals try with_reducible apply Sound.upd
    repeat' first | assumption | (with_reducible apply failQuery_sound) | (with_reducible apply takeVector_sound) | (with_reducible apply bufferDone_sound) | (with_reducible apply Sound.ite) | (with_reducible intro _)
    all_goals try split
    all_goals try dsimp only

theorem failBurst_sound {s0 : State} (s : State) (die : Nat) (n : Nat) (hs : Sound s0 s) : Sound s0 (failBurst s die n) := by
  unfold failBurst
  repeat' first | assumption | (with_reducible apply withDie_sound) | (with_reducible apply settle_sound) | (with_reducible apply badList_sound)

theorem failAccess_sound {s0 : State} (s : State) (slot : Nat) (seq : Nat) (acc : Access) (paged : Bool) (hs : Sound s0 s) : Sound s0 (failAccess s slot seq acc paged) := by
  unfold failAccess
  try dsimp only
  iterate 3
    repeat' first | assumption | (with_reducible apply withCmd_sound) | (with_reducible apply chanError_sound) | (with_reducible apply faultBlock_sound) | (with_reducible apply readDone_sound) | (with_reducible apply failBurst_sound) | (with_reducible apply Sound.foldl) | (with_reducible apply Sound.ite) | exact rfl | (with_reducible intro _ _ _) | (with_reducible intro _)
    all_goals try with_reducible apply Sound.upd
    repeat' first | assumption | (with_reducible apply withCmd_sound) | (with_reducible apply chanError_sound) | (with_reducible apply faultBlock_sound) | (with_reducible apply readDone_sound) | (with_reducible apply failBurst_sound) | (with_reducible apply Sound.foldl) | (with_reducible apply Sound.ite) | exact rfl | (with_reducible intro _ _ _) | (with_reducible intro _)
    all_goals try split
    all_goals try dsimp only

theorem accessPresent_sound {s0 : State} (s : State) (slot : Nat) (seq : Nat) (acc : Access) (hs : Sound s0 s) : Sound s0 (accessPresent s slot seq acc) := by
  unfold accessPresent
  repeat' first | assumption | (with_reducible apply withCmd_sound) | (with_reducible apply Sound.ite) | (with_reducible intro _)

theorem entriesPresent_sound {s0 : State} (s : State) (slot : Nat) (seq : Nat) (n : Nat) (hs : Sound s0 s) : Sound s0 (entriesPresent s slot seq n) := by
  unfold entriesPresent
  exact hs.upd rfl

theorem accSettled_sound {s0 : State} (s : State) (slot : Nat) (seq : Nat) (acc : Access) (hs : Sound s0 s) : Sound s0 (accSettled s slot seq acc) := by
  unfold accSettled
  split
  · exact Sound.ite (fun _ => drainQueues_sound _ _ hs) (fun _ => hs)
  · exact Sound.ite (fun _ => drainQueues_sound _ _ hs) (fun _ => hs)
  · exact hs

theorem pageEnds_sound {s0 : State} (s : State) (r : PageReq) (hs : Sound s0 s) : Sound s0 (pageEnds s r) := by
  unfold pageEnds
  repeat' first | assumption | (with_reducible apply issuePages_sound) | (with_reducible apply withdraw_sound) | (with_reducible apply accessPresent_sound) | (with_reducible apply entriesPresent_sound) | (with_reducible apply Sound.foldl) | (with_reducible apply Sound.ite) | exact rfl | (with_reducible intro _ _ _) | (with_reducible intro _) | (with_reducible apply Sound.upd)

theorem pageFails_sound {s0 : State} (s : State) (r : PageReq) (hs : Sound s0 s) : Sound s0 (pageFails s r) := by
  unfold pageFails
  repeat' first | assumption | (with_reducible apply withdraw_sound) | (with_reducible apply failAccess_sound)

theorem withCores_sound {s0 : State} (s : State) (die : Nat) (f : DieCores → DieCores) (hs : Sound s0 s) : Sound s0 (withCores s die f) := by
  unfold withCores
  exact hs.upd rfl

theorem restartWalks_sound {s0 : State} (s : State) (core : Nat) (hs : Sound s0 s) : Sound s0 (restartWalks s core) := by
  unfold restartWalks
  repeat' first | assumption | (with_reducible apply restartWalk_sound) | (with_reducible apply Sound.foldl) | (with_reducible apply Sound.ite) | (with_reducible intro _)

theorem fenceRuns_sound {s0 : State} (s : State) (die : Nat) (c : Nat) (hs : Sound s0 s) : Sound s0 (fenceRuns s die c) := by
  unfold fenceRuns
  try dsimp only
  iterate 2
    repeat' first | assumption | (with_reducible apply abortRun_sound) | (with_reducible apply Sound.foldl) | (with_reducible apply Sound.ite) | exact rfl | (with_reducible intro _ _ _) | (with_reducible intro _)
    all_goals try with_reducible apply Sound.upd
    repeat' first | assumption | (with_reducible apply abortRun_sound) | (with_reducible apply Sound.foldl) | (with_reducible apply Sound.ite) | exact rfl | (with_reducible intro _ _ _) | (with_reducible intro _)
    all_goals try split
    all_goals try dsimp only

theorem beginReads_sound {s0 : State} (s : State) (core : Nat) (hs : Sound s0 s) : Sound s0 (beginReads s core) := by
  unfold beginReads
  refine Sound.foldl _ (fun q y h => Sound.ite (fun _ => h) (fun _ => Sound.ite (fun _ => beginRerank_sound _ _ h) (fun _ => ?_))) hs
  cases indexAt y q.index with
  | none => exact h
  | some x => exact beginReqs_sound _ _ _ _ h

theorem fenceCoreOp_sound {s0 : State} (s : State) (core : Nat) (why : Nat) (hs : Sound s0 s) : Sound s0 (fenceCoreOp s core why) := by
  unfold fenceCoreOp
  dsimp only
  cases physOf s core with
  | none => exact hs
  | some p =>
    dsimp only
    have cores : ∀ f, Sound s0 (withCores s (core / 64) f) := fun f => withCores_sound _ _ _ hs
    have load : ∀ (x : State) (c : Prop) [Decidable c] g, Sound s0 x → Sound s0 (if c then withCores x (core / 64) g else x) :=
      fun x c _ g h => Sound.ite (fun _ => withCores_sound _ _ _ h) (fun _ => h)
    have tell : ∀ (x : State) (o : Option Nat), Sound s0 x → Sound s0 (match o with
        | some q => raise x 0x0110 1 1 core (args := [p, why, q])
        | none => raise x 0x0111 2 2 (core / 64) (args := [p, core])) := by
      intro x o h
      cases o
      · exact raise_sound h _ _ _ _ _ _ _
      · exact raise_sound h _ _ _ _ _ _ _
    have told := fun f g => tell _ (freeSpare (dieCores s (core / 64))) (bump_sound { (if (freeSpare (dieCores s (core / 64))).isSome = true then
        withCores (withCores s (core / 64) f) (core / 64) (beginReload (withCores s (core / 64) f)) else withCores s (core / 64) f) with
        integ := g } 0x06 1 ((load _ _ _ (cores f)).upd rfl))
    have tail : ∀ x y, Sound s0 y → Sound s0 (dropCoreReqs (fenceRuns (retryHeld x
        (loseUnplaced (dropLuthier (restartWalks y core) (fun w => w.core == some core)))) (core / 64) (core % 64)) core) :=
      fun x y h => dropCoreReqs_sound _ _ (fenceRuns_sound _ _ _ (retryHeld_sound _ _ (loseUnplaced_sound _ (dropLuthier_sound _ _
        (restartWalks_sound _ _ h)))))
    exact Sound.ite (fun _ => beginReads_sound _ _ (setCore_sound _ _ _ _ (tail _ _ (told _ _)))) (fun _ => tail _ _ (told _ _))

theorem addScore_sound {s0 : State} (s : State) (core : Nat) (n : Nat) (hs : Sound s0 s) : Sound s0 (addScore s core n) := by
  unfold addScore
  try dsimp only
  iterate 2
    repeat' first | assumption | (with_reducible apply withCores_sound) | (with_reducible apply fenceCoreOp_sound) | (with_reducible apply Sound.ite) | (with_reducible intro _)
    all_goals try with_reducible apply Sound.upd
    repeat' first | assumption | (with_reducible apply withCores_sound) | (with_reducible apply fenceCoreOp_sound) | (with_reducible apply Sound.ite) | (with_reducible intro _)
    all_goals try split
    all_goals try dsimp only

theorem poisonedRead_sound {s0 : State} (s : State) (slot : Nat) (seq : Nat) (k : BufKind) (hs : Sound s0 s) : Sound s0 (poisonedRead s slot seq k) := by
  unfold poisonedRead
  try dsimp only
  iterate 3
    repeat' first | assumption | (with_reducible apply finish_sound) | (with_reducible apply freshFill_sound) | (with_reducible apply markCause_sound) | (with_reducible apply takeVector_sound) | (with_reducible apply denseEnd_sound) | (with_reducible apply Sound.ite) | (with_reducible intro _)
    all_goals try with_reducible apply Sound.upd
    repeat' first | assumption | (with_reducible apply finish_sound) | (with_reducible apply freshFill_sound) | (with_reducible apply markCause_sound) | (with_reducible apply takeVector_sound) | (with_reducible apply denseEnd_sound) | (with_reducible apply Sound.ite) | (with_reducible intro _)
    all_goals try split
    all_goals try dsimp only

theorem markArea_sound {s0 : State} (s : State) (tab : Nat) (die : Nat) (chunk : Nat) (act : Bool) (hs : Sound s0 s) : Sound s0 (markArea s tab die chunk act) := by
  unfold markArea
  exact hs.upd rfl

theorem noteTimeout_sound {s0 : State} (s : State) (kind : Nat) (unit : Nat) (hs : Sound s0 s) : Sound s0 (noteTimeout s kind unit) := by
  unfold noteTimeout
  repeat' first | assumption | (with_reducible apply raise_sound) | (with_reducible apply bump_sound)

end Sys2Proof.Machine
end

