-- ==== Sys2Proof/Laws/SoundPower.lean ====
section
/-!
SUPPORT. `Sound` for the operations on saved sets, power, start-up and security.
-/
namespace Sys2Proof.Machine

theorem loadOne_sound {s0 : State} (vals : List (Nat × Nat)) (s : State) (p : Nat × Nat) (hs : Sound s0 s) : Sound s0 (loadOne vals s p) := by
  unfold loadOne
  try dsimp only
  iterate 2
    repeat' first | assumption | (with_reducible apply raise_sound) | (with_reducible apply Sound.ite) | (with_reducible intro _)
    all_goals try with_reducible apply Sound.upd
    repeat' first | assumption | (with_reducible apply raise_sound) | (with_reducible apply Sound.ite) | (with_reducible intro _)
    all_goals try split
    all_goals try dsimp only

theorem loadSaved_sound {s0 : State} (s : State) (hs : Sound s0 s) : Sound s0 (loadSaved s) := by
  unfold loadSaved
  repeat' first | assumption | (with_reducible apply raise_sound) | (with_reducible apply loadOne_sound) | (with_reducible apply Sound.foldl) | (with_reducible apply Sound.ite) | exact rfl | (with_reducible intro _ _ _) | (with_reducible intro _) | (with_reducible apply Sound.upd)

theorem syncTime_sound {s0 : State} (s : State) (hs : Sound s0 s) : Sound s0 (syncTime s) := by
  unfold syncTime
  repeat' first | assumption | (with_reducible apply Sound.ite) | (with_reducible intro _) | (with_reducible apply Sound.upd) | dsimp only

theorem setPwr_sound {s0 : State} (s : State) (st : PwrState) (hs : Sound s0 s) : Sound s0 (setPwr s st) := by
  unfold setPwr
  repeat' first | assumption | (with_reducible apply raise_sound) | (with_reducible apply Sound.ite) | (with_reducible intro _) | (with_reducible apply Sound.upd) | dsimp only

theorem loseRing_sound {s0 : State} (s : State) (hs : Sound s0 s) : Sound s0 (loseRing s) := by
  unfold loseRing
  refine hs.trans ⟨rfl, id, fun l => ?_, Nat.le_refl _, Nat.le_refl _, id, id, id, fun h => .inr ⟨h, rfl, rfl⟩⟩
  obtain ⟨p, n, e, _, u, d, f, g⟩ := l
  refine ⟨?_, ?_, e, by simp, by simp, fun _ => rfl, f, g⟩
  · exact p.sublist (by simp)
  · exact fun x m => n x (List.mem_append_left _ (by simpa using m))

theorem readyRing_sound {s0 : State} (s : State) (hs : Sound s0 s) : Sound s0 (readyRing s) := by
  unfold readyRing
  refine hs.trans ⟨rfl, id, fun l => ?_, Nat.le_refl _, Nat.le_refl _, id, id, id, fun h => .inr ⟨h, rfl, rfl⟩⟩
  obtain ⟨p, n, e, r, u, d, f, g⟩ := l
  refine ⟨by simpa using p, by simpa using n, by simp, ?_, fun _ => rfl, by simp, f, g⟩
  cases h : s.power.farUp
  · simp [d h]; omega
  · simpa [u h] using r

theorem powerDown_sound {s0 : State} (s : State) (hs : Sound s0 s) : Sound s0 (powerDown s) := by
  unfold powerDown
  dsimp only
  have a : Sound s0 (freshFill s).1 := freshFill_sound _ hs
  split
  · apply raise_sound
    exact a.near rfl rfl rfl rfl rfl (Nat.le_refl _) (Nat.le_refl _) (by simp)
  · exact a.near rfl rfl rfl rfl rfl (Nat.le_refl _) (Nat.le_refl _) (by simp)

theorem mainStop_sound {s0 : State} (s : State) (cause : Nat) (st : PwrState) (hs : Sound s0 s) : Sound s0 (mainStop s cause st) := by
  unfold mainStop
  repeat' first | assumption | (with_reducible apply setPwr_sound) | (with_reducible apply loseRing_sound) | (with_reducible apply powerDown_sound) | (with_reducible apply Sound.upd) | dsimp only

theorem startMain_sound {s0 : State} (s : State) (hs : Sound s0 s) : Sound s0 (startMain s) := by
  unfold startMain
  refine setPwr_sound _ _ (syncTime_sound _ (loadSaved_sound _ ?_))
  exact hs.trans ⟨rfl, id, id, Nat.le_refl _, Nat.le_refl _, id, id, id, fun h => .inr ⟨h, rfl, rfl⟩⟩

theorem warmRestart_sound {s0 : State} (s : State) (cause : Nat) (hs : Sound s0 s) : Sound s0 (warmRestart s cause) := by
  unfold warmRestart
  dsimp only
  apply raise_sound
  exact (powerDown_sound _ hs).trans ⟨rfl, id, LogOk.restart, Nat.le_refl _, Nat.le_refl _, id, id, id, fun h => .inr ⟨h, rfl, rfl⟩⟩

theorem resetSlot_sound {s0 : State} (s : State) (slot : Nat) (hs : Sound s0 s) : Sound s0 (resetSlot s slot) := by
  unfold resetSlot
  repeat' first | assumption | (with_reducible apply setChan_sound) | (with_reducible apply abortPoint_sound) | (with_reducible apply Sound.ite) | (with_reducible intro _)

theorem portResetOp_sound {s0 : State} (s : State) (p : Port) (cause : Nat) (held : Bool) (hs : Sound s0 s) : Sound s0 (portResetOp s p cause held) := by
  unfold portResetOp
  repeat' first | assumption | (with_reducible apply raise_sound) | (with_reducible apply setPort_sound) | (with_reducible apply withdraw_sound) | (with_reducible apply resetSlot_sound) | (with_reducible apply Sound.foldl) | (with_reducible apply Sound.ite) | exact rfl | (with_reducible intro _ _ _) | (with_reducible intro _)

theorem resetPorts_sound {s0 : State} (s : State) (cause : Nat) (held : Bool) (hs : Sound s0 s) : Sound s0 (resetPorts s cause held) := by
  unfold resetPorts
  repeat' first | assumption | (with_reducible apply portResetOp_sound) | (with_reducible apply Sound.ite) | (with_reducible intro _)

theorem refreshReady_sound {s0 : State} (s : State) (hs : Sound s0 s) : Sound s0 (refreshReady s) := by
  unfold refreshReady
  exact hs.upd rfl

theorem extend_sound {s0 : State} (s : State) (i : Nat) (d : List Byte) (hs : Sound s0 s) : Sound s0 (extend s i d) := by
  unfold extend; exact hs.secure (Nat.le_refl _) (Nat.le_refl _) id

theorem unpowered_sound {s0 : State} (s : State) (hs : Sound s0 s) : Sound s0 (unpowered s) := by
  unfold unpowered
  refine hs.trans ⟨rfl, fun _ => ⟨fun _ => ⟨rfl, rfl⟩, by simp⟩, LogOk.restart, Nat.le_refl _, Nat.le_refl _,
    by simp, fun _ => rfl, fun _ => rfl, fun _ => .inl rfl⟩

theorem bootImage_sound {s0 : State} (s : State) (n : Nat) (hs : Sound s0 s) : Sound s0 (bootImage s n) := by
  unfold bootImage
  dsimp only
  have a : Sound s0 { s with sec := { s.sec with run := n, secVersion := max s.sec.secVersion (imageOf s n).sec } } :=
    hs.secure (Nat.le_max_left _ _) (Nat.le_refl _) id
  have b : ∀ x y d e, Sound s0 x → Sound s0 y →
      Sound s0 (syncTime (extend (loadSaved (extend (if n = s.sec.pref then x else y) 1 d)) 3 e)) :=
    fun _ _ _ _ hx hy => syncTime_sound _ (extend_sound _ _ _ (loadSaved_sound _ (extend_sound _ _ _ (Sound.ite (fun _ => hx) (fun _ => hy)))))
  exact Sound.ite (fun _ => startMain_sound _ ((b _ _ _ _ a (raise_sound a _ _ _ _ _ _ _)).upd rfl))
    (fun _ => (b _ _ _ _ a (raise_sound a _ _ _ _ _ _ _)).upd rfl)

theorem bootRecovery_sound {s0 : State} (s : State) (hs : Sound s0 s) : Sound s0 (bootRecovery s) := by
  unfold bootRecovery
  exact (raise_sound hs _ _ _ _ _ _ _).near rfl rfl rfl rfl rfl (Nat.le_refl _) (Nat.le_refl _) id

theorem endTrip_sound {s0 : State} (s : State) (hs : Sound s0 s) : Sound s0 (endTrip s) := by
  unfold endTrip
  repeat' first | assumption | (with_reducible apply setPwr_sound) | (with_reducible apply Sound.ite) | (with_reducible intro _) | (with_reducible apply Sound.upd) | dsimp only

theorem logTrip_sound {s0 : State} (s : State) (sensor : Nat) (hs : Sound s0 s) : Sound s0 (logTrip s sensor) := by
  unfold logTrip
  repeat' first | assumption | (with_reducible apply raise_sound)

theorem thermalTrip_sound {s0 : State} (s : State) (sensor : Nat) (hs : Sound s0 s) : Sound s0 (thermalTrip s sensor) := by
  unfold thermalTrip
  repeat' first | assumption | (with_reducible apply loseRing_sound) | (with_reducible apply mainStop_sound) | (with_reducible apply logTrip_sound) | (with_reducible apply Sound.upd) | dsimp only

theorem noteStop_sound {s0 : State} (s : State) (hs : Sound s0 s) : Sound s0 (noteStop s) := by
  unfold noteStop
  exact hs.upd rfl

theorem tripFirst_sound {s0 : State} (s : State) (hs : Sound s0 s) : Sound s0 (tripFirst s) := by
  unfold tripFirst
  try dsimp only
  iterate 2
    repeat' first | assumption | (with_reducible apply thermalTrip_sound) | (with_reducible apply Sound.foldl) | (with_reducible apply Sound.ite) | exact rfl | (with_reducible intro _ _ _) | (with_reducible intro _)
    all_goals try with_reducible apply Sound.upd
    repeat' first | assumption | (with_reducible apply thermalTrip_sound) | (with_reducible apply Sound.foldl) | (with_reducible apply Sound.ite) | exact rfl | (with_reducible intro _ _ _) | (with_reducible intro _)
    all_goals try split
    all_goals try dsimp only

theorem undoEntry_sound {s0 : State} (s : State) (hs : Sound s0 s) : Sound s0 (undoEntry s) := by
  unfold undoEntry
  try dsimp only
  iterate 2
    repeat' first | assumption | (with_reducible apply Sound.ite) | (with_reducible intro _)
    all_goals try with_reducible apply Sound.upd
    repeat' first | assumption | (with_reducible apply Sound.ite) | (with_reducible intro _)
    all_goals try split
    all_goals try dsimp only

theorem measureDies_sound {s0 : State} (s : State) (hs : Sound s0 s) : Sound s0 (measureDies s) := by
  unfold measureDies; exact Sound.foldl _ (fun _ _ h => extend_sound _ _ _ h) hs

theorem selfTest_sound {s0 : State} (s : State) (failed : List Nat) (hs : Sound s0 s) : Sound s0 (selfTest s failed) := by
  unfold selfTest
  repeat' first | assumption | (with_reducible apply extend_sound) | (with_reducible apply Sound.upd) | dsimp only

theorem trainPorts_sound {s0 : State} (s : State) (hs : Sound s0 s) : Sound s0 (trainPorts s) := by
  unfold trainPorts; exact Sound.foldl _ (fun _ _ h => Sound.ite (fun _ => setFabPort_sound _ _ _ h) (fun _ => h)) hs

theorem enterA0_sound {s0 : State} (s : State) (hs : Sound s0 s) : Sound s0 (enterA0 s) := by
  unfold enterA0; exact trainPorts_sound _ (setPwr_sound _ _ (hs.upd rfl))

theorem beginEntry_sound {s0 : State} (s : State) (slot : Nat) (seq : Nat) (t : PwrState) (hs : Sound s0 s) : Sound s0 (beginEntry s slot seq t) := by
  unfold beginEntry
  exact hs.upd rfl

theorem beginReturn_sound {s0 : State} (s : State) (slot : Nat) (seq : Nat) (hs : Sound s0 s) : Sound s0 (beginReturn s slot seq) := by
  unfold beginReturn
  exact hs.upd rfl

theorem goQuiet_sound {s0 : State} (s : State) (hs : Sound s0 s) : Sound s0 (goQuiet s) := by
  unfold goQuiet
  exact hs.upd rfl

theorem darken_sound {s0 : State} (s : State) (hs : Sound s0 s) : Sound s0 (darken s) := by
  unfold darken
  exact hs.upd rfl

theorem noteReached_sound {s0 : State} (s : State) (hs : Sound s0 s) : Sound s0 (noteReached s) := by
  unfold noteReached
  exact hs.upd rfl

theorem enterOff_sound {s0 : State} (s t : State) (h : Sound s0 t) : Sound s0 (enterOff s t) := by
  unfold enterOff
  exact (mainStop_sound _ _ _ h).upd rfl

theorem engage_sound {s0 : State} (s : State) (hs : Sound s0 s) : Sound s0 (engage s) := by
  unfold engage
  repeat' first | assumption | (with_reducible apply raise_sound) | (with_reducible apply setPwr_sound) | (with_reducible apply Sound.ite) | (with_reducible intro _) | (with_reducible apply Sound.upd) | dsimp only

theorem setDuty_sound {s0 : State} (s : State) (dies : List Nat) (f : Nat → Nat) (hs : Sound s0 s) : Sound s0 (setDuty s dies f) := by
  unfold setDuty
  exact hs.upd rfl

theorem setMeter_sound {s0 : State} (s : State) (m : Nat) (hs : Sound s0 s) : Sound s0 (setMeter s m) := by
  unfold setMeter
  exact hs.upd rfl

theorem capUnmet_sound {s0 : State} (s : State) (hs : Sound s0 s) : Sound s0 (capUnmet s) := by
  unfold capUnmet
  repeat' first | assumption | (with_reducible apply raise_sound) | (with_reducible apply Sound.ite) | (with_reducible intro _) | (with_reducible apply Sound.upd) | dsimp only

theorem lowerDuty_sound {s0 : State} (s : State) (hs : Sound s0 s) : Sound s0 (lowerDuty s) := by
  unfold lowerDuty
  exact hs.upd rfl

theorem lowerMeter_sound {s0 : State} (s : State) (hs : Sound s0 s) : Sound s0 (lowerMeter s) := by
  unfold lowerMeter
  exact hs.upd rfl

theorem lowerOne_sound {s0 : State} (s : State) (l : List Draw) (hs : Sound s0 s) : Sound s0 (lowerOne s l) := by
  unfold lowerOne
  repeat' first | assumption | (with_reducible apply lowerDuty_sound) | (with_reducible apply lowerMeter_sound) | (with_reducible apply Sound.ite) | (with_reducible intro _)

theorem backstop_sound {s0 : State} (s : State) (hs : Sound s0 s) : Sound s0 (backstop s) := by
  unfold backstop
  exact hs.upd rfl

theorem raiseOne_sound {s0 : State} (s : State) (hs : Sound s0 s) : Sound s0 (raiseOne s) := by
  unfold raiseOne
  repeat' first | assumption | (with_reducible apply setDuty_sound) | (with_reducible apply setMeter_sound) | (with_reducible apply Sound.ite) | (with_reducible intro _)

theorem noteCool_sound {s0 : State} (s : State) (hs : Sound s0 s) : Sound s0 (noteCool s) := by
  unfold noteCool
  exact hs.upd rfl

theorem chooseSlot_sound {s0 : State} (s : State) (hs : Sound s0 s) : Sound s0 (chooseSlot s) := by
  unfold chooseSlot
  exact Sound.ite (fun _ => hs.near rfl rfl rfl rfl rfl (Nat.le_refl _) (Nat.le_refl _) id) (fun _ => hs)

theorem setSlot_sound {s0 : State} (s : State) (n : Nat) (f : FwImage) (hs : Sound s0 s) : Sound s0 (setSlot s n f) := by
  unfold setSlot
  exact Sound.ite (fun _ => hs.secure (Nat.le_refl _) (Nat.le_refl _) id) (fun _ => hs.secure (Nat.le_refl _) (Nat.le_refl _) id)

theorem stageSegment_sound {s0 : State} (s : State) (data : Nat) (hs : Sound s0 s) : Sound s0 (stageSegment s data) := by
  unfold stageSegment
  exact (setSlot_sound _ _ _ (chooseSlot_sound _ hs)).secure (Nat.le_refl _) (Nat.le_refl _) id

theorem commitImage_sound {s0 : State} (s : State) (f : FwImage) (hs : Sound s0 s) : Sound s0 (commitImage s f) := by
  unfold commitImage
  dsimp only
  apply raise_sound
  exact (setSlot_sound _ _ _ hs).near rfl rfl rfl rfl rfl (Nat.le_refl _) (Nat.le_refl _) id

theorem fabricOff_sound {s0 : State} (s : State) (hs : Sound s0 s) : Sound s0 (fabricOff s) := by
  unfold fabricOff
  exact Sound.foldl _ (fun _ _ h => Sound.ite (fun _ => portDown_sound _ _ _ _ h) (fun _ => setFabPort_sound _ _ _ h)) hs

theorem beginErasure_sound {s0 : State} (s : State) (hs : Sound s0 s) : Sound s0 (beginErasure s) := by
  unfold beginErasure
  have h := fabricOff_sound _ (resetPorts_sound _ 0 true hs)
  revert h
  generalize fabricOff (resetPorts s 0 true) = y
  intro h
  exact (Sound.upd h rfl).secure (Nat.le_refl _) (Nat.le_refl _) (by simp)

theorem applyToken_sound {s0 : State} (s : State) (t : Nat) (signed : Bool) (hs : Sound s0 s) : Sound s0 (applyToken s t signed).1 := by
  unfold applyToken
  split
  · exact beginErasure_sound _ (hs.secure (Nat.le_refl _) (Nat.le_refl _) id)
  · dsimp only
    refine raise_sound ?_ _ _ _ _ _ _ _
    split
    · exact (hs.secure (Nat.le_refl _) (Nat.le_refl _) id).secure (Nat.le_refl _) (Nat.le_refl _) id
    · exact hs.secure (Nat.le_refl _) (Nat.le_refl _) id

theorem erase_sound {s0 : State} (s : State) (hs : Sound s0 s) : Sound s0 (erase s) := by
  unfold erase
  refine hs.trans ⟨rfl, id, fun l => ?_, Nat.le_refl _, Nat.le_refl _, id, id, id, fun h => .inr ⟨h, rfl, rfl⟩⟩
  obtain ⟨p, n, e, r, u, d, f, g⟩ := l
  refine ⟨p.sublist (by simp), fun x m => n x (List.mem_append_left _ (by simpa using m)), e, by simp, u, fun _ => rfl, f, g⟩

theorem parityHit_sound {s0 : State} (s : State) (addr : Nat) (place : ParityPlace) (hs : Sound s0 s) :
    Sound s0 (parityHit s addr place) := by
  unfold parityHit
  split
  · exact setCore_sound _ _ _ _ hs
  · exact retryHeld_sound _ _ (dropLuthier_sound _ _ (Sound.foldl _ (fun q y h => Sound.foldl _ (fun w z k =>
      Sound.ite (fun _ => restartWalk_sound _ _ _ k) (fun _ => k)) h) hs))
  · split
    · exact markCause_sound _ _ _ (withQuery_sound _ _ _ hs)
    · exact withMacro_sound _ _ _ _ _ hs
  · exact setCore_sound _ _ _ _ hs
  · exact withStream_sound _ _ _ _ (Sound.ite (fun _ => bump_sound _ _ _ hs) (fun _ => hs))
  · exact withCores_sound _ _ _ hs
  · split
    · exact abortRun_sound _ _ _ _ _ _ hs
    · exact hs
  · exact setBridge_sound _ _ _ hs
  · exact setBridge_sound _ _ _ hs
  · exact setSide_sound _ _ _ hs
  · exact markCause_sound _ _ _ (withQuery_sound _ _ _ hs)
  · exact markCause_sound _ _ _ (withQuery_sound _ _ _ hs)
  · exact withRunOf_sound _ _ _ hs
  · exact hs

theorem execCompletionWrite_sound {s0 : State} (slot seq lag : Nat) (s : State) {t : State} (hs : Sound s0 s)
    (e : execCompletionWrite slot seq lag s = .next t) : Sound s0 t := by
  unfold execCompletionWrite at e
  dsimp only at e
  split at e
  · cases e; exact hs
  · split at e
    · split at e
      · cases e; exact hs
      · split at e
        · cases e; exact putEntry_sound _ _ _ (takeReport_sound _ _ hs)
        · cases e
          exact Sound.ite (fun _ => retryHeld_sound _ _ (releaseDone_sound _ _ _ (refuseDue_sound _ _ (countEntry_sound _ _ _
              (dropCmd_sound _ _ _ (putEntry_sound _ _ _ (takeReport_sound _ _ (Sound.foldl _ (fun _ _ h => hostWrite_sound _ _ _ _ h) hs))))))))
            (fun _ => refuseDue_sound _ _ (countEntry_sound _ _ _ (dropCmd_sound _ _ _ (putEntry_sound _ _ _ (takeReport_sound _ _
              (Sound.foldl _ (fun _ _ h => hostWrite_sound _ _ _ _ h) hs))))))
    · cases e; exact hs

theorem completeNow_sound {s0 : State} (s : State) (slot seq lag : Nat) {t : State} (hs : Sound s0 s)
    (e : completeNow s slot seq lag = some t) : Sound s0 t := by
  unfold completeNow at e
  split at e
  · next h =>
    split at e
    · cases e; exact execCompletionWrite_sound _ _ _ _ (finishWith_sound _ _ _ _ hs) h
    · cases e
  · cases e

end Sys2Proof.Machine
end

