-- ==== Sys2Proof/Laws/SoundDictionary.lean ====
section
/-!
SUPPORT. `Sound` for the operations on the dictionary, its messages and the host registers.
-/
namespace Sys2Proof.Machine

theorem withPath_sound {s0 : State} (s : State) (n : Nat) (f : Path → Path) (hs : Sound s0 s) : Sound s0 (withPath s n f) := by
  unfold withPath
  exact hs.upd rfl

theorem drawChallenge_sound {s0 : State} (s : State) (fresh : List Byte) (hs : Sound s0 s) : Sound s0 (drawChallenge s fresh) := by
  unfold drawChallenge; exact hs.secure (Nat.le_refl _) (Nat.le_refl _) id

theorem randomBytes_sound {s0 : State} (s : State) (hs : Sound s0 s) : Sound s0 (randomBytes s).1 := by
  unfold randomBytes
  exact hs.upd rfl

theorem readItem_sound {s0 : State} (s : State) (path : Nat) (binds : List (Nat × Nat)) (key : Nat) (hs : Sound s0 s) : Sound s0 (readItem s path binds key).1 := by
  unfold readItem
  try dsimp only
  iterate 5
    repeat' first | assumption | (with_reducible apply drawChallenge_sound) | (with_reducible apply randomBytes_sound) | (refine Sound.of_pair ?_ (by assumption)) | (with_reducible apply Sound.foldl) | (with_reducible apply Sound.ite) | exact rfl | (with_reducible intro _ _ _) | (with_reducible intro _)
    all_goals try with_reducible apply Sound.upd
    repeat' first | assumption | (with_reducible apply drawChallenge_sound) | (with_reducible apply randomBytes_sound) | (refine Sound.of_pair ?_ (by assumption)) | (with_reducible apply Sound.foldl) | (with_reducible apply Sound.ite) | exact rfl | (with_reducible intro _ _ _) | (with_reducible intro _)
    all_goals try split
    all_goals try dsimp only

theorem setUnlock_sound {s0 : State} (s : State) (path : Nat) (v : Nat) (hs : Sound s0 s) : Sound s0 (setUnlock s path v) := by
  unfold setUnlock
  exact hs.upd rfl

theorem beginSave_sound {s0 : State} (s : State) (hs : Sound s0 s) : Sound s0 (beginSave s) := by
  unfold beginSave
  exact hs.upd rfl

theorem storeKernel_sound {s0 : State} (s : State) (n : Nat) (v : Nat) (hs : Sound s0 s) : Sound s0 (storeKernel s n v) := by
  unfold storeKernel
  exact hs.upd rfl

theorem unloadTab_sound {s0 : State} (s : State) (n : Nat) (hs : Sound s0 s) : Sound s0 (unloadTab s n) := by
  unfold unloadTab; exact Sound.foldl _ (fun _ _ h => setCtl_sound _ _ _ _ h) (hs.upd rfl)

theorem setCoalesce_sound {s0 : State} (s : State) (slot : Nat) (key : Nat) (v : Nat) (hs : Sound s0 s) : Sound s0 (setCoalesce s slot key v) := by
  unfold setCoalesce
  exact hs.upd rfl

theorem setIndexEntry_sound {s0 : State} (s : State) (i : Nat) (key : Nat) (v : Nat) (hs : Sound s0 s) : Sound s0 (setIndexEntry s i key v) := by
  unfold setIndexEntry
  exact hs.upd rfl

theorem clearStat_sound {s0 : State} (s : State) (obj : Nat) (v : Nat) (hs : Sound s0 s) : Sound s0 (clearStat s obj v) := by
  unfold clearStat
  repeat' first | assumption | (with_reducible apply Sound.ite) | (with_reducible intro _) | (with_reducible apply Sound.upd) | dsimp only

theorem enablePort_sound {s0 : State} (s : State) (i : Nat) (v : Nat) (hs : Sound s0 s) : Sound s0 (enablePort s i v) := by
  unfold enablePort
  repeat' first | assumption | (with_reducible apply setCtl_sound) | (with_reducible apply setFabPort_sound) | (with_reducible apply portDown_sound) | (with_reducible apply Sound.ite) | (with_reducible intro _)

theorem setSync_sound {s0 : State} (s : State) (t : TimeState) (hs : Sound s0 s) : Sound s0 (setSync s t) := by
  unfold setSync
  exact hs.upd rfl

theorem setMaster_sound {s0 : State} (s : State) (v : Nat) (hs : Sound s0 s) : Sound s0 (setMaster s v) := by
  unfold setMaster
  repeat' first | assumption | (with_reducible apply setCtl_sound) | (with_reducible apply setSync_sound) | (with_reducible apply Sound.ite) | (with_reducible intro _)

theorem setParent_sound {s0 : State} (s : State) (v : Nat) (hs : Sound s0 s) : Sound s0 (setParent s v) := by
  unfold setParent
  repeat' first | assumption | (with_reducible apply setCtl_sound) | (with_reducible apply timeParentLost_sound) | (with_reducible apply setSync_sound) | (with_reducible apply Sound.foldl) | (with_reducible apply Sound.ite) | exact rfl | (with_reducible intro _ _ _) | (with_reducible intro _)

theorem askQuote_sound {s0 : State} (s : State) (v : Nat) (hs : Sound s0 s) : Sound s0 (askQuote s v) := by
  unfold askQuote; exact hs.secure (Nat.le_refl _) (Nat.le_refl _) id

theorem askRestart_sound {s0 : State} (s : State) (cause : Nat) (hs : Sound s0 s) : Sound s0 (askRestart s cause) := by
  unfold askRestart
  exact hs.upd rfl

theorem applyWrite_sound {s0 : State} (s : State) (path : Nat) (e : DictEnt) (obj : Nat) (v : Nat) (hs : Sound s0 s) : Sound s0 (applyWrite s path e obj v) := by
  unfold applyWrite
  refine Sound.ite (fun _ => withPath_sound _ _ _ hs) fun _ => Sound.ite (fun _ => clearCounter_sound _ _ hs) fun _ => ?_
  generalize e.key = k
  have c := fun k => setCtl_sound s k 0 v hs
  split
  · exact setUnlock_sound _ _ _ hs
  · exact beginSave_sound _ hs
  · exact Sound.upd hs rfl
  · exact startMain_sound _ hs
  · exact askRestart_sound _ _ hs
  · exact noteCool_sound _ (c _)
  · exact noteCool_sound _ (c _)
  · exact noteCool_sound _ (c _)
  · exact splitChannels_sound _ _ hs
  · exact setCoalesce_sound _ _ _ _ hs
  · exact setCoalesce_sound _ _ _ _ hs
  · exact storeKernel_sound _ _ _ hs
  iterate 5 exact setIndexEntry_sound _ _ _ _ hs
  · exact setCtl_sound _ _ _ _ (fixPasses_sound _ hs)
  · exact clearStat_sound _ _ _ hs
  · exact unloadTab_sound _ _ hs
  · exact setMaster_sound _ _ hs
  · exact setParent_sound _ _ hs
  · exact enablePort_sound _ _ _ hs
  · exact hs.trans ⟨rfl, id, id, Nat.le_refl _, Nat.le_refl _, id, id, id, fun h => .inr ⟨h, rfl, rfl⟩⟩
  · exact stageSegment_sound _ _ hs
  · exact hs.secure (Nat.le_refl _) (Nat.le_refl _) id
  · exact askQuote_sound _ _ hs
  · exact refreshReady_sound _ (c _)
  · exact askRestart_sound _ _ hs
  · exact fenceCoreOp_sound _ _ _ hs
  · exact Sound.upd hs rfl
  · exact setCtl_sound _ _ _ _ hs

theorem restartUnlock_sound {s0 : State} (s : State) (path : Nat) (e : DictEnt) (hs : Sound s0 s) : Sound s0 (restartUnlock s path e) := by
  unfold restartUnlock
  repeat' first | assumption | (with_reducible apply withPath_sound) | (with_reducible apply Sound.ite) | (with_reducible intro _)

theorem writeItem_sound {s0 : State} (s : State) (path : Nat) (binds : List (Nat × Nat)) (typ : Nat) (len : Nat) (v : Nat) (key : Nat) (signed : Bool) (hs : Sound s0 s) : Sound s0 (writeItem s path binds typ len v key signed).1 := by
  unfold writeItem
  try dsimp only
  iterate 5
    repeat' first | assumption | (with_reducible apply applyToken_sound) | (with_reducible apply applyWrite_sound) | (with_reducible apply restartUnlock_sound) | (refine Sound.of_pair ?_ (by assumption)) | (with_reducible apply Sound.foldl) | (with_reducible apply Sound.ite) | exact rfl | (with_reducible intro _ _ _) | (with_reducible intro _)
    all_goals try with_reducible apply Sound.upd
    repeat' first | assumption | (with_reducible apply applyToken_sound) | (with_reducible apply applyWrite_sound) | (with_reducible apply restartUnlock_sound) | (refine Sound.of_pair ?_ (by assumption)) | (with_reducible apply Sound.foldl) | (with_reducible apply Sound.ite) | exact rfl | (with_reducible intro _ _ _) | (with_reducible intro _)
    all_goals try split
    all_goals try dsimp only

theorem countStatus_sound {s0 : State} (s : State) (st : Nat) (hs : Sound s0 s) : Sound s0 (countStatus s st) := by
  unfold countStatus
  repeat' first | assumption | (with_reducible apply bump_sound) | (with_reducible apply Sound.ite) | (with_reducible intro _)

theorem dropStage_sound {s0 : State} (s : State) (path : Nat) (hs : Sound s0 s) : Sound s0 (dropStage s path) := by
  unfold dropStage
  exact hs.upd rfl

theorem usePath_sound {s0 : State} (s : State) (path : Nat) (hs : Sound s0 s) : Sound s0 (usePath s path) := by
  unfold usePath
  exact hs.upd rfl

theorem endMessage_sound {s0 : State} (s : State) (hs : Sound s0 s) : Sound s0 (endMessage s) := by
  unfold endMessage
  try dsimp only
  iterate 2
    repeat' first | assumption | (with_reducible apply warmRestart_sound) | (with_reducible apply Sound.foldl) | (with_reducible apply Sound.ite) | exact rfl | (with_reducible intro _ _ _) | (with_reducible intro _)
    all_goals try with_reducible apply Sound.upd
    repeat' first | assumption | (with_reducible apply warmRestart_sound) | (with_reducible apply Sound.foldl) | (with_reducible apply Sound.ite) | exact rfl | (with_reducible intro _ _ _) | (with_reducible intro _)
    all_goals try split
    all_goals try dsimp only

theorem writeOne_sound {s0 : State} (s : State) (path : Nat) (key : Nat) (v : Nat) (signed : Bool) (hs : Sound s0 s) : Sound s0 (writeOne s path key v signed) := by
  unfold writeOne
  try dsimp only
  iterate 2
    repeat' first | assumption | (with_reducible apply bump_sound) | (with_reducible apply writeItem_sound) | (with_reducible apply countStatus_sound) | (with_reducible apply dropStage_sound) | (with_reducible apply usePath_sound) | (with_reducible apply endMessage_sound) | (refine Sound.of_pair ?_ (by assumption)) | (with_reducible apply Sound.foldl) | (with_reducible apply Sound.ite) | exact rfl | (with_reducible intro _ _ _) | (with_reducible intro _)
    all_goals try with_reducible apply Sound.upd
    repeat' first | assumption | (with_reducible apply bump_sound) | (with_reducible apply writeItem_sound) | (with_reducible apply countStatus_sound) | (with_reducible apply dropStage_sound) | (with_reducible apply usePath_sound) | (with_reducible apply endMessage_sound) | (refine Sound.of_pair ?_ (by assumption)) | (with_reducible apply Sound.foldl) | (with_reducible apply Sound.ite) | exact rfl | (with_reducible intro _ _ _) | (with_reducible intro _)
    all_goals try split
    all_goals try dsimp only

theorem segReadItem_sound {s0 : State} (s : State) (path : Nat) (binds : List (Nat × Nat)) (i : Item) (hs : Sound s0 s) : Sound s0 (segReadItem s path binds i).1 := by
  unfold segReadItem
  try dsimp only
  iterate 5
    repeat' first | assumption | (with_reducible apply readItem_sound)
    all_goals try with_reducible apply Sound.upd
    repeat' first | assumption | (with_reducible apply readItem_sound)
    all_goals try split
    all_goals try dsimp only

theorem segWriteItem_sound {s0 : State} (s : State) (path : Nat) (binds : List (Nat × Nat)) (i : Item) (hs : Sound s0 s) : Sound s0 (segWriteItem s path binds i).1 := by
  unfold segWriteItem
  try dsimp only
  iterate 5
    repeat' first | assumption | (with_reducible apply withPath_sound) | (with_reducible apply writeItem_sound) | (with_reducible apply dropStage_sound) | (refine Sound.of_pair ?_ (by assumption)) | (with_reducible apply Sound.foldl) | (with_reducible apply Sound.ite) | exact rfl | (with_reducible intro _ _ _) | (with_reducible intro _)
    all_goals try with_reducible apply Sound.upd
    repeat' first | assumption | (with_reducible apply withPath_sound) | (with_reducible apply writeItem_sound) | (with_reducible apply dropStage_sound) | (refine Sound.of_pair ?_ (by assumption)) | (with_reducible apply Sound.foldl) | (with_reducible apply Sound.ite) | exact rfl | (with_reducible intro _ _ _) | (with_reducible intro _)
    all_goals try split
    all_goals try dsimp only

theorem runItem_sound {s0 : State} (s : State) (path : Nat) (op : Nat) (next : Bool) (binds : List (Nat × Nat)) (i : Item) (hs : Sound s0 s) : Sound s0 (runItem s path op next binds i).1 := by
  unfold runItem
  try dsimp only
  iterate 4
    repeat' first | assumption | (with_reducible apply readItem_sound) | (with_reducible apply writeItem_sound) | (with_reducible apply countStatus_sound) | (with_reducible apply dropStage_sound) | (with_reducible apply segReadItem_sound) | (with_reducible apply segWriteItem_sound)
    all_goals try with_reducible apply Sound.upd
    repeat' first | assumption | (with_reducible apply readItem_sound) | (with_reducible apply writeItem_sound) | (with_reducible apply countStatus_sound) | (with_reducible apply dropStage_sound) | (with_reducible apply segReadItem_sound) | (with_reducible apply segWriteItem_sound)
    all_goals try split
    all_goals try dsimp only

theorem runItems_sound {s0 : State} (path op : Nat) (next : Bool) (binds : List (Nat × Nat)) (l : List Item) (s : State)
    (hs : Sound s0 s) : Sound s0 (runItems path op next binds l s).1 := by
  induction l generalizing s with
  | nil => exact hs
  | cons i r ih => exact ih _ (runItem_sound _ _ _ _ _ _ hs)

theorem runMessage_sound {s0 : State} (s : State) (path : Nat) (limit : Nat) (bs : List Byte) (hs : Sound s0 s) : Sound s0 (runMessage s path limit bs).1 := by
  unfold runMessage
  dsimp only
  split
  · exact hs
  · split
    · exact hs
    · exact runItems_sound _ _ _ _ _ _ hs

theorem releaseIdle_sound {s0 : State} (s : State) (hs : Sound s0 s) : Sound s0 (releaseIdle s) := by
  unfold releaseIdle
  exact hs.upd rfl

theorem openPath_sound {s0 : State} (s : State) (peer : Peer) (hs : Sound s0 s) : Sound s0 (openPath s peer).1 := by
  unfold openPath
  try dsimp only
  iterate 2
    repeat' first | assumption | (with_reducible apply withPath_sound) | (with_reducible apply usePath_sound) | (with_reducible apply releaseIdle_sound) | (with_reducible apply Sound.foldl) | (with_reducible apply Sound.ite) | exact rfl | (with_reducible intro _ _ _) | (with_reducible intro _)
    all_goals try with_reducible apply Sound.upd
    repeat' first | assumption | (with_reducible apply withPath_sound) | (with_reducible apply usePath_sound) | (with_reducible apply releaseIdle_sound) | (with_reducible apply Sound.foldl) | (with_reducible apply Sound.ite) | exact rfl | (with_reducible intro _ _ _) | (with_reducible intro _)
    all_goals try split
    all_goals try dsimp only

theorem sendDatagram_sound {s0 : State} (s : State) (peer : Peer) (bs : List Byte) (hs : Sound s0 s) : Sound s0 (sendDatagram s peer bs) := by
  unfold sendDatagram
  exact hs.upd rfl

theorem answerDatagram_sound {s0 : State} (s : State) (peer : Peer) (bs : List Byte) (hs : Sound s0 s) : Sound s0 (answerDatagram s peer bs) := by
  unfold answerDatagram
  try dsimp only
  iterate 2
    repeat' first | assumption | (with_reducible apply withPath_sound) | (with_reducible apply endMessage_sound) | (with_reducible apply runMessage_sound) | (with_reducible apply openPath_sound) | (with_reducible apply sendDatagram_sound)
    all_goals try with_reducible apply Sound.upd
    repeat' first | assumption | (with_reducible apply withPath_sound) | (with_reducible apply endMessage_sound) | (with_reducible apply runMessage_sound) | (with_reducible apply openPath_sound) | (with_reducible apply sendDatagram_sound)
    all_goals try split
    all_goals try dsimp only

theorem withBox_sound {s0 : State} (s : State) (p : Port) (f : Mailbox → Mailbox) (hs : Sound s0 s) : Sound s0 (withBox s p f) := by
  unfold withBox
  repeat' first | assumption | (with_reducible apply setPort_sound)

theorem answerBox_sound {s0 : State} (s : State) (p : Port) (bs : List Byte) (hs : Sound s0 s) : Sound s0 (answerBox s p bs) := by
  unfold answerBox
  repeat' first | assumption | (with_reducible apply sendMsi_sound) | (with_reducible apply withBox_sound) | (with_reducible apply Sound.ite) | (with_reducible intro _)

theorem answerMailbox_sound {s0 : State} (s : State) (p : Port) (hs : Sound s0 s) : Sound s0 (answerMailbox s p) := by
  unfold answerMailbox
  repeat' first | assumption | (with_reducible apply usePath_sound) | (with_reducible apply endMessage_sound) | (with_reducible apply runMessage_sound) | (with_reducible apply answerBox_sound) | (with_reducible apply Sound.ite) | (with_reducible intro _)

theorem setBoxCtrl_sound {s0 : State} (s : State) (p : Port) (value : Nat) (hs : Sound s0 s) : Sound s0 (setBoxCtrl s p value) := by
  unfold setBoxCtrl
  repeat' first | assumption | (with_reducible apply withBox_sound)

theorem mailboxGo_sound {s0 : State} (s : State) (p : Port) (value : Nat) (hs : Sound s0 s) : Sound s0 (mailboxGo s p value) := by
  unfold mailboxGo
  repeat' first | assumption | (with_reducible apply withBox_sound) | (with_reducible apply answerBox_sound) | (with_reducible apply setBoxCtrl_sound) | (with_reducible apply Sound.foldl) | (with_reducible apply Sound.ite) | exact rfl | (with_reducible intro _ _ _) | (with_reducible intro _)

theorem mbStatusClear_sound {s0 : State} (s : State) (p : Port) (value : Nat) (hs : Sound s0 s) : Sound s0 (mbStatusClear s p value) := by
  unfold mbStatusClear
  repeat' first | assumption | (with_reducible apply withBox_sound)

theorem takeMessage_sound {s0 : State} (s : State) (src : MsgSrc) (hs : Sound s0 s) : Sound s0 (takeMessage s src) := by
  unfold takeMessage
  try dsimp only
  iterate 2
    repeat' first | assumption | (with_reducible apply bump_sound) | (with_reducible apply answerDatagram_sound) | (with_reducible apply answerMailbox_sound) | (with_reducible apply Sound.foldl) | (with_reducible apply Sound.ite) | exact rfl | (with_reducible intro _ _ _) | (with_reducible intro _)
    all_goals try with_reducible apply Sound.upd
    repeat' first | assumption | (with_reducible apply bump_sound) | (with_reducible apply answerDatagram_sound) | (with_reducible apply answerMailbox_sound) | (with_reducible apply Sound.foldl) | (with_reducible apply Sound.ite) | exact rfl | (with_reducible intro _ _ _) | (with_reducible intro _)
    all_goals try split
    all_goals try dsimp only

theorem sendIcmp_sound {s0 : State} (s : State) (dest : List Byte) (kind : Nat) (body : List Byte) (hs : Sound s0 s) : Sound s0 (sendIcmp s dest kind body) := by
  unfold sendIcmp
  exact hs.upd rfl

theorem advertise_sound {s0 : State} (s : State) (source : List Byte) (hs : Sound s0 s) : Sound s0 (advertise s source) := by
  unfold advertise
  exact hs.upd rfl

theorem writeBar0_sound {s0 : State} (s : State) (p : Port) (off : Nat) (v : Nat) (hs : Sound s0 s) : Sound s0 (writeBar0 s p off v) := by
  unfold writeBar0
  repeat' first | assumption | (with_reducible apply setPort_sound) | (with_reducible apply setMsix_sound) | (with_reducible apply ringDoorbell_sound) | (with_reducible apply adminCtrl_sound) | (with_reducible apply Sound.foldl) | (with_reducible apply Sound.ite) | exact rfl | (with_reducible intro _ _ _) | (with_reducible intro _)

theorem writeBar2_sound {s0 : State} (s : State) (p : Port) (off : Nat) (v : Nat) (hs : Sound s0 s) : Sound s0 (writeBar2 s p off v) := by
  unfold writeBar2
  repeat' first | assumption | (with_reducible apply mailboxGo_sound) | (with_reducible apply mbStatusClear_sound) | (with_reducible apply Sound.foldl) | (with_reducible apply Sound.ite) | exact rfl | (with_reducible intro _ _ _) | (with_reducible intro _)

theorem writeReq_sound {s0 : State} (s : State) (p : Port) (off : Nat) (width : Nat) (v : Nat) (hs : Sound s0 s) : Sound s0 (writeReq s p off width v) := by
  unfold writeReq
  repeat' first | assumption | (with_reducible apply withBox_sound)

theorem writeCap_sound {s0 : State} (s : State) (p : Port) (off : Nat) (v : Nat) (hs : Sound s0 s) : Sound s0 (writeCap s p off v) := by
  unfold writeCap
  try dsimp only
  iterate 2
    repeat' first | assumption | (with_reducible apply setPort_sound) | (with_reducible apply issuePages_sound)
    all_goals try with_reducible apply Sound.upd
    repeat' first | assumption | (with_reducible apply setPort_sound) | (with_reducible apply issuePages_sound)
    all_goals try split
    all_goals try dsimp only

theorem regAccess_sound {s0 : State} (f : State → Nat → Nat → State) (hf : ∀ s off v, Sound s0 s → Sound s0 (f s off v)) (s : State)
    (off width v : Nat) (hs : Sound s0 s) : Sound s0 (regAccess f s off width v) := by
  unfold regAccess
  exact Sound.ite (fun _ => hs) (fun _ => Sound.ite (fun _ => hf _ _ _ hs) (fun _ => Sound.ite (fun _ => hf _ _ _ (hf _ _ _ hs)) (fun _ => hs)))

end Sys2Proof.Machine
end

