-- ==== Sys2Proof/Machine/Contacts.lean ====
section
/-!
DEFINITION. The module at its connectors: contact assignment, levels of the sideband outputs, and the specified environment (R1,
R407, R459-R475). Nothing here changes the state; outside the environment no rule of the manual holds.
-/
namespace Sys2Proof.Machine

/-! ### Contacts (R459-R462) -/

/-- A position of a mezzanine connector: rows A-H as 0-7, columns 1-70. -/
structure Contact where
  row : Nat
  col : Nat
  deriving DecidableEq, Repr

def isContact (c : Contact) : Bool := decide (c.row < 8 ∧ 1 ≤ c.col ∧ c.col ≤ 70)

/-- The two connectors. -/
inductive Mezzanine
  | mz1 | mz2
  deriving DecidableEq, Repr

/-- Columns `a` to `b` of a row, and the contacts of single columns of a row. -/
def colsOf (row a b : Nat) : List Contact := (List.range (b + 1 - a)).map (fun i => ⟨row, a + i⟩)
def spotsOf (row : Nat) (cols : List Nat) : List Contact := cols.map (fun c => ⟨row, c⟩)

/-- The pair, + contact first, of PCIe lane `n`: module to host in rows E and F, host to module in rows G and H (R460). -/
def pciePair (toHost : Bool) (n : Nat) : Contact × Contact :=
  let row := (if toHost then 4 else 6) + n / 8
  (⟨row, 26 + 3 * (n % 8)⟩, ⟨row, 27 + 3 * (n % 8)⟩)

/-- The port that a PCIe lane serves (R460). -/
def lanePort (split : Bool) (n : Nat) : Port := if split && decide (8 ≤ n) then .b else .a

/-- The pair of fabric lane L = 4p + q, + contact first (R461). -/
def fabricPair (send : Bool) (l : Nat) : Contact × Contact :=
  let row := (if send then 4 else 6) + l / 16
  (⟨row, 21 + 3 * (l % 16)⟩, ⟨row, 22 + 3 * (l % 16)⟩)
def fabricLane (p q : Nat) : Nat := 4 * p + q

def pairOf (p : Contact × Contact) : List Contact := [p.1, p.2]

/-- The named signals of a connector and their contacts (R460, R461). -/
def signals : Mezzanine → List (String × List Contact)
  | .mz1 =>
    [("12V", colsOf 0 1 20 ++ colsOf 1 1 20), ("12V return", colsOf 2 1 20 ++ colsOf 3 1 20), ("3V3_AUX", colsOf 0 21 24),
     ("PCIe transmit", ((List.range 16).map (fun n => pairOf (pciePair true n))).flatten),
     ("PCIe receive", ((List.range 16).map (fun n => pairOf (pciePair false n))).flatten),
     ("REFCLK_PCIE", spotsOf 4 [52, 53]), ("PRSNT_N", spotsOf 0 [56]), ("PWR_EN", spotsOf 0 [58]), ("PERST_N", spotsOf 0 [60]),
     ("PWRGD_OUT", spotsOf 0 [62]), ("ALERT_N", spotsOf 0 [64]), ("THERMTRIP_N", spotsOf 0 [66]), ("PUMP_OK", spotsOf 0 [68]),
     ("LED_STAT", spotsOf 2 [58, 60]), ("MOD_ID", spotsOf 2 [62, 64, 66, 68]), ("HOST_SPLIT", spotsOf 2 [70])]
  | .mz2 =>
    [("12V", colsOf 0 1 20 ++ colsOf 1 1 20), ("12V return", colsOf 2 1 20 ++ colsOf 3 1 20), ("REFCLK_FAB", spotsOf 0 [22, 23]),
     ("REFCLK_MGT", spotsOf 0 [26]), ("MGT_TRX", spotsOf 0 [30, 31]), ("TCK", spotsOf 0 [34]), ("TMS", spotsOf 0 [36]),
     ("TDI", spotsOf 0 [38]), ("TDO", spotsOf 0 [40]), ("TRST_N", spotsOf 0 [42]), ("DBG_CK", spotsOf 0 [44]),
     ("DBG_DIO", spotsOf 0 [46]), ("PRSNT_RET", spotsOf 0 [50]),
     ("fabric transmit", ((List.range 32).map (fun l => pairOf (fabricPair true l))).flatten),
     ("fabric receive", ((List.range 32).map (fun l => pairOf (fabricPair false l))).flatten)]

/-- The net of a contact: every position that no signal names is GND (R459). -/
def netOf (m : Mezzanine) (c : Contact) : String := (((signals m).find? (fun n => n.2.contains c)).map Prod.fst).getD "GND"

/-- PRSNT_N reads low while both connectors are mated, powered or not (R462). -/
def prsntLow (mated1 mated2 : Bool) : Bool := mated1 && mated2

/-! ### Sideband outputs (R463, R464, R472) -/

/-- Outputs whose level a carrier sees. -/
inductive Sideband
  | pwrgdOut | alertN | thermtripN | led0 | led1
  deriving DecidableEq, Repr

/-- The boundary cell of an output. -/
def cellOf : Sideband → Nat
  | .pwrgdOut => 68
  | .alertN => 69
  | .thermtripN => 70
  | .led0 => 72
  | .led1 => 73

/-- The level by the rule of an output, `true` high: while it is released, the level that its carrier resistor gives. -/
def ruleLevel (s : State) : Sideband → Bool
  | .pwrgdOut => pwrgdHigh s
  | .alertN => !(alertLow s)
  | .thermtripN => !(thermtripLow s)
  | .led0 => !(bit (ledStat s) 0)
  | .led1 => !(bit (ledStat s) 1)

/-- The level of an output: the boundary cell's while that drives the pin (R449). -/
def pinLevel (s : State) (p : Sideband) : Bool := if bit (drivers s) (cellOf p) then bit (driven s) (cellOf p) else ruleLevel s p

/-! ### The specified environment (R1, R407, R411, R466-R473) -/

/-- What surrounds the module: millivolts at the connectors, milliwatts of auxiliary power, ppm of the reference clocks, hundredths
of a degree, millilitres per minute, kPa above ambient, tenths of a per cent. -/
structure Surroundings where
  main : Nat
  aux : Nat
  refPcie : Int
  refFab : Int
  refMgt : Int
  inlet : Int
  dewPoint : Int
  flow : Nat
  pressure : Nat
  air : Int
  humidity : Nat
  mated1 : Bool
  mated2 : Bool
  deriving DecidableEq, Repr

def withinPpm (p : Int) : Bool := decide (-100 ≤ p ∧ p ≤ 100)

/-- The environment of R407, with PWR_EN as it stands: the 12 V supply and the coolant count while PWR_EN is asserted (R411, R473). -/
def specified (s : State) (e : Surroundings) : Bool :=
  decide (3135 ≤ e.aux ∧ e.aux ≤ 3465) && withinPpm e.refPcie && withinPpm e.refFab && withinPpm e.refMgt
    && decide (500 ≤ e.air ∧ e.air ≤ 5500) && decide (80 ≤ e.humidity ∧ e.humidity ≤ 850) && e.mated1 && e.mated2
    && (!s.pins.pwrEn || (decide (11400 ≤ e.main ∧ e.main ≤ 12600) && decide (1500 ≤ e.inlet ∧ e.inlet ≤ 4000)
      && decide (e.dewPoint < e.inlet) && decide (1800 ≤ e.flow ∧ e.flow ≤ 3000) && decide (e.pressure ≤ 300)))

/-- A limit of a table of spec/17: Min, Typ and Max where it gives one. -/
structure Limit where
  symbol : String
  min : Option Int := none
  typ : Option Int := none
  max : Option Int := none
  deriving DecidableEq, Repr

/-- Levels of the sideband, strap, REFCLK_MGT, boundary-scan and debug pins: mV, µA, pF, mA, ns (R466). -/
def pinLimits : List Limit :=
  [{ symbol := "V_PIN", min := some (-300), max := some 3600 }, { symbol := "V_IL", min := some (-300), max := some 800 },
   { symbol := "V_IH", min := some 2000, max := some 3600 }, { symbol := "V_HYS", min := some 150, typ := some 250 },
   { symbol := "I_LK", min := some (-10), max := some 10 }, { symbol := "C_PIN", typ := some 5, max := some 10 },
   { symbol := "V_OL", max := some 400 }, { symbol := "I_OL", max := some 8 }, { symbol := "V_OH", min := some 2400, max := some 3465 },
   { symbol := "V_OLD", max := some 400 }, { symbol := "t_F", max := some 50 }]

/-- Supplies: mV, mA, µF, µs (R468). -/
def supplyLimits : List Limit :=
  [{ symbol := "V_12", min := some 11400, typ := some 12000, max := some 12600 }, { symbol := "I_12", max := some 131600 },
   { symbol := "I_12PK", max := some 157900 }, { symbol := "I_12SB", max := some 88 }, { symbol := "dI_12", max := some 60000 },
   { symbol := "I_INR", max := some 20000 }, { symbol := "C_12", typ := some 1200 },
   { symbol := "V_AUX", min := some 3135, typ := some 3300, max := some 3465 },
   { symbol := "I_AUX", typ := some 1800, max := some 3190 }, { symbol := "t_AUXR", min := some 100, max := some 20000 }]

/-- The sequence of supplies and sideband inputs: µs (R470). -/
def sequenceLimits : List Limit :=
  [{ symbol := "t_STRAP", min := some 2000, typ := some 2000, max := some 2100 }, { symbol := "t_MGTCK", max := some 0 },
   { symbol := "t_ENS", min := some 0 }, { symbol := "t_FABCK", min := some 0 }, { symbol := "t_ENH", min := some 5000 },
   { symbol := "t_ENL", min := some 10000 }, { symbol := "tS_PGD", min := some 317000, typ := some 528000, max := some 891000 },
   { symbol := "t_PGPR", min := some 100000 }, { symbol := "t_PCIECK", min := some 100 }, { symbol := "t_AUXH", min := some 0 }]

/-- Reference clocks: kHz, and RMS phase jitter in fs (R471). -/
def clockLimits : List Limit :=
  [{ symbol := "REFCLK_PCIE", typ := some 100000 }, { symbol := "REFCLK_FAB", typ := some 156250 },
   { symbol := "REFCLK_FAB jitter", max := some 100 }, { symbol := "REFCLK_MGT", typ := some 25000 },
   { symbol := "REFCLK_MGT jitter", max := some 5000 }]

/-- Coolant: hundredths of a degree, mL/min, kPa, W, mK (R473). -/
def coolantLimits : List Limit :=
  [{ symbol := "inlet temperature", min := some 1500, max := some 4000 }, { symbol := "flow", min := some 1800, typ := some 2400, max := some 3000 },
   { symbol := "inlet pressure", max := some 300 }, { symbol := "pressure drop", typ := some 45, max := some 70 },
   { symbol := "heat to coolant", max := some 1500 }, { symbol := "heat to air", max := some 60 },
   { symbol := "outlet rise", typ := some 9500, max := some 12600 }]

/-- Outline: mm, g, N·cm, N, µm, cycles (R474). -/
def outlineLimits : List Limit :=
  [{ symbol := "length", typ := some 300 }, { symbol := "width", typ := some 180 }, { symbol := "height", typ := some 48 },
   { symbol := "mass", typ := some 4400 }, { symbol := "screws", typ := some 8 }, { symbol := "screw torque", typ := some 120 },
   { symbol := "mating force", max := some 400 }, { symbol := "flatness", max := some 150 }, { symbol := "mating cycles", typ := some 50 }]

end Sys2Proof.Machine
end

