-- ==== Sys2Proof/WellFormed.lean ====
section
/-!
DEFINITION. Well-formed commands: operand ranges that the hardware's widths impose (R17, R197, R201, R205, R330, R357,
R366). An ill-formed term stands for no command of the module.
-/
namespace Sys2Proof

/-- A channel slot of 12 bits (R197) and a SEQ of 16 bits (R201). -/
def chanOk (slot seq : Nat) : Bool := decide (slot < 4096 ∧ seq < 65536)

/-- A time comparison lags ACLK by at most 80 ns (R22). -/
def lagOk (lag : Nat) : Bool := decide (lag ≤ 80)

/-- Index, partition, slot and stack numbers (R17, R26). -/
def indexOk (i : Nat) : Bool := decide (i < 256)
def partOk (p : Nat) : Bool := decide (p < 64)
def slotOk (n : Nat) : Bool := decide (n < 0x3FFFFFF)
def stackOk (m : Nat) : Bool := decide (m < 16)

/-- Dies, global cores, fabric ports and access paths (R17, R13, R330, R366). -/
def dieOk (d : Nat) : Bool := decide (d < 8)
def coreOk (c : Nat) : Bool := decide (c < 512)
def fabOk (p : Nat) : Bool := decide (p < 8)
def pathOk (p : Nat) : Bool := decide (p < 18)

/-- A 32-bit value. -/
def u32Ok (v : Nat) : Bool := decide (v < 4294967296)

/-- A link-control flit at a fabric port (R336). -/
def lcOk (port : Nat) (lc : LinkControl) : Bool := fabOk port && decide (lc.aseq < 4096 ∧ lc.credits.length = 8)

/-- The operands of a command are in range. -/
def Instr.wf : Instr → Bool
  | .search slot seq lag | .searchExact slot seq lag | .encodeSearch slot seq lag => chanOk slot seq && lagOk lag
  | .fetch slot seq | .insert slot seq | .delete slot seq | .upsert slot seq | .encode slot seq | .run slot seq
  | .tuneStep slot seq | .barrier slot seq | .snapshotRelease slot seq | .createChannel slot seq
  | .destroyChannel slot seq | .abortChannel slot seq | .createIndex slot seq | .dropIndex slot seq
  | .loadTablature slot seq | .setPowerState slot seq | .mergeNow slot seq | .retuneStart slot seq
  | .retuneCommit slot seq | .fetchAdmit slot seq => chanOk slot seq
  | .writeAccept slot seq lag | .completionWrite slot seq lag => chanOk slot seq && lagOk lag
  | .barrierRelease slot _ | .runComplete slot _ | .dieAbortDone slot _ => decide (slot < 4096)
  | .snapshotPin slot seq pick => chanOk slot seq && decide (pick < 4096)
  | .getLog slot seq _ => chanOk slot seq
  | .sqDoorbell _ slot value | .cqDoorbell _ slot value => decide (slot < 4096) && u32Ok value
  | .adminCtrlWrite _ value => u32Ok value
  | .adminChannelEnable _ => true
  | .registerWrite _ bar off width value =>
    (bar == 0 || bar == 2 || bar == 7) && decide (off < 0x100000) && [1, 2, 4, 8].contains width && decide (value < 2 ^ (8 * width))
  | .commandFetchDone slot words => decide (slot < 4096 ∧ words.length ≤ 32)
  | .writeApply idx stack _ _ => indexOk idx && stackOk stack
  | .epochPublish idx lag => indexOk idx && lagOk lag
  | .batchClose idx | .strumClose idx | .dropIndexFinish idx | .lowWaterUpdate idx
  | .retuneSampleTimeout idx | .retuneFitDone idx | .retuneArm idx | .retunePassDone idx | .retuneRetire idx =>
    indexOk idx
  | .sweepStart stack | .sweepDone stack | .expandRequest stack _ => stackOk stack
  | .searchStart _ core lag => coreOk core && lagOk lag
  | .queryRegistrationDone _ => true
  | .walkPlace _ part core => partOk part && coreOk core
  | .walkDescent _ part => partOk part
  | .recordRebuild idx part slot | .slotReclaim idx part slot => indexOk idx && partOk part && slotOk slot
  | .expandResponse _ part _ lag => partOk part && lagOk lag
  | .mergeListArrival _ _ lag _ | .powerEntryComplete lag => lagOk lag
  | .dieLastAccept _ die lag => dieOk die && lagOk lag
  | .hubLastAccept _ lag | .searchCut _ lag | .searchDeadline _ lag | .fabricLastAccept _ lag => lagOk lag
  | .rerankDone _ _ => true
  | .intCoalesceExpiry slot | .abortComplete slot | .channelFreed slot => decide (slot < 4096)
  | .translationResponse slot seq _ _ | .pageResponse slot seq _ _ | .pageRequestTimeout slot seq _
  | .atsInvalidation _ slot seq => chanOk slot seq
  | .mergeBatchStart idx part stack core => indexOk idx && partOk part && stackOk stack && coreOk core
  | .mergeBatchDone idx part stack | .entryRelease idx part stack =>
    indexOk idx && partOk part && stackOk stack
  | .repairScanStart idx part => indexOk idx && partOk part
  | .repairScanDone idx part pick => indexOk idx && partOk part && decide (pick < 67108864)
  | .pinExpire pin => decide (pin < 4096)
  | .denseStart slot seq args inDir outDir =>
    chanOk slot seq && (args.all (fun b => b.length == 128)) && (inDir.all (fun b => b.length == 128))
      && (outDir.all (fun b => b.length == 128))
  | .lineIssue die | .stallDetect die | .hubReloadDone die | .regBucketRefill die => dieOk die
  | .macroStart die core _ | .macroComplete die core _ => dieOk die && decide (core < 64)
  | .descriptorBurstDone die stream _ | .blockFetchDone die stream _ _ _ | .blockWriteDone die stream _ =>
    dieOk die && decide (stream < 256)
  | .dieProgramAbort slot _ cause => decide (slot < 4096) && decide (1 ≤ cause ∧ cause ≤ 6)
  | .parityError _ _ _ | .memUncorrectable _ | .fenceDecay | .reqTimeout _ => true
  | .read _ | .write _ | .describe _ | .segRead _ | .segWrite _ => true
  | .dapPathRelease path => decide (2 ≤ path ∧ path < 18)
  | .expertUnlock path value | .save path value | .restoreDefaults path value | .fenceClear path value
  | .powerOn path value | .resetRequest path value | .fwUpdCommit path value | .dbgClose path value =>
    pathOk path && u32Ok value
  | .expertUnlockExpiry path => pathOk path
  | .saveDone _ => true
  | .counterClear path entry value => pathOk path && decide (entry < 0x1000000) && decide (value < 2 ^ 64)
  | .statClear path value | .portEnable path value | .timeMaster path value | .timeParentPort path value =>
    pathOk path && decide (value < 256)
  | .fenceCore path value | .tabUnload path value => pathOk path && decide (value < 65536)
  | .corePart path die value => pathOk path && dieOk die && decide (value < 2 ^ 64)
  | .kernelCode path block => pathOk path && block.length == 256
  | .logAck path value => pathOk path && decide (value < 2 ^ 64)
  | .fwUpdData path data => pathOk path && data.length == 16384
  | .fwCommitCheckDone _ | .quoteReady | .dbgChallengeLapse | .debugErasureDone => true
  | .attNonce path nonce => pathOk path && nonce.length == 32
  | .dbgChallenge path fresh => pathOk path && fresh.length == 32
  | .dbgToken path token _ => pathOk path && token.length == 256
  | .ideKeyManagement _ _ | .ideFailed _ => true
  | .samplePreload pins cells => decide (pins < 2 ^ 214 ∧ cells < 2 ^ 214)
  | .bypass | .idcode | .extest | .clamp | .highz => true
  | .portTrainingDone port | .portTrainingTimeout port | .linkControlSend port => fabOk port
  | .fecLockLost port cause => fabOk port && (cause == 1 || cause == 2)
  | .query port rx lag | .list port rx lag =>
    fabOk port && decide (rx.fseq < 4096 ∧ rx.rpl < 4) && lagOk lag
  | .rowList port rx | .cancel port rx | .badFrame port rx => fabOk port && decide (rx.fseq < 4096 ∧ rx.rpl < 4)
  | .ack port lc | .nak port lc | .credit port lc => lcOk port lc
  | .timeReq port lc lagIn lagOut => lcOk port lc && lagOk lagIn && lagOk lagOut
  | .timeRsp port lc lag => lcOk port lc && lagOk lag
  | .timeExchangeStart lag => lagOk lag
  | .timeExchangeTimeout | .timeSlew => true
  | .auxPowerOn modId _ => decide (modId < 16)
  | .strapSample | .auxPowerLoss | .pwrEnRise _ | .pwrEnFall _ => true
  | .mainStartStepDone failed => failed.all (fun c => decide (c < 528))
  | .startupFailed _ stackBits farBits => decide (stackBits < 65536) && u32Ok farBits
  | .perstNAssert _ | .perstNRelease _ => true
  | .portReset _ cause => cause == 1 || cause == 2
  | .linkUp _ => true
  | .powerSample watts => decide (watts < 65536)
  | .capLoopStep dies memories => decide (dies.length = 8 ∧ memories.length = 16)
  | .capRaise | .thermalThrottle => true
  | .thermalTrip sensor => decide (sensor < 58)
  | .overcurrent _ => true
  | .pumpOkChange _ _ | .pumpLost | .pumpRestored | .powerCommitPoint | .powerEntryAbandon
  | .powerReturnComplete => true
  | .bufferReadDone slot seq _ _ => chanOk slot seq
  | .exactSweepDone _ stack _ => stackOk stack
  | .searchMeterToken => true
  | .temperatureChange sensor value => decide (sensor < 60) && decide (-32768 ≤ value ∧ value < 32768)
  | .auxStartupDone => true
  | .mailboxGo _ value | .mbStatusClear _ value => u32Ok value
  | .neighbourDiscovery message =>
    (match message with
     | .duplicate => true
     | .solicitation a b => decide (a.length = 16 ∧ b.length = 16)
     | .echo a b data => decide (a.length = 16 ∧ b.length = 16 ∧ data.length ≤ 1240))
  | .malformedMessage _ _ | .plcaBeaconChange _ => true
  | .spdmRequest _ _ | .tapReset _ => true

end Sys2Proof
end

