-- ==== Sys2Proof/Tests/Slice0.lean ====
section
/-!
SUPPORT. Tests: ill-formed commands are refused by the check of their operands, and every hypothesis of the statements is met
by a concrete state and operands, clause by clause. No expected value comes from the model: a witness only shows that a
statement speaks of something.
-/
namespace Sys2Proof.Tests
set_option Elab.async false
open Sys2Proof.Machine

/-! ### States that the tests start from -/

/-- The module in A0: started, its host port A up, its log in the far tier. -/
def up : State := { State.reset with
  power := { state := .a0, step := 18, pwrgd := true, farUp := true, stackOk := 0xFFFF, farOk := 0xFFFFFFFF }
  pins := { sampled := true, pwrEn := true, perst := false, pumpOk := true }
  dict := { ready := true }
  tap := { inReset := false }
  portA := { linkUp := true, held := false, ready := true }
  time := { base := 1000000, tick := 1000000 } }

/-- A command word: its opcode and fields at their bit positions. -/
def wordOf (op : Nat) (fs : List (Nat × Nat)) : CmdWord := BitVec.ofNat 512 (fs.foldl (fun n f => n + f.2 * 2 ^ f.1) op)

/-- An outstanding command with SEQ 3. -/
def cmd (w : CmdWord) (stage : Stage := .fetched) : OutCmd := { seq := 3, word := w, stage := stage }

/-- A channel with queues of 16 entries that holds some commands. -/
def chanWith (cmds : List OutCmd) : Channel :=
  { gen := 1, state := .active, cfg := { sqN := 16, cqN := 16, sqAddr := 0x1000, cqAddr := 0x2000 }, seq := 4, cmds := cmds }

/-- `up` with one command in a channel slot: slot 0 is the admin channel of port A. -/
def upWith (slot : Nat) (w : CmdWord) (stage : Stage := .fetched) : State := setChan up slot (chanWith [cmd w stage])

/-- A frame without a payload, as it arrives with an FSEQ, and a link-control flit. -/
def frame0 : Frame :=
  { typ := 2, tc := 0, hops := 0, dst := 7, src := 9, origin := 9, len := 0, group := 0, ptag := 0, cutTime := 0, payload := [] }
def rxOf (fseq : Nat) (f : Frame) : RxFrame := { fseq := fseq, rpl := 0, parity := .good, frame := f }
def flitOf (aseq : Nat) (credits : List Nat) (ok : Bool := true) : LinkControl :=
  { parityOk := ok, aseq := aseq, peerId := 9, credits := credits, tA := 0, tB := 0 }

/-! ### Well-formed commands: one ill-formed term for each check -/

theorem test_wf_channel_slot : (Instr.fetch 4096 0).wf = false ∧ (Instr.fetch 4095 65535).wf = true := by decide
theorem test_wf_seq : (Instr.insert 0 65536).wf = false := by decide
theorem test_wf_lag : (Instr.search 1 2 81).wf = false ∧ (Instr.search 1 2 80).wf = true := by decide
theorem test_wf_pin : (Instr.snapshotPin 1 2 4096).wf = false ∧ (Instr.pinExpire 4096).wf = false := by decide
theorem test_wf_doorbell_value : (Instr.sqDoorbell .a 1 (2 ^ 32)).wf = false ∧ (Instr.cqDoorbell .a 4096 0).wf = false := by decide
theorem test_wf_register_bar : (Instr.registerWrite .a 1 0 4 0).wf = false := by decide
theorem test_wf_register_width : (Instr.registerWrite .a 0 0 3 0).wf = false ∧ (Instr.registerWrite .a 0 0 4 (2 ^ 32)).wf = false := by
  decide
theorem test_wf_register_offset : (Instr.registerWrite .a 0 0x100000 4 0).wf = false := by decide
theorem test_wf_fetch_words : (Instr.commandFetchDone 1 (List.replicate 33 0)).wf = false := by decide
theorem test_wf_index : (Instr.batchClose 256).wf = false ∧ (Instr.batchClose 255).wf = true := by decide
theorem test_wf_stack : (Instr.sweepStart 16).wf = false ∧ (Instr.writeApply 0 16 0 true).wf = false := by decide
theorem test_wf_partition : (Instr.walkDescent 0 64).wf = false := by decide
theorem test_wf_slot : (Instr.slotReclaim 0 0 0x3FFFFFF).wf = false ∧ (Instr.slotReclaim 0 0 0x3FFFFFE).wf = true := by decide
theorem test_wf_core : (Instr.walkPlace 0 0 512).wf = false ∧ (Instr.macroStart 0 64 .f).wf = false := by decide
theorem test_wf_die : (Instr.lineIssue 8).wf = false ∧ (Instr.corePart 2 8 0).wf = false := by decide
theorem test_wf_stream : (Instr.blockWriteDone 0 256 true).wf = false := by decide
theorem test_wf_argument_block : (Instr.denseStart 1 2 (some [0]) none none).wf = false := by decide
theorem test_wf_abort_cause : (Instr.dieProgramAbort 1 2 0).wf = false ∧ (Instr.dieProgramAbort 1 2 7).wf = false := by decide
theorem test_wf_path : (Instr.save 18 0).wf = false ∧ (Instr.dapPathRelease 1).wf = false := by decide
theorem test_wf_entry : (Instr.counterClear 2 0x1000000 0).wf = false := by decide
theorem test_wf_values : (Instr.tabUnload 2 65536).wf = false ∧ (Instr.statClear 2 256).wf = false
    ∧ (Instr.expertUnlock 2 (2 ^ 32)).wf = false ∧ (Instr.logAck 2 (2 ^ 64)).wf = false := by decide
theorem test_wf_octets : (Instr.kernelCode 2 []).wf = false ∧ (Instr.attNonce 2 [0]).wf = false
    ∧ (Instr.dbgToken 2 [0] true).wf = false ∧ (Instr.fwUpdData 2 [0]).wf = false ∧ (Instr.dbgChallenge 2 [0]).wf = false := by
  decide
theorem test_wf_fabric_port : (Instr.portTrainingDone 8).wf = false ∧ (Instr.fecLockLost 0 3).wf = false := by decide
theorem test_wf_frame : (Instr.badFrame 0 (rxOf 4096 frame0)).wf = false := by decide
theorem test_wf_link_control : (Instr.ack 0 (flitOf 4096 (List.replicate 8 0))).wf = false ∧ (Instr.nak 0 (flitOf 0 [])).wf = false := by
  decide
theorem test_wf_straps : (Instr.auxPowerOn 16 false).wf = false := by decide
theorem test_wf_failed_cores : (Instr.mainStartStepDone [528]).wf = false := by decide
theorem test_wf_unit_bits : (Instr.startupFailed 0 65536 0).wf = false ∧ (Instr.startupFailed 0 0 (2 ^ 32)).wf = false := by decide
theorem test_wf_reset_cause : (Instr.portReset .a 3).wf = false := by decide
theorem test_wf_power_sample : (Instr.powerSample 65536).wf = false := by decide
theorem test_wf_sensor : (Instr.thermalTrip 58).wf = false ∧ (Instr.temperatureChange 60 0).wf = false
    ∧ (Instr.temperatureChange 0 32768).wf = false := by decide

/-! ### Channels: the hypotheses of the statements are met -/

theorem test_meets_empty_queue : up.pending = [] ∧ up.pins.aux = true := by decide

/-- Channel 5 of port A: the last and the first pointer outside its queue, a stale GEN, a slot being aborted. -/
theorem test_meets_doorbells : (port up .a).linkUp = true ∧ portOf (upWith 5 0) 5 = .a
    ∧ genOf (upWith 5 0) 5 = bits (2 ^ 20 + 15) 31 20 ∧ (chan (upWith 5 0) 5).state = .active
    ∧ bits (2 ^ 20 + 15) 15 0 < (chan (upWith 5 0) 5).cfg.sqN ∧ (chan (upWith 5 0) 5).cfg.cqN ≤ bits (2 ^ 20 + 16) 15 0
    ∧ running (upWith 5 0) = true := by decide +kernel

theorem test_meets_stale_doorbells : genOf (upWith 5 0) 5 ≠ bits (2 * 2 ^ 20) 31 20 ∧ (chan up 5).state = .free
    ∧ genOf (setChan up 5 { chanWith [] with state := .aborting }) 5 = bits (2 ^ 20) 31 20
    ∧ (chan (setChan up 5 { chanWith [] with state := .aborting }) 5).state = .aborting
    ∧ portOf (setChan up 5 { chanWith [] with state := .aborting }) 5 = .a := by decide +kernel

/-- Port A with an admin channel to enable: sizes of 2 entries, aligned queues. -/
def adminUp : State := setPort up .a { up.portA with enReq := true, adminSizes := 0x00010001, adminSq := 0x1000, adminCq := 0x2000 }

theorem test_meets_admin_channel : bit 1 0 = true ∧ (chan up (adminSlot up .a)).state = .free ∧ bit 2 0 = false
    ∧ (chan (setChan up 0 (chanWith [])) (adminSlot up .a)).state = .active
    ∧ (port adminUp .a).enReq = true ∧ (port adminUp .a).ready = true ∧ (chan adminUp (adminSlot adminUp .a)).state = .free
    ∧ adminFieldsOk (port adminUp .a) = true ∧ adminFieldsOk { port adminUp .a with adminSizes := 0 } = false := by
  decide +kernel

theorem test_meets_registers : portLive up .a = true ∧ (2 ^ 32 - 1) < 2 ^ 32 ∧ (port up .a).enabled = false
    ∧ portLive { up with portA := { up.portA with enabled := true } } .a = true
    ∧ (0x1000 ≤ 0x1000 ∧ 0x1000 < 0x5000 ∧ 0x1000 % 4 = 0) ∧ (0x4FFC < 0x5000 ∧ 0x4FFC % 4 = 0) ∧ (port up .a).mb.busy = false
    ∧ 0x4FFF % 4 ≠ 0 := by decide +kernel

theorem test_meets_mailbox_registers : bit 0x80000010 31 = true ∧ up.dict.ready = true ∧ 16 ≤ bits 0x80000010 14 0
    ∧ bits 0x80004000 14 0 ≤ 16384 ∧ State.reset.dict.ready = false := by decide +kernel

/-- Two commands fetched from the last places of a queue. -/
def fetching : State := setChan up 5 { chanWith [] with head := 15, tail := 1 }

theorem test_meets_fetch : (chan fetching 5).state = .active ∧ fetchAllowed fetching 5 = true ∧ paging fetching 5 0 .sq = none
    ∧ [(0 : CmdWord), 0].length ≤ unfetched (chan fetching 5) ∧ 0 < (chan fetching 5).cfg.sqN ∧ (chan fetching 5).seq < 65536
    ∧ (chan fetching 5).cmds.length + [(0 : CmdWord), 0].length ≤ min (chan fetching 5).cfg.outMax 32768 := by decide +kernel

/-- CREATE_CHANNEL of queues of 2 entries. -/
def createWord : CmdWord := wordOf 0x80 [(32, 1), (48, 1), (64, 1), (80, 1), (192, 0x1000), (256, 0x2000)]

theorem test_meets_abort : reservedOk (wordOf 0x82 [(160, 2 ^ 20 + 5)]) = true
    ∧ admitting (setChan (upWith 0 (wordOf 0x82 [(160, 2 ^ 20 + 5)])) 5 (chanWith [])) 0 3 0x82 = some (cmd (wordOf 0x82 [(160, 2 ^ 20 + 5)]))
    ∧ handleSlot (setChan (upWith 0 0) 5 (chanWith [])) .a (aTarget (wordOf 0x82 [(160, 2 ^ 20 + 5)])) = some 5
    ∧ isAdmin up 5 = false ∧ reservedOk (wordOf 0x81 [(160, 2 ^ 20 + 5)]) = true
    ∧ admitting (setChan (upWith 0 (wordOf 0x81 [(160, 2 ^ 20 + 5)])) 5 (chanWith [])) 0 3 0x81
        = some (cmd (wordOf 0x81 [(160, 2 ^ 20 + 5)])) := by decide +kernel

/-- A handle that names the admin slot, and one that names no channel. -/
theorem test_meets_abort_refused : handleSlot (upWith 0 (wordOf 0x82 [])) .a (aTarget (wordOf 0x82 [])) = some 0 ∧ isAdmin up 0 = true
    ∧ admitting (upWith 0 (wordOf 0x82 [])) 0 3 0x82 = some (cmd (wordOf 0x82 []))
    ∧ handleSlot (upWith 0 (wordOf 0x81 [(160, 6)])) .a (aTarget (wordOf 0x81 [(160, 6)])) = none
    ∧ admitting (upWith 0 (wordOf 0x81 [(160, 6)])) 0 3 0x81 = some (cmd (wordOf 0x81 [(160, 6)])) := by decide +kernel

/-- A channel at the end of its abort, asked for by command 3 of the admin channel. -/
def aborted (slot : Nat) (destroy : Bool) (op : Nat) (by_ : List (Nat × Nat) := [(0, 3)]) : State :=
  setChan (upWith 0 (wordOf op []) .running) slot
    { chanWith [] with state := if destroy then .destroying else .aborting, abort := some { by_ := by_, destroy := destroy, kept := [7] } }

theorem test_meets_abort_complete : (chan (aborted 5 false 0x82) 5).abort = some { by_ := [(0, 3)], destroy := false, kept := [7] }
    ∧ isAdmin (aborted 5 false 0x82) 5 = false ∧ outCmd (aborted 5 false 0x82) 0 3 = some (cmd (wordOf 0x82 []) .running)
    ∧ cOpcode (wordOf 0x82 []) = 0x82 ∧ outCmd (aborted 5 true 0x81) 0 3 = some (cmd (wordOf 0x81 []) .running)
    ∧ cOpcode (wordOf 0x81 []) = 0x81 ∧ isAdmin (aborted 0 false 0x82 []) 0 = true := by decide +kernel

theorem test_meets_channel_freed : (chan (setChan up 5 { chanWith [] with state := .destroying }) 5).state = .destroying
    ∧ (chan (setChan up 5 { chanWith [] with state := .destroying }) 5).abort = none
    ∧ (∀ r, r ∈ (setChan up 5 (chanWith [])).dense.runs → r.slot ≠ 5) := by decide +kernel

theorem test_meets_barrier : admitting (upWith 5 (wordOf 0x40 [])) 5 3 0x40 = some (cmd (wordOf 0x40 []))
    ∧ reservedOk (wordOf 0x40 [(15, 1)]) = true ∧ cVisible (wordOf 0x40 []) = false ∧ cVisible (wordOf 0x40 [(15, 1)]) = true
    ∧ writesSettled up 5 = true
    ∧ admitting (upWith 5 (wordOf 0x40 [(15, 1)])) 5 3 0x40 = some (cmd (wordOf 0x40 [(15, 1)])) := by decide +kernel

/-- A finished command whose completion entry is the last of the queue. -/
def finishing : State := setChan up 5 { chanWith [cmd (wordOf 0x40 []) (.done { status := .ok })] with
  dones := [3], cqTail := 15, cqHead := 4, reports := [(1, .capacity)] }

theorem test_meets_completion : nextDone (chan finishing 5) = some (cmd (wordOf 0x40 []) (.done { status := .ok }))
    ∧ cqRoom (chan finishing 5) = true ∧ (chan finishing 5).state = .active ∧ finishing.log.isFatal = false
    ∧ paging finishing 5 0 .cq = none ∧ (chan finishing 5).reports.length ≤ 1 ∧ isSearchOp (cOpcode (wordOf 0x40 [])) = false := by
  decide +kernel

/-- A search whose result is known and whose completion entry is written next. -/
def doneSearch : State := { setChan up 5 { chanWith [cmd (wordOf 0x01 []) (.done { status := .ok })] with dones := [3] } with
  queries := [{ tag := 327683, origin := .host 5 3, index := 2, epoch := 4, admitted := 900000, deadline := 2000000, origD := 2000000,
                params := { k := 10, cw := 64, hop := 512, pf := 2, rerank := 32, slack := 0 },
                filter := { op := 0, mask := 0, value := 0 }, qfmt := 1, phase := .done }] }

theorem test_meets_search_completion : nextDone (chan doneSearch 5) = some (cmd (wordOf 0x01 []) (.done { status := .ok }))
    ∧ isSearchOp (cOpcode (wordOf 0x01 [])) = true ∧ cqRoom (chan doneSearch 5) = true
    ∧ (queryOf doneSearch (hostTag 5 3)).any (fun q => q.phase == .done) = true := by decide +kernel

def coalescing : State := setChan up 5 { chanWith [] with coalSince := some 999000, coalPend := 1, coalWait := 1000 }

theorem test_meets_coalescing : (chan coalescing 5).coalSince = some 999000 ∧ (chan coalescing 5).coalPend ≠ 0
    ∧ 999000 + (chan coalescing 5).coalWait ≤ coalescing.time.tick
    ∧ bit (msixWord (port { coalescing with portA := { coalescing.portA with msix := [(3, 0)] } } .a) (4 * (chan coalescing 5).cfg.msix + 3)) 0 = false
    ∧ 1000000 < 999000 + 1001 := by decide +kernel

/-- GET_LOG of one entry. -/
theorem test_meets_get_log : admitting (upWith 0 (wordOf 0x87 [(320, 1), (192, 64)])) 0 3 0x87 = some (cmd (wordOf 0x87 [(320, 1), (192, 64)]))
    ∧ reservedOk (wordOf 0x87 [(320, 1), (192, 64)]) = true ∧ fld (wordOf 0x87 [(320, 1), (192, 64)]) 255 192 % 64 = 0
    ∧ gMax (wordOf 0x87 [(320, 1), (192, 64)]) ≠ 0 ∧ drives up = true := by decide +kernel

/-! ### Host memory and searches -/

/-- A SEARCH of index 2 whose result buffer's translation has been asked for. -/
def asked (x : Xlat) : State := setChan up 5 (chanWith [{ cmd (wordOf 0x01 [(40, 2)]) .running with xlat := x }])

theorem test_meets_translation : outCmd (asked .asked) 5 3 = some { cmd (wordOf 0x01 [(40, 2)]) .running with xlat := .asked }
    ∧ cOpcode (wordOf 0x01 [(40, 2)]) ≠ 0x87 ∧ paging (asked .asked) 5 3 .result = none
    ∧ (port { asked .asked with portA := { up.portA with priOn := true } } (portOf up 5)).priOn = true
    ∧ (chan (asked .asked) 5).state = .active ∧ paging (asked .asked) 5 0 .sq = none ∧ isAdmin up 5 = false := by decide +kernel

/-- One page request, at the last moment of PRI_TIMEOUT and one past it. -/
def pagingAt (since : Nat) : State := { asked .paging with
  pageReqs := [{ port := .a, slot := 5, seq := 3, acc := .result, sinces := [since], more := 0 }]
  time := { base := 60000000000, tick := 60000000000 } }

theorem test_meets_page_requests : outCmd (pagingAt 0) 5 3 = some { cmd (wordOf 0x01 [(40, 2)]) .running with xlat := .paging }
    ∧ isBufferOp (cOpcode (wordOf 0x01 [(40, 2)])) = false
    ∧ (pagingAt 0).time.tick ≤ (60000000000 - priTimeout up) + priTimeout (pagingAt 0)
    ∧ (60000000000 - priTimeout up - 1) + priTimeout (pagingAt 0) < (pagingAt 0).time.tick := by decide +kernel

theorem test_meets_invalidation : portOf (asked .present) 5 = .a
    ∧ (port { asked .present with portA := { up.portA with atsOn := true } } .a).atsOn = true
    ∧ outCmd (asked .present) 5 3 = some { cmd (wordOf 0x01 [(40, 2)]) .running with xlat := .present } := by decide +kernel

/-- A small index: one partition on stacks 0 and 1, one code version. -/
def ver0 : CodeVer := { num := 0, eOn := 1, scales := [], elems := [], biases := [], signs := [], distG := 0, distOff := 0,
                        groupW := [], sketchTable := [], mse := 0 }
def part0 : Part := { mask := 3, perStack := 16, quota := 4 }
def index0 : Index := { cfg := { format := .w, codeType := 0, metric := 0, partFn := 0, rrFmt := 1, rrDims := 64, kernel := 0,
                                 promoteBits := 4, vecDims := 64, owner := 0 },
                        parts := [part0], current := 4, lowWater := 2, vers := [ver0], proj := [] }
def withIndex0 (s : State) (x : Index := index0) : State := { s with indexes := [(2, x)] }

/-- A query of command 3 of channel 5, deadline 2 ms, cut reserved at 1.5 ms. -/
def query0 : Query := { tag := 327683, origin := .host 5 3, index := 2, epoch := 4, admitted := 900000, deadline := 2000000,
                        origD := 2000000, params := { k := 10, cw := 64, hop := 512, pf := 2, rerank := 32, slack := 0 },
                        filter := { op := 0, mask := 0, value := 0 }, qfmt := 1, cut := some 1500000 }
def searching (q : Query := query0) (x : Index := index0) : State :=
  { setChan (withIndex0 up x) 5 (chanWith [cmd (wordOf 0x01 [(40, 2), (48, 10), (72, 1)]) .running]) with queries := [q] }

theorem test_meets_buffer_reads : queryOf (searching) (hostTag 5 3) = some query0 ∧ query0.vectorFrom = true ∧ query0.qvec = none
    ∧ query0.home = none ∧ query0.phase ≠ .done ∧ query0.origin = .host 5 3 ∧ searching.dense.reqs = []
    ∧ outCmd searching 5 3 ≠ none ∧ bufLen searching (wordOf 0x01 [(40, 2), (48, 10), (72, 1)]) .query = some (64 * rrSize 1)
    ∧ paging searching 5 3 .query = none ∧ cOpcode (wordOf 0x10 [(40, 2)]) = 0x10
    ∧ outCmd (upWith 5 (wordOf 0x10 [(40, 2)]) .waiting) 5 3 = some (cmd (wordOf 0x10 [(40, 2)]) .waiting)
    ∧ (cmd (wordOf 0x10 [(40, 2)]) .waiting).bufs = [] ∧ paging up 5 3 .payload = none := by decide +kernel

/-- SEARCH and SEARCH_EXACT with the shortest deadline: 10 µs after T_a, and with a K of 1,024. -/
def searchWord (op deadline : Nat) (k : Nat := 1024) : CmdWord :=
  wordOf op [(40, 2), (48, k), (72, 1), (80, 0xFF), (128, 0xFFFF), (144, 0xFFFF), (192, deadline)]

theorem test_meets_search : indexAt (withIndex0 up) 2 = some index0
    ∧ queryOf (withIndex0 (upWith 5 (searchWord 0x01 1010000))) (hostTag 5 3) = none
    ∧ admitting (withIndex0 (upWith 5 (searchWord 0x01 1010000))) 5 3 0x01 = some (cmd (searchWord 0x01 1010000))
    ∧ searchCheck (withIndex0 (upWith 5 0)) 5 (searchWord 0x01 1010000) false (seenTime up 0) = none
    ∧ admitting (withIndex0 (upWith 5 (searchWord 0x02 1010000))) 5 3 0x02 = some (cmd (searchWord 0x02 1010000))
    ∧ searchCheck (withIndex0 (upWith 5 0)) 5 (searchWord 0x02 1010000) true (seenTime up 0) = none := by decide +kernel

/-- The checks of R79 where they meet: reserved bit, no index, K of 0 and 1,025, deadlines at T_a, 9,999 ns and 1 s + 1 ns ahead. -/
theorem test_meets_search_checks : reservedOk (searchWord 0x01 1010000 ||| 0x8000) = false
    ∧ seesIndex up 5 2 = false ∧ seesIndex (withIndex0 (upWith 5 0)) 5 2 = true ∧ sK (searchWord 0x01 0 0) < 1
    ∧ 1024 < sK (searchWord 0x01 0 1025) ∧ searchFieldsOk (withIndex0 up) index0 (searchWord 0x01 0) false = true
    ∧ index0.cfg.rrFmt ≠ 0 ∧ sDeadline (searchWord 0x01 1000000) ≤ seenTime up 0
    ∧ (seenTime up 0 < sDeadline (searchWord 0x01 1009999) ∧ sDeadline (searchWord 0x01 1009999) < seenTime up 0 + 10000)
    ∧ seenTime up 0 + 1000000000 < sDeadline (searchWord 0x01 1001000001)
    ∧ searchCheck (withIndex0 (upWith 5 0)) 5 (searchWord 0x01 1000000) false (seenTime up 0) = some .tooLate := by decide +kernel

/-- A search that can start on core 1; below level 64 it finds a token. -/
def starting : State := { searching { query0 with qvec := some [] } with
  dict := { up.dict with vals := [] } }

theorem test_meets_search_start : queryOf starting 327683 = some { query0 with qvec := some [] }
    ∧ startable starting { query0 with qvec := some [] } = true
    ∧ ((starting.queries.takeWhile (fun y => y.tag != 327683)).all (fun y => !(startable starting y))) = true
    ∧ seenTime starting 0 < 1500000 ∧ indexAt starting 2 = some index0
    ∧ (placeOn starting (((partAt index0 0).map (·.mask)).getD 0) (walkWidth query0) 1).isSome = true
    ∧ starting.power.tokens ≠ 0 := by decide +kernel

theorem test_meets_registration : queryOf (searching { query0 with phase := .started, encoded := true }) 327683
      = some { query0 with phase := .started, encoded := true }
    ∧ (∀ m, m ∈ indexStacks index0 → entriesOn (searching { query0 with phase := .started, encoded := true }) m < 7168
        ∧ loadBlocks (searching { query0 with phase := .started, encoded := true }) m (blocksOf_ query0) ≠ none)
    ∧ (searching).time.base ≤ 1500000
    ∧ query0.exact = none ∧ query0.cutDone = false
    ∧ { up.power with thr := { up.power.thr with meter := 63 }, tokens := 63 }.thr.meter < 64
    ∧ 2000 ≤ up.power.tokenPart + 63 * (up.time.tick - up.power.tokenFrom) ∧ up.power.tokenPart + 63 * 31 < 2000 := by decide +kernel

theorem test_meets_contexts : 1 ≤ effWidth query0.params ∧ effWidth { query0.params with k := 1024 } ≤ 1024
    ∧ (placeOn searching 3 16 1).isSome = true ∧ (2 ^ 32 - 1) < 2 ^ 32 := by decide +kernel

/-- A registered query whose second partition is to be placed, and whose first walk descends. -/
def walk0 : Walk := { part := 0, core := 1, ctx := 0, g := 1 }
def query1 : Query := { query0 with phase := .registered, home := some 1, walks := [walk0], unplaced := [1] }
def index2 : Index := { index0 with parts := [part0, part0] }

theorem test_meets_walks : queryOf (searching query1 index2) 327683 = some query1 ∧ indexAt (searching query1 index2) 2 = some index2
    ∧ (searching query1 index2).time.base ≤ 1500000 ∧ 1 ∈ query1.unplaced
    ∧ (placeOn (searching query1 index2) (((partAt index2 1).map (·.mask)).getD 0) (walkWidth query1) 1).isSome = true
    ∧ walkOf query1 0 = some walk0 ∧ walk0.stage = .placed ∧ walk0.issued = 0 ∧ partAt index2 0 = some part0
    ∧ 0 < query1.params.hop ∧ firstFret index2 part0 query1.opers = none
    ∧ descentFree (searching query1 index2) walk0.core = true
    ∧ (firstFret index2 { part0 with mirror := [{ slot := 7, layer := 1, codeVer := 0, entry := true, code := 0, nbr := [] }] }
        query1.opers).isSome = true
    ∧ (∀ q : Query, q = { query1 with walks := (List.range 9).map (fun n => { walk0 with part := n, ctx := n, descent := n != 0 }) } →
        (walkOf q 0).any (fun w => w.stage == .placed && !w.descent) = true ∧ descentFree (searching q index2) walk0.core = false) := by
  and_intros <;> first | (rintro _ rfl; decide +kernel) | decide +kernel

/-- A request of that walk at stack 0, and a response at it. -/
def req0 : ExpandReq := { tag := 327683, part := 0, expTag := 0, slot := 6, bound := 0xFFFFFFFF }
def answer0 : Response := { expTag := 0, slot := 6, eligible := false, followed := false, nodeKey := 0 }
def query2 : Query := { query1 with walks := [{ walk0 with stage := .walking, inbox := [answer0] }] }
def expanding : State := { searching query2 index2 with bridges := [(0, { reqs := [req0] })] }

theorem test_meets_expansion : (bridge expanding 0).reqs = [req0] ∧ queryOf expanding 327683 = some query2
    ∧ indexAt expanding 2 = some index2 ∧ partAt index2 0 = some part0
    ∧ walkOf query2 0 = some { walk0 with stage := .walking, inbox := [answer0] } ∧ look part0.poisoned 6 = none
    ∧ 327683 ∉ (bridge expanding 0).badTags ∧ [answer0][0]? = some answer0 ∧ query2.cut = some 1500000
    ∧ seenTime expanding 0 < 1500000 ∧ 1500000 < seenTime { expanding with time := { base := 1500001 } } 0 := by decide +kernel

def strum0 : Strum := { index := 2, opened := 0, members := [327683] }
def order0 : SweepOrder := { index := 2, members := [(327683, 32)] }

theorem test_meets_strums : indexAt (searching query1) 2 = some index0 ∧ 327683 ∈ strum0.members
    ∧ queryOf (searching query1) 327683 ≠ none ∧ strum0.opened + ctl up 0x50000C ≤ up.time.tick
    ∧ (bridge { searching query1 with bridges := [(0, { orders := [order0] })] } 0).orders = [order0]
    ∧ query1.phase ≠ .waiting ∧ query1.phase ≠ .started
    ∧ (bridge { searching query1 with bridges := [(0, { sweep := some { order := order0, tails := [] } })] } 0).sweep
        = some { order := order0, tails := [] } := by decide +kernel

/-- A SEARCH_EXACT with its context on stack 1; a search after its cut, at its last-accept times. -/
def exact0 : Query := { query1 with exact := some 0, walks := [{ walk0 with part := 1 }], unplaced := [] }
def stage0 : MergeStage := { expected := [.walk 0, .sweep 0] }
def query3 : Query := { query1 with cutDone := true, dies := [(0, stage0)] }
def cutAt (base : Nat) : State := { searching query3 with time := { base := base, tick := base } }

theorem test_meets_last_accept : queryOf (searching exact0) 327683 = some exact0 ∧ walkOf exact0 1 = some { walk0 with part := 1 }
    ∧ walk0.stage ≠ .ended ∧ partAt index0 0 = some part0 ∧ queryOf (cutAt 0) 327683 = some query3 ∧ query3.cutDone = true
    ∧ look query3.dies 0 = some stage0 ∧ stage0.forwarded = .no ∧ 1500000 + 2520 < seenTime (cutAt 1502521) 0
    ∧ seenTime (cutAt 1502520) 0 ≤ 1500000 + 2520 ∧ query3.phase ≠ .done ∧ query3.home = some 1 ∧ query3.hub.forwarded = .no
    ∧ 1500000 + 5620 < seenTime (cutAt 1505621) 0 ∧ query3.fabric = none ∧ seenTime (cutAt 1505620) 0 ≤ 1500000 + 5620
    ∧ exact0.phase = .registered ∧ exact0.cutDone = false ∧ (searching exact0).time.base ≤ 1500000
    ∧ outCmd (cutAt 0) 5 3 ≠ none := by decide +kernel

def list0 : MList := { kind := .code, entries := [{ key := 5, aux := 0, id := 77 }] }
def query4 : Query := { query3 with cutDone := false, transit := [{ dest := .die 0, src := .walk 0, list := list0 }] }

theorem test_meets_lists : queryOf (searching query4) 327683 = some query4
    ∧ query4.transit[0]? = some { dest := .die 0, src := .walk 0, list := list0 } ∧ look query4.dies 0 = some stage0
    ∧ .walk 0 ∉ stage0.delivered ∧ stage0.sealed = false ∧ seenTime (cutAt 1502520) 0 ≤ 1500000 + 2520
    ∧ 1500000 + 2520 < seenTime (cutAt 1502521) 0 ∧ queryOf up 327683 = none
    ∧ 327683 ∈ { up with strays := [327683] }.strays := by decide +kernel

/-- A waiting search at its deadline and at its cut time, a started one at its cut time, and one that reranks. -/
theorem test_meets_ends : queryOf (searching { query0 with cut := none }) 327683 = some { query0 with cut := none }
    ∧ query0.deadline ≤ seenTime (cutAt 2000000) 0 ∧ 1500000 ≤ seenTime (cutAt 1500000) 0 ∧ query0.cutDone = false
    ∧ query1.phase = .registered ∧ query1.exact = none
    ∧ queryOf (searching { query1 with phase := .reranking }) 327683 = some { query1 with phase := .reranking }
    ∧ (searching query1).time.base ≤ 1500000 ∧ indexAt (searching query1) query1.index = some index0
    ∧ heldReqs (searching { query1 with phase := .reranking }) (.rerank 327683) = false
    ∧ outCmd (searching query1) 5 3 ≠ none := by decide +kernel

/-- A search with a fabric node, at its last-accept time and one before. -/
theorem test_meets_fabric_end :
    (∀ f, f = ({ query3 with fabric := some { expected := [.local_, .child 7] } } : Query) →
      queryOf (searching f) 327683 = some f ∧ f.cutDone = true ∧ lastAccept f .fabric < seenTime (cutAt 1511021) 0
      ∧ seenTime (cutAt 1511020) 0 ≤ lastAccept f .fabric ∧ f.phase ≠ .done ∧ f.vectorFrom = true ∧ outCmd (searching f) 5 3 ≠ none) := by
  intro f h; subst h; decide +kernel

/-! ### A code-set image that passes every check of R170 -/

/-- CREATE_INDEX of one partition on stack 0, format C, 8-bit codes, one dimension, no rerank vectors; its table and its image:
one projection row for each element, everything 0 but the scales, the multiplier and the sketch keys. -/
def ciWord : CmdWord := wordOf 0x83 [(48, 1), (64, 1), (72, 2), (128, 1), (136, 1)]
def table0 : List Byte := leBytes 16 (1 + 1024 * 2 ^ 32 + 2 ^ 96)
def head0 : List Byte :=
  leBytes 64 (2 ^ 72 + 2 * 2 ^ 88 + 48 * 2 ^ 96 + 2 ^ 112 + 0x3F800000 * 2 ^ 128 + 0x2340 * 2 ^ 224 + 0x180 * 2 ^ 256 + 0x1C0 * 2 ^ 288
    + 0x340 * 2 ^ 320 + 0xB40 * 2 ^ 352)
  ++ (List.replicate 33 (leBytes 4 0x80000000)).flatten ++ List.replicate 188 0 ++ (List.replicate 3 (leBytes 4 0x3F800000)).flatten
def image0 : List Byte := head0 ++ List.replicate 8628 0

theorem head0_length : head0.length = 396 := by decide +kernel

theorem slice_front (a b : List Byte) (off n : Nat) (h : off + n ≤ a.length) : slice (a ++ b) off n = slice a off n := by
  rw [slice, slice, List.drop_append_of_le_length (by omega), List.take_append_of_le_length (by simp; omega)]

theorem slice_back (a : List Byte) (m off n : Nat) (h : a.length ≤ off) :
    slice (a ++ List.replicate m 0) off n = List.replicate (min n (m - (off - a.length))) 0 := by
  rw [slice, List.drop_append, List.drop_eq_nil_of_le h, List.nil_append, List.drop_replicate, List.take_replicate]

theorem leNat_zeros (n : Nat) : leNat (List.replicate n 0) = 0 := by
  induction n with
  | zero => rfl
  | succ n ih => rw [List.replicate_succ, leNat, ih]; rfl

theorem image0_num (off n : Nat) (h : off + n ≤ 396) : numAt image0 off n = numAt head0 off n :=
  congrArg leNat (slice_front _ _ _ _ (by rw [head0_length]; exact h))

theorem image0_back (off n : Nat) (h : 396 ≤ off) : slice image0 off n = List.replicate (min n (8628 - (off - head0.length))) 0 :=
  slice_back _ _ _ _ (by rw [head0_length]; exact h)

theorem image0_zero (off n : Nat) (h : 396 ≤ off) : numAt image0 off n = 0 := by
  rw [numAt, image0_back _ _ h, leNat_zeros]

theorem image0_zeros (a b : Nat) (h : 396 ≤ a) : zeroBytes image0 a b = true := by
  rw [zeroBytes, image0_back _ _ h]; simp

theorem image0_header : csHdr image0 = csHdr head0 := image0_num _ _ (by decide)

theorem test_meets_code_set : codeSetOk (ciCfg ciWord) true image0 = true := by
  have hs : csScale image0 = 0x180 := by rw [csScale, image0_header]; decide +kernel
  have he : csElem image0 = 0x1C0 := by rw [csElem, image0_header]; decide +kernel
  have hh : csHyper image0 = 0x340 := by rw [csHyper, image0_header]; decide +kernel
  have hp : csProj image0 = 0xB40 := by rw [csProj, image0_header]; decide +kernel
  have hb : csBytes image0 = 0x2340 := by rw [csBytes, image0_header]; decide +kernel
  have ce : codeElems (ciCfg ciWord) = 48 := by decide +kernel
  have cd : (ciCfg ciWord).vecDims = 1 := by decide +kernel
  have hc : hyperCount (ciCfg ciWord).format = 32 := by decide +kernel
  have elem : ∀ i, imgElemWord image0 i = 0 := fun i => by rw [imgElemWord, he]; exact image0_zero _ _ (by omega)
  have es : imgElems image0 48 = List.replicate 48 { offset := 0, zp := 0, const := false } := by
    simp only [imgElems, elem]; decide +kernel
  have sc : imgScales image0 48 = List.replicate 3 0x3F800000 := by
    simp only [imgScales, w32At, hs]
    rw [show List.range (48 / 16) = [0, 1, 2] from rfl]
    simp only [List.map_cons, List.map_nil, image0_num _ 4 (show 384 + 4 * 0 + 4 ≤ 396 by decide),
      image0_num _ 4 (show 384 + 4 * 1 + 4 ≤ 396 by decide), image0_num _ 4 (show 384 + 4 * 2 + 4 ≤ 396 by decide)]
    decide +kernel
  have bs : imgBiases image0 48 32 = List.replicate 32 0 := by
    have e : ∀ j, j ∈ List.range 32 → w32At image0 (imgHyper image0 48 j) = 0 := fun j _ => by
      rw [w32At, imgHyper, hh, image0_zero _ _ (by omega)]; rfl
    rw [imgBiases, List.map_congr_left e]; decide +kernel
  have rows : imgRows image0 48 1 = List.replicate 48 { scale := 0, elems := [0] } := by
    have e : ∀ j, j ∈ List.range 48 → ProjRow.mk (w32At image0 (imgRow image0 1 j)) (slice image0 (imgRow image0 1 j + 64) 1)
        = ProjRow.mk 0 [0] := by
      intro j hj
      have hj := List.mem_range.1 hj
      have st : imgRow image0 1 j = 0xB40 + j * 128 := by rw [imgRow, hp]; rfl
      rw [st, w32At, image0_zero _ _ (by omega), image0_back _ _ (by omega), head0_length,
        show min 1 (8628 - (0xB40 + j * 128 + 64 - 396)) = 1 by omega]
      rfl
    rw [imgRows, List.map_congr_left e]; decide +kernel
  have tb : imgTable image0 = imgTable head0 := by
    refine List.map_congr_left fun h hh => ?_
    rw [w32At, w32At, image0_num _ 4 (by have := List.mem_range.1 hh; omega)]
  have len : image0.length = 9024 := by rw [image0, List.length_append, head0_length, List.length_replicate]
  have front : zeroBytes image0 0x144 0x180 = true := by
    rw [zeroBytes, image0, slice_front _ _ _ _ (by rw [head0_length]; decide)]; decide +kernel
  have hy : ∀ j, 0x340 ≤ imgHyper image0 48 j := fun j => by rw [imgHyper, hh]; omega
  have rw_ : ∀ j, 0xB40 ≤ imgRow image0 1 j := fun j => by rw [imgRow, hp]; omega
  have sections : csSectionsOk (ciCfg ciWord) true image0 = true := by
    have z1 : ∀ j, zeroBytes image0 (imgHyper image0 48 j + 4 + 48 / 8) (imgHyper image0 48 (j + 1)) = true := fun j =>
      image0_zeros _ _ (by have := hy j; omega)
    have z2 : ∀ j, zeroBytes image0 (imgRow image0 1 j + 64 + 1) (imgRow image0 1 (j + 1)) = true := fun j =>
      image0_zeros _ _ (by have := rw_ j; omega)
    simp only [csSectionsOk, ce, cd, hc, hs, he, hh, hp, hb, len, front, z1, z2, image0_zeros _ _ (show 396 ≤ 384 + 4 * (48 / 16) by decide),
      image0_zeros _ _ (show 396 ≤ 448 + 8 * 48 by decide), image0_zeros _ _ (show 396 ≤ 832 + 32 * hyperStride 48 by decide)]
    decide +kernel
  have elems : csElemsOk (ciCfg ciWord) image0 = true := by
    simp only [csElemsOk, ce, es, sc]; decide +kernel
  have reserved : csReservedOk (ciCfg ciWord) true image0 = true := by
    have z3 : ∀ j, zeroBytes image0 (imgRow image0 1 j + 4) (imgRow image0 1 j + 64) = true := fun j =>
      image0_zeros _ _ (by have := rw_ j; omega)
    simp only [csReservedOk, ce, cd, elem, z3, image0_header]; decide +kernel
  have header : csHeaderOk (ciCfg ciWord) image0 = true := by
    simp only [csHeaderOk, csDims, csElems, image0_header, ce, cd]; decide +kernel
  simp only [codeSetOk, ce, cd, hc, sc, bs, rows, tb, image0_header, len, sections, elems, reserved, header]
  decide +kernel

/-! ### Writes, epochs, pins and indexes -/

/-- INSERT of an identifier into index 2, FP32 elements. -/
def insertWord (id : Nat := 77) (op : Nat := 0x10) : CmdWord := wordOf op [(40, 2), (48, 64), (64, 1), (192, id)]

theorem test_meets_null_identifier : wExtId (insertWord (2 ^ 64 - 1)) = nullId
    ∧ seesIndex (withIndex0 (upWith 5 (insertWord (2 ^ 64 - 1)))) 5 (cIndex (insertWord (2 ^ 64 - 1))) = true
    ∧ admitting (upWith 5 (insertWord (2 ^ 64 - 1))) 5 3 0x10 = some (cmd (insertWord (2 ^ 64 - 1)))
    ∧ admitting (upWith 5 (insertWord (2 ^ 64 - 1) 0x12)) 5 3 0x12 = some (cmd (insertWord (2 ^ 64 - 1) 0x12)) := by decide +kernel

theorem test_meets_write_checks : admitting (upWith 5 (insertWord)) 5 3 0x10 = some (cmd insertWord) ∧ reservedOk insertWord = true
    ∧ seesIndex (upWith 5 0) 5 (cIndex insertWord) = false ∧ seesIndex (withIndex0 (upWith 5 0)) 5 (cIndex insertWord) = true
    ∧ wDims insertWord ≠ 63 ∧ wExtId insertWord ≠ nullId ∧ cPartition insertWord = 0 ∧ wDims insertWord = index0.cfg.vecDims
    ∧ 1 ≤ wElemFmt insertWord ∧ wElemFmt insertWord ≤ 5 ∧ wPayload insertWord % 64 = 0
    ∧ admitting (upWith 5 (wordOf 0x11 [(40, 2), (192, 77)])) 5 3 0x11 = some (cmd (wordOf 0x11 [(40, 2), (192, 77)]))
    ∧ reservedOk (wordOf 0x11 [(40, 2), (192, 77)]) = true := by decide +kernel

/-- A write whose payload has been read, with an empty ring and with one entry left in the range-lock table. -/
def accepting (w : CmdWord) (bytes : List Byte) : State :=
  { withIndex0 (setChan up 5 (chanWith [{ cmd w .waiting with bufs := if cOpcode w = 0x11 then [] else [(.payload, some bytes)] }])) with
    rlocks := [] }

theorem test_meets_acceptance : outCmd (accepting insertWord []) 5 3 = some { cmd insertWord .waiting with bufs := [(.payload, some [])] }
    ∧ cOpcode insertWord = 0x10 ∧ (∀ b, b ∈ earlier (chan (accepting insertWord []) 5) 3 → isUnaccepted b = false)
    ∧ bufOf { cmd insertWord .waiting with bufs := [(.payload, some [])] } .payload = some (some [])
    ∧ seesIndex (accepting insertWord []) 5 2 = true ∧ indexAt (accepting insertWord []) 2 = some index0
    ∧ acceptCheck (accepting insertWord []) index0 insertWord [] = none ∧ rlockFree (accepting insertWord []) 5 ≠ 0
    ∧ ringPlace (accepting insertWord []) (ringOf up 2) (64 + roundUp 0 64) = some 0
    ∧ acceptCheck (accepting (wordOf 0x11 [(40, 2), (192, 77)]) []) index0 (wordOf 0x11 [(40, 2), (192, 77)]) [] = none
    ∧ cVisible (insertWord ||| 0x8000) = true := by decide +kernel

/-- An accepted write of identifier 77, and an index that holds an occupant of it. -/
def entry0 (w : CmdWord) : JEntry := { off := 0, len := 64, word := w, slot := 5, gen := 1, seq := 3, index := 2, epoch := 5, acceptTime := 0 }
def occupant : Rec := { extId := 77, commit := 3, state := 0x80, gen := 9 }
def occupied0 : Index := { index0 with parts := [{ part0 with recs := [(6, occupant)] }] }
def applying (w : CmdWord) (x : Index) : State :=
  { withIndex0 (setChan up 5 (chanWith [cmd w .running])) x with ring0 := { tail := 64, entries := [entry0 w] } }

theorem test_meets_delete : indexAt (applying (wordOf 0x11 [(40, 2), (192, 77)]) occupied0) 2 = some occupied0
    ∧ occupied0.dropping = none
    ∧ (entriesOf (applying (wordOf 0x11 [(40, 2), (192, 77)]) occupied0) 2).find? (fun e => e.state == 1)
        = some (entry0 (wordOf 0x11 [(40, 2), (192, 77)]))
    ∧ (0, 6) ∈ presentSlots occupied0 (wExtId (wordOf 0x11 [(40, 2), (192, 77)])) := by decide +kernel

theorem test_meets_insert : (entriesOf (applying insertWord index0) 2).find? (fun e => e.state == 1) = some (entry0 insertWord)
    ∧ partAt index0 (writePart index0 insertWord) = some part0 ∧ presentSlots index0 (wExtId insertWord) = []
    ∧ insertVer index0 5 = some ver0 ∧ canTake (applying insertWord index0) index0 part0 = true ∧ index0.waiting = false
    ∧ canTake up index0 { part0 with mask := 0 } = false ∧ sideRoom (applying insertWord index0) .w part0 0 = true ∧ slotFree part0 30 = true
    ∧ stackOfSlot part0 30 = 0 ∧ 0 ∈ stacksOf part0 ∧ presentSlots occupied0 (wExtId insertWord) ≠ []
    ∧ writeCmd (applying insertWord index0) (entry0 insertWord) = some (cmd insertWord .running) := by decide +kernel

/-- An open batch at its interval and one nanosecond before it; a closed batch that is applied and one that is not. -/
def batch0 (opened writes applied : Nat) : Batch := { epoch := 5, opened := opened, writes := writes, applied := applied }
def batching (b : Batch) (tick : Nat) : State :=
  { withIndex0 up { index0 with open_ := some b } with time := { base := tick, tick := tick } }

theorem test_meets_batch_close : (batch0 0 1 0).opened + ctl up 0x680001 ≤ (batching (batch0 0 1 0) (ctl up 0x680001)).time.tick
    ∧ ctl up 0x680002 ≤ (batch0 0 (ctl up 0x680002) 0).writes
    ∧ (batching (batch0 0 1 0) (ctl up 0x680001 - 1)).time.tick < (batch0 0 1 0).opened + ctl up 0x680001
    ∧ (batch0 0 1 0).writes < ctl up 0x680002 ∧ mergeNowWaits (batching (batch0 0 1 0) 0) 2 = false
    ∧ index0.luthier ≠ .quiet ∧ index0.dropping = none := by decide +kernel

def publishing (b : Batch) : State := { applying insertWord { index0 with closed := [b], lastPub := some 999000 } with
  ring0 := { tail := 64, entries := [{ entry0 (insertWord ||| 0x8000) with state := 2 }] } }

theorem test_meets_publication : indexAt (publishing (batch0 0 1 1)) 2 = some { index0 with closed := [batch0 0 1 1], lastPub := some 999000 }
    ∧ (batch0 0 1 1).writes ≤ (batch0 0 1 1).applied ∧ 999000 + 1000 ≤ (publishing (batch0 0 1 1)).time.tick
    ∧ mergeNowWaits (publishing (batch0 0 1 1)) 2 = false ∧ (batch0 0 1 0).applied < (batch0 0 1 0).writes
    ∧ (∀ e, e ∈ entriesOf (publishing (batch0 0 1 1)) 2 → e.epoch = 5 ∧ e.state = 2 ∧ cVisible e.word = true
        ∧ writeCmd (publishing (batch0 0 1 1)) e = some (cmd insertWord .running)) := by decide +kernel

/-- FETCH of identifiers 77 to 77 + 4,095, and of one that an earlier write of the channel holds. -/
def fetchWord (hi : Nat) : CmdWord := wordOf 0x03 [(40, 2), (192, 77), (256, hi)]
def heldFetch (stage : Stage) : State := setChan (withIndex0 up) 5 (chanWith [{ cmd insertWord .waiting with seq := 2 }, cmd (fetchWord 77) stage])

theorem test_meets_fetch_command : admitting (withIndex0 (upWith 5 (fetchWord 4172))) 5 3 0x03 = some (cmd (fetchWord 4172))
    ∧ fetchCheck (withIndex0 (upWith 5 (fetchWord 4172))) 5 (fetchWord 4172) = none
    ∧ fetchHeld (withIndex0 (upWith 5 (fetchWord 4172))) 5 (cmd (fetchWord 4172)) = false
    ∧ admitting (heldFetch .fetched) 5 3 0x03 = some (cmd (fetchWord 77)) ∧ fetchHeld (heldFetch .fetched) 5 (cmd (fetchWord 77)) = true
    ∧ outCmd (heldFetch .waiting) 5 3 = some (cmd (fetchWord 77) .waiting) ∧ seesIndex (heldFetch .waiting) 5 2 = true
    ∧ fetchHeld (withIndex0 (upWith 5 (fetchWord 77) .waiting)) 5 (cmd (fetchWord 77) .waiting) = false := by decide +kernel

def pin0 : PinSlot := { gen := 4095, live := true, index := 2, epoch := 3, since := 0 }
def pinWord : CmdWord := wordOf 0x42 [(160, 4095 * 2 ^ 20 + 2 * 2 ^ 12 + 9)]
def pinned : State := { withIndex0 up with pinSlots := [(9, pin0)], time := { tick := 5000000 }
                                           dict := { ready := true, vals := [(0x68000A * 65536, 5)] } }

theorem test_meets_pins : admitting (withIndex0 (upWith 5 (wordOf 0x41 [(40, 2)]))) 5 3 0x41 = some (cmd (wordOf 0x41 [(40, 2)]))
    ∧ reservedOk (wordOf 0x41 [(40, 2)]) = true ∧ (up.pinSlots.filter (fun p => p.2.live)).length < ctl up 0x68000B
    ∧ ctl up 0x68000B - 1 < ctl up 0x68000B
    ∧ ctl { pinned with dict := { ready := true, vals := [(0x68000B * 65536, 1)] } } 0x68000B ≤ (pinned.pinSlots.filter (fun p => p.2.live)).length
    ∧ admitting (upWith 5 pinWord) 5 3 0x42 = some (cmd pinWord) ∧ reservedOk pinWord = true
    ∧ pinOf pinned (fld pinWord 191 160) (bits (fld pinWord 191 160) 19 12) = some pin0
    ∧ pinOf up (fld pinWord 191 160) (bits (fld pinWord 191 160) 19 12) = none
    ∧ ctl pinned 0x68000A ≠ 0 ∧ pin0.since + ctl pinned 0x68000A * 1000000 ≤ pinned.time.tick
    ∧ 4999999 < pin0.since + ctl pinned 0x68000A * 1000000 := by decide +kernel

theorem test_meets_create_index : admitting (upWith 0 ciWord) 0 3 0x83 = some (cmd ciWord) ∧ reservedOk ciWord = true
    ∧ ciFieldsOk ciWord = true ∧ ciFieldsOk (wordOf 0x83 []) = false ∧ reservedOk (wordOf 0x83 []) = true
    ∧ outCmd (setChan up 0 (chanWith [{ cmd ciWord .waiting with bufs := [(.partTable, some table0)] }])) 0 3
        = some { cmd ciWord .waiting with bufs := [(.partTable, some table0)] }
    ∧ paging up 0 3 .codeset = none
    ∧ (match ciPlace up (ciCfg ciWord) table0 (ciParts ciWord) with | .ok _ => true | .error _ => false) = true
    ∧ freeIndex up = some 0 ∧ ciMetricOk up (ciCfg ciWord) = true := by decide +kernel

theorem test_meets_drop_index : admitting (withIndex0 (upWith 0 (wordOf 0x84 [(40, 2)]))) 0 3 0x84 = some (cmd (wordOf 0x84 [(40, 2)]))
    ∧ reservedOk (wordOf 0x84 [(40, 2)]) = true ∧ seesIndex (withIndex0 (upWith 0 (wordOf 0x84 [(40, 2)]))) 0 2 = true
    ∧ indexAt (withIndex0 up { index0 with dropping := some (0, 3) }) 2 = some { index0 with dropping := some (0, 3) }
    ∧ epochsHeld (withIndex0 (upWith 0 (wordOf 0x84 [(40, 2)]) .running)) 2 = [] ∧ epochsHeld searching 2 ≠ []
    ∧ outCmd (upWith 0 (wordOf 0x84 [(40, 2)]) .running) 0 3 = some (cmd (wordOf 0x84 [(40, 2)]) .running) := by decide +kernel

/-! ### CREATE_CHANNEL, the luthier and the retune -/

/-- CREATE_CHANNEL of queues of 2 entries on a port whose slots are free, and on one whose 15 slots are in use. -/
def createWord1 : CmdWord :=
  wordOf 0x80 [(48, 1), (64, 1), (144, 1), (160, 32768), (192, 0x1000), (256, 0x2000)]
def fullPort : State := { upWith 0 createWord1 with
  chans := (0, chanWith [cmd createWord1]) :: (List.range 15).map (fun n => (n + 1, chanWith []))
  pins := { up.pins with split := true }, dict := { ready := true, vals := [(0x400002 * 65536, 16)] } }

theorem test_meets_create_channel : admitting (upWith 0 createWord1) 0 3 0x80 = some (cmd createWord1) ∧ reservedOk createWord1 = true
    ∧ createFieldsOk (upWith 0 createWord1) .a createWord1 = true ∧ 1 ∈ portSlots (upWith 0 createWord1) .a
    ∧ (chan (upWith 0 createWord1) 1).state = .free ∧ (∀ m, m < 1 → (chan (upWith 0 createWord1) m).state ≠ .free)
    ∧ admitting fullPort 0 3 0x80 = some (cmd createWord1)
    ∧ (∀ n, n ∈ portSlots fullPort .a → (chan fullPort n).state ≠ .free) := by decide +kernel

/-- A chain of stack 0 with a committed entry at position 0, unmerged, merged with a published mark, and in a batch. -/
def side0 : SideEntry :=
  { pos := 0, slot := 6, extId := 77, filterTag := 0, commit := 3, state := 0x90, gen := 9, delete := noEpoch, codeVer := 0, code := 0 }
def chain0 : Chain := { entries := [side0], chunks := [(0, 1)], next := 1 }
def chained (c : Chain) : Index :=
  { index0 with parts := [{ part0 with recs := [(6, { occupant with state := 0x90 })], chains := [(0, c)] }] }

theorem test_meets_merge_now : ((withIndex0 (upWith 0 (wordOf 0x88 [(40, 2)])) (chained chain0)).chans.map Prod.fst).Nodup
    ∧ admitting (withIndex0 (upWith 0 (wordOf 0x88 [(40, 2)])) (chained chain0)) 0 3 0x88 = some (cmd (wordOf 0x88 [(40, 2)]))
    ∧ reservedOk (wordOf 0x88 [(40, 2)]) = true
    ∧ (committedTails (chained chain0)).all (targetMerged (chained chain0)) = false
    ∧ (committedTails (chained { chain0 with merged := 1, marks := [(1, 4)] })).all
        (targetMerged (chained { chain0 with merged := 1, marks := [(1, 4)] })) = true := by decide +kernel

def walkL (core : Option Nat) : LuthierWalk := { epoch := 4, core := core, ctx := 0, g := 1 }

theorem test_meets_merge_batches : partAt (chained chain0) 0 = some { part0 with recs := [(6, { occupant with state := 0x90 })], chains := [(0, chain0)] }
    ∧ chain0.walk = none ∧ (placeLuthier (withIndex0 up (chained chain0)) 3 (luthierWidth .w (ctl up 0x680004)) 1).isSome = true
    ∧ { chain0 with walk := some (walkL none) }.walk = some (walkL none) ∧ (walkL none).core = none ∧ (walkL (some 1)).core ≠ none
    ∧ epochsLeft (chained chain0) = true
    ∧ luthierMay (chained chain0) = true ∧ chain0.batch = none
    ∧ marksOf (chained { chain0 with marks := List.replicate 15 (0, 1) }) 0 0 { chain0 with marks := List.replicate 15 (0, 1) } < 16
    ∧ (batchEntries (chained chain0) chain0 (ctl up 0x680003)).getLast? = some side0
    ∧ { chain0 with batch := some 1 }.batch = some 1 ∧ (chained chain0).dropping = none := by decide +kernel

/-- A merged occupant that was deleted at epoch 4, and its scan. -/
def gone : Rec := { occupant with state := 0xC0, delete := 4 }
def part1 : Part := { part0 with recs := [(6, gone)], perStack := 16, deletedAt := [(6, 0)] }
def index1 : Index := { index0 with parts := [part1] }

theorem test_meets_repair : luthierMay index1 = true ∧ part1.scan = none ∧ scanDue (withIndex0 up index1) index1 part1 = true
    ∧ ({ part1 with scan := some { set := [(6, 9)] } } : Part).scan = some { set := [(6, 9)] } ∧ epochsLeft index1 = true
    ∧ look ({ part1 with repair := [(6, 2, 9)] } : Part).repair 6 = some (2, 9) ∧ gone.gen = 9 ∧ index1.luthier ≠ .quiet ∧ isLive gone = true
    ∧ recOf part1 6 = gone ∧ deletedBy gone index1.current = true ∧ 2 ≤ index1.lowWater ∧ 2 ≤ index1.current ∧ isInSide gone = false
    ∧ part1.mirror = []
    ∧ (([(1, 2), (1, 3)] : List (Nat × Nat)).filter (fun m => decide (m.2 ≤ index1.lowWater))).getLast? = some (1, 2) := by
  decide +kernel

theorem test_meets_low_water : indexAt searching 2 = some index0 ∧ 4 ∈ epochsHeld searching 2 := by decide +kernel

theorem test_meets_rebuild : look ({ part0 with poisoned := [(6, true)], recs := [(6, occupant)] } : Part).poisoned 6 = some true
    ∧ index0.cfg.rrFmt ≠ 0 ∧ luthierMay index0 = true ∧ verOf index0 occupant.codeVer = some ver0
    ∧ 6 ∉ part0.rerankBad ∧ isMerged { part0 with poisoned := [(6, true)], recs := [(6, occupant)] } 6 = true
    ∧ isLive occupant = true ∧ isMerged { part0 with poisoned := [(6, true)], recs := [(6, { occupant with state := 0x90 })] } 6 = false
    ∧ isLive { occupant with state := 0x90 } = true := by decide +kernel

/-- RETUNE_START of a sampled retune (MODE 0) and of a supplied one, with and without room in the work area. -/
def retuneWord (mode : Nat) : CmdWord := wordOf 0x89 [(40, 2), (48, mode)]
def retuning (w : CmdWord) (x : Index) (stage : Stage := .fetched) : State := withIndex0 (upWith 0 w stage) x
def inState (st : RetuneState) : Index := { index0 with retune := { state := st } }

theorem test_meets_retune_start : admitting (retuning (retuneWord 0) index0) 0 3 0x89 = some (cmd (retuneWord 0))
    ∧ reservedOk (retuneWord 0) = true ∧ seesIndex (retuning (retuneWord 0) index0) 0 2 = true ∧ rsMode (retuneWord 1) = 1
    ∧ reservedOk (retuneWord 1) = true ∧ retuneFree index0 = true ∧ retuneFits (retuning (retuneWord 0) index0) index0 true = true
    ∧ retuneFits { retuning (retuneWord 0) index0 with
        indexes := [(2, index0), (3, { index0 with retune := { space := 2 ^ 40 } })] } index0 true = false
    ∧ retuneFree (inState .fit) = false ∧ retuneFree { index0 with vers := [ver0, ver0] } = false := by decide +kernel

/-- RETUNE_COMMIT, without and with DISCARD. -/
def commitWord (discard : Bool) : CmdWord := wordOf 0x8A (if discard then [(40, 2), (12, 1)] else [(40, 2)])

theorem test_meets_retune_commit : admitting (retuning (commitWord false) (inState .ready)) 0 3 0x8A = some (cmd (commitWord false))
    ∧ reservedOk (commitWord false) = true ∧ cDiscard (commitWord false) = false ∧ cDiscard (commitWord true) = true
    ∧ reservedOk (commitWord true) = true ∧ (inState .idle).retune.state = .idle ∧ (inState .switched).retune.state = .switched
    ∧ (inState .ready).retune.switching = false ∧ (inState .armed).retune.state = .armed ∧ (inState .pass1).retune.state = .pass1
    ∧ (inState .sample).retune.state = .sample ∧ (inState .sample).closed = [] ∧ (inState .sample).retune.start = none
    ∧ seesIndex (retuning (commitWord true) (inState .sample)) 0 2 = true := by decide +kernel

theorem test_meets_retune_steps : (inState .sample).luthier ≠ .quiet
    ∧ 0 + ctl up 0x68000F * 1000000 ≤ { up.time with tick := 10000000000 }.tick ∧ up.time.tick < 0 + ctl up 0x68000F * 1000000
    ∧ occupants { occupied0 with retune := { state := .sample } } ≠ [] ∧ versionJoined (inState .fit) = false
    ∧ epochsLeft (inState .fit) = true
    ∧ (∀ r : Retune, r = { state := .fit, supplied := true, shadow := some ver0 } → r.supplied = true ∧ r.shadow = some ver0)
    ∧ { (inState .armed).retune with shadowEpoch := 2 }.shadowEpoch ≤ index0.lowWater
    ∧ index0.lowWater < { (inState .armed).retune with shadowEpoch := 3 }.shadowEpoch
    ∧ passElapsed up { inState .pass1 with retune := { state := .pass1, shadow := some ver0 } } = true
    ∧ { (inState .switched).retune with switchEpoch := 2 }.switchEpoch ≤ index0.lowWater
    ∧ index0.lowWater < { (inState .switched).retune with switchEpoch := 3 }.switchEpoch := by
  refine ⟨by decide, by decide +kernel, by decide +kernel, by decide +kernel, by decide, by decide, ?_, ?_⟩
  · rintro _ rfl; decide
  · decide +kernel

/-! ### Dense compute -/

/-- A tablature image of one line (HALT) and one stream (64 bytes of the tablature area) for core 0 of die 0. -/
def line0 (op target : Nat) : Nat := (op * 2 ^ 60 + target * 2 ^ 32 + 1) * 2 ^ 1984
def stream0 : Nat := 2 ^ 192 + 2 ^ 128 + 2 * 2 ^ 121 + 2 * 2 ^ 106
def tabImage (line : Nat) : List Byte :=
  leBytes 256 (0x7AB1 + 2 ^ 16 + 2 ^ 24 + 256 * 2 ^ 192 + 1664 * 2 ^ 224 + 1536 * 2 ^ 320 + 96 * 2 ^ 352)
  ++ leBytes 64 (768 * 2 ^ 32 + 2 ^ 64 + 1024 * 2 ^ 160 + 2 ^ 192) ++ List.replicate 448 0
  ++ leBytes 256 line ++ List.replicate 512 0
  ++ leBytes 64 (1 + 0x5A1B * 2 ^ 16 + 2 ^ 32) ++ leBytes 32 stream0 ++ List.replicate 32 0
/-- `up` with core 0 of die 0 in the tablature set; the reset set is empty. -/
def upCores : State := { up with dict := { up.dict with vals := [(0x720101 * 65536, 1)] } }
def loadWord : CmdWord := wordOf 0x85 [(256, 1664)]

theorem test_meets_load : admitting (upWith 0 loadWord) 0 3 0x85 = some (cmd loadWord) ∧ reservedOk loadWord = true
    ∧ aImageBytes loadWord = 1664 ∧ aImageBytes (wordOf 0x85 [(256, 2 ^ 32 - 64)]) ≤ 2 ^ 32 - 64
    ∧ (tabImage (line0 6 0)).length = 1664 ∧ imageOk (setChan upCores 0 (chanWith [cmd loadWord .waiting])) (tabImage (line0 6 0)) 1664 = true
    ∧ freeTab up = some 0 ∧ tabFits up (loadedTab (tabImage (line0 6 0))) = true ∧ paging up 0 3 .image = none := by decide +kernel

/-- That tablature with other lines and streams, loaded as number 0. -/
def tab0 (lines : List Nat) (streams : List StreamEnt := []) (flags : Nat := 7) : Tablature :=
  { maxTokens := 4, outFmt := 1, outDims := 64, flags := flags, dieMask := 1, actBytes := 4096,
    dies := [(0, { coreMask := 1, lines := lines })], streams := streams }
def withTab (s : State) (t : Tablature) : State := { s with dense := { s.dense with tabs := [(0, t)] } }
def denseWord (op : Nat) : CmdWord := wordOf op (if op = 0x20 ∨ op = 0x21 then [(288, 1)] else [])

theorem test_meets_dense_commands : admitting (withTab (upWith 5 (denseWord 0x30)) (tab0 [])) 5 3 0x30 = some (cmd (denseWord 0x30))
    ∧ denseCheck (withTab up (tab0 [])) (denseWord 0x30) = true ∧ denseCheck up (denseWord 0x30) = false
    ∧ admitting (upWith 5 (denseWord 0x31)) 5 3 0x31 = some (cmd (denseWord 0x31))
    ∧ denseCheck (withTab up (tab0 [])) (denseWord 0x31) = true ∧ denseCheck (withTab up (tab0 [] [] 5)) (denseWord 0x31) = false
    ∧ admitting (upWith 5 (denseWord 0x20)) 5 3 0x20 = some (cmd (denseWord 0x20))
    ∧ denseCheck (withTab up (tab0 [])) (denseWord 0x20) = true := by decide +kernel

/-- ENCODE_SEARCH into index 2: the template it holds is a SEARCH without a query address. -/
def encodeWord : CmdWord := wordOf 0x21 [(40, 2), (288, 1)]
def template0 : CmdWord := wordOf 0x01 [(40, 2), (48, 10), (72, 1), (80, 0xFF), (128, 0xFFFF), (144, 0xFFFF), (192, 2000000)]
def encoding (t : CmdWord) : State := withIndex0 (withTab (setChan up 5 (chanWith [{ cmd encodeWord with
  bufs := [(.template, some (leBytes 64 t.toNat))] }])) (tab0 []))

theorem test_meets_encode_search : admitting (encoding template0) 5 3 0x21
      = some { cmd encodeWord with bufs := [(.template, some (leBytes 64 template0.toNat))] }
    ∧ denseCheck (encoding template0) encodeWord = true
    ∧ templateCheck (encoding template0) 5 encodeWord (templateWord encodeWord (leBytes 64 template0.toNat)) (seenTime up 0) = none
    ∧ queryOf (encoding template0) (hostTag 5 3) = none
    ∧ templateCheck (encoding 0) 5 encodeWord (templateWord encodeWord (leBytes 64 0)) (seenTime up 0) = some .invalid := by
  decide +kernel

/-- A RUN that waits to start; its core in the tablature set and served, outside the set, and out of service. -/
def waitingRun (s : State) (t : Tablature) : State :=
  { withTab (setChan s 5 (chanWith [cmd (denseWord 0x30) .running])) t with dense := { tabs := [(0, t)], waiting := [(5, 3)] } }

theorem test_meets_dense_start : outCmd (waitingRun up (tab0 [line0 6 0])) 5 3 = some (cmd (denseWord 0x30) .running)
    ∧ (waitingRun up (tab0 [])).dense.waiting.head? = some (5, 3) ∧ runOf (waitingRun up (tab0 [])) 5 3 = none
    ∧ runOfDie (waitingRun up (tab0 [])) 0 = none
    ∧ (∀ d, d ∈ (tab0 []).dies → maskInSet upCores d.1 d.2.coreMask = true ∧ maskServed upCores d.1 d.2.coreMask = true
        ∧ reserveSum (tab0 []) d.1 ≤ streamPool up * 1048576)
    ∧ readWords (dArg (denseWord 0x30)) none ≠ none
    ∧ (∃ d, d ∈ (tab0 []).dies ∧ maskInSet up d.1 d.2.coreMask = false)
    ∧ (∃ d, d ∈ (tab0 []).dies ∧ maskServed { up with integ := { up.integ with dies := [{ map := [none] }] } } d.1 d.2.coreMask = false) := by
  decide +kernel

/-- A run on die 0, and what its sequencer holds. -/
def runWith (q : DieSeq) (word : CmdWord := denseWord 0x30) (seqs : Nat := 1) : Run :=
  { slot := 5, seq := 3, word := word, tab := 0, args := [], inDir := [], outDir := [], tokens := 0, seqs := seqs, dies := [(0, q)] }
def running_ (r : Run) (t : Tablature) : State :=
  { setChan up 5 (chanWith [cmd r.word .running]) with dense := { tabs := [(0, t)], runs := [r] } }
def twoLines : Tablature := tab0 [line0 1 1, line0 4 0, line0 6 0, line0 0 0]

theorem test_meets_line_issue : runOfDie (running_ (runWith {}) twoLines) 0 = some (runWith {})
    ∧ (∀ n, n < 4 → (((look (tabNo (running_ (runWith {}) twoLines) 0).dies 0).getD {}).lines[n]?).isSome = true)
    ∧ dieSeq (running_ (runWith { line := 3 }) twoLines) 0 = { line := 3 }
    ∧ holdElapsed (running_ (runWith {}) twoLines) 0 {} = true ∧ waitOver (running_ (runWith {}) twoLines) 0 {} = true
    ∧ lineFits {} (line0 1 1) = true ∧ (∀ k, k < 4 → stOp (lnStream (line0 1 1) k) = 0)
    ∧ ctOp (lnControl (line0 1 1)) = 1 ∧ ctOp (lnControl (line0 4 0)) = 4 ∧ ctOp (lnControl (line0 6 0)) = 6
    ∧ ctOp (lnControl (line0 0 0)) = 0
    ∧ lineFits { macros := [{ core := 0, unit := .f, op := 1, slot := 0, desc := 0, cnt := [] }] } (line0 0 0 + 2 ^ 18) = false := by
  decide +kernel

/-- Macro-operations of core 0: a product, one that accumulates on a tile of another mode, an epilogue, a transfer of 0 bytes. -/
def macro0 (u : ExecUnit) (op slot desc : Nat) (started : Option Nat := some 0) : Macro :=
  { core := 0, unit := u, op := op, slot := slot, desc := desc, cnt := [0, 0, 0, 0], started := started }
def onDie (m : Macro) : State := running_ (runWith { macros := [m] }) twoLines
def prodDesc : Nat := 2 ^ 252 + 16 * 2 ^ 155 + 2 ^ 148 + 2 ^ 135 + 2 ^ 131 + 2 ^ 127
def epiDesc : Nat := 2 * 2 ^ 252 + 128 * 2 ^ 95 + 7 * 2 ^ 91 + 2 ^ 75 + 2 ^ 71
def taggedCore : Core := { tiles := [(0, { mode := .subtract })] }

theorem test_meets_macros : macroOn (dieSeq (onDie (macro0 .f 1 0 prodDesc none)) 0) (macroCore 0 .f) .f = some (macro0 .f 1 0 prodDesc none)
    ∧ mayStart ((dieSeq (onDie (macro0 .f 1 0 prodDesc none)) 0).macros.takeWhile (fun e => !(e.core == macroCore 0 .f && e.unit == .f)))
        (dieSeq (onDie (macro0 .f 1 0 prodDesc none)) 0).macros (macro0 .f 1 0 prodDesc none) = true
    ∧ macroCycles (onDie (macro0 .f 1 0 prodDesc)) 0 (macro0 .f 1 0 prodDesc) ≤ dieCycles (onDie (macro0 .f 1 0 prodDesc)) 0 0
    ∧ (productDone (onDie (macro0 .f 1 0 prodDesc)) (runWith { macros := [macro0 .f 1 0 prodDesc] }) 0 (macro0 .f 1 0 prodDesc)).isSome = true
    ∧ macroCycles (onDie (macro0 .e 4 0 epiDesc)) 0 (macro0 .e 4 0 epiDesc) ≤ dieCycles (onDie (macro0 .e 4 0 epiDesc)) 0 0
    ∧ (epilogueDone (onDie (macro0 .e 4 0 epiDesc)) (runWith { macros := [macro0 .e 4 0 epiDesc] }) 0 (macro0 .e 4 0 epiDesc)).isSome = true
    ∧ macroCycles (onDie (macro0 .t 7 0 0)) 0 (macro0 .t 7 0 0) ≤ dieCycles (onDie (macro0 .t 7 0 0)) 0 0 ∧ tBytes 0 ≤ 0
    ∧ dieCycles (onDie (macro0 .f 1 0 prodDesc)) 0 (dieClock up 0) < macroCycles (onDie (macro0 .f 1 0 prodDesc)) 0 (macro0 .f 1 0 prodDesc)
    ∧ macroOn (dieSeq (onDie (macro0 .s 1 0 0)) 0) (macroCore 0 .s) .s = some (macro0 .s 1 0 0) ∧ rDest 0 = 0
    ∧ macroOn (dieSeq (onDie (macro0 .rowEngine 1 0 0)) 0) (macroCore 0 .rowEngine) .rowEngine = some (macro0 .rowEngine 1 0 0)
    ∧ 8 * reRows (macro0 .rowEngine 4 0 0).slot ≤ 2 ^ 20
    ∧ macroCycles (onDie (macro0 .s 1 0 0)) 0 (macro0 .s 1 0 0) ≤ dieCycles (onDie (macro0 .s 1 0 0)) 0 0
    ∧ (productDone { onDie (macro0 .f 1 (2 ^ 17) prodDesc) with dense := { (onDie (macro0 .f 1 (2 ^ 17) prodDesc)).dense with
          cores := [(0, taggedCore)] } }
        (runWith { macros := [macro0 .f 1 (2 ^ 17) prodDesc] }) 0 (macro0 .f 1 (2 ^ 17) prodDesc)).isNone = true := by decide +kernel

/-- Runs at a barrier, halted, and with a second sequence to go; the dies of two barriers. -/
def atBarrier (n : Nat) : DieSeq := { wait := .barrier n, any := true, hold := 0 }
def haltedDie : DieSeq := { wait := .halted, any := true }
def onTwo (a b : DieSeq) : State := running_ { runWith a with dies := [(0, a), (1, b)] } twoLines

theorem test_meets_barrier_release : runOf (running_ (runWith (atBarrier 3)) twoLines) 5 3 = some (runWith (atBarrier 3))
    ∧ (∀ d, d ∈ (runWith (atBarrier 3)).dies →
        arrivedAt (running_ (runWith (atBarrier 3)) twoLines) (tabNo (running_ (runWith (atBarrier 3)) twoLines) 0) d.1 d.2 = some 3
        ∧ hasHalted (running_ (runWith (atBarrier 3)) twoLines) d.1 d.2 = false)
    ∧ closingPass twoLines (runWith (atBarrier 3)) = none
    ∧ arrivedAt (onTwo (atBarrier 3) (atBarrier 4)) twoLines 0 (atBarrier 3) = some 3
    ∧ arrivedAt (onTwo (atBarrier 3) (atBarrier 4)) twoLines 1 (atBarrier 4) = some 4 := by decide +kernel

theorem test_meets_run_complete :
    (∀ d, d ∈ (runWith haltedDie).dies → hasHalted (running_ (runWith haltedDie) twoLines) d.1 d.2 = true
        ∧ drained (running_ (runWith haltedDie) twoLines) d.1 = true)
    ∧ (runWith haltedDie).rows = [] ∧ (runWith haltedDie).seqs ≤ (runWith haltedDie).seqNo + 1 ∧ cOpcode (runWith haltedDie).word ≠ 0x21
    ∧ outCmd (running_ (runWith haltedDie) twoLines) 5 3 ≠ none ∧ runInFlight (running_ (runWith haltedDie) twoLines) (runWith haltedDie) = false
    ∧ cOpcode (runWith haltedDie (denseWord 0x21)).word = 0x21 ∧ runStatus (runWith haltedDie (denseWord 0x21)) ≠ .pageFault
    ∧ runStatus { runWith haltedDie (denseWord 0x21) with fault := true } = .pageFault
    ∧ (∀ q : Query, q = { query0 with vectorFrom := false } → queryOf (searching q) (hostTag 5 3) = some q ∧ q.qvec = none)
    ∧ (∀ d, d ∈ (runWith haltedDie (denseWord 0x20) 2).dies →
        hasHalted (running_ (runWith haltedDie (denseWord 0x20) 2) twoLines) d.1 d.2 = true
        ∧ drained (running_ (runWith haltedDie (denseWord 0x20) 2) twoLines) d.1 = true)
    ∧ (runWith haltedDie (denseWord 0x20) 2).seqNo + 1 < (runWith haltedDie (denseWord 0x20) 2).seqs := by
  and_intros <;> first | (rintro _ rfl; decide +kernel) | decide +kernel

/-- Streams of die 0: 0 reads a block list, 1 reads the tablature area, 2 writes the activation space. -/
def streams0 : List StreamEnt :=
  [{ coreMask := 1, endpoint := 1, listSel := 1 }, { coreMask := 1, endpoint := 2, regionLen := 1, maxHeld := 2 },
   { coreMask := 1, endpoint := 3, dir := true, regionLen := 1, maxHeld := 2 }]
def credit0 : Credit := { order := 1, left := 1 }
def streaming : State := running_ (runWith { bursts := [0], streams := [(0, { credit := [credit0], listNext := 64 }), (1, { credit := [credit0] }),
    (2, { credit := [credit0], blocks := [{ no := 0, len := 64, filled := 64 }] })] }) (tab0 [] streams0)
def listHead (kind count : Nat) : Nat := kind + count * 2 ^ 160
def goodDesc : Nat := 64 * 2 ^ 83 + 2 ^ 62 + 2 ^ 50

theorem test_meets_descriptors : (runOfDie streaming 0).isSome = true ∧ isHost (streamEntry (takeQueues streaming 0) 0 0) = true
    ∧ 0 ∈ (dieSeq (takeQueues streaming 0) 0).bursts ∧ paging streaming 5 3 (.descriptors 0 0) = none
    ∧ (streamSt (dieSeq (takeQueues streaming 0) 0) 0).badFrom = none
    ∧ (streamSt (dieSeq (takeQueues streaming 0) 0) 0).cache = []
    ∧ (streamSt (dieSeq (takeQueues streaming 0) 0) 0).listLeft = 0
    ∧ (∀ h, h = numAt (leBytes 32 (listHead 0xB1C7 1) ++ leBytes 32 goodDesc) 0 32 →
        bits h 15 0 = 0xB1C7 ∧ bits h 191 160 = 1 ∧ bits h 159 16 = 0)
    ∧ descGood (streamEntry (takeQueues streaming 0) 0 0) (numAt (leBytes 32 (listHead 0xB1C7 1) ++ leBytes 32 goodDesc) 32 32) = true
    ∧ bits (listHead 0xB1C8 1) 15 0 ≠ 0xB1C7 ∧ bits (listHead 0xB1C7 0) 191 160 = 0 := by
  and_intros <;> first | (rintro _ rfl; decide +kernel) | decide +kernel

/-- The same with a bucket in debt, and with 1 byte in it and a block of five requests; output blocks that wait for an earlier one; a bad
block. -/
def indebted : State := running_ (runWith { rate := 1, bucket := -64, streams := [(1, { credit := [credit0] }),
    (2, { credit := [credit0], blocks := [{ no := 0, len := 64, filled := 64 }] })] }) (tab0 [] streams0)
def wide0 : List StreamEnt := streams0.map (fun e => { e with regionLen := 40 })
def partly : State := running_ (runWith { rate := 1, bucket := 1, burst := 1, refilled := 1000000, streams := [(1, { credit := [credit0] })] })
  (tab0 [] wide0)
def fullBlock : Block := { no := 0, len := 2560, filled := 2560 }
def partlyOut : State := running_ (runWith { rate := 1, bucket := 1, burst := 1, refilled := 1000000,
                                             streams := [(2, { credit := [credit0], blocks := [fullBlock] })] }) (tab0 [] wide0)
def later : StreamSt := { credit := [{ order := 1, left := 2 }], blocks := [{ no := 1, len := 64, filled := 64 }] }
def outOfOrder : State := running_ (runWith { streams := [(2, later)] }) (tab0 [] (streams0.map (fun e => { e with regionLen := 65 })))
def badBlock : StreamSt := { credit := [credit0], badFrom := some 0, blocks := [{ no := 0, len := 64, filled := 64 }] }
def badOut : State := running_ (runWith { streams := [(2, badBlock)] }) (tab0 [] streams0)

theorem test_meets_blocks : (∀ s1, s1 = catchUp streaming 0 →
      (nth (tabNo s1 0).streams 1 {}).dir = false ∧ (nth (tabNo s1 0).streams 1 {}).endpoint ≠ 5
      ∧ (inputReady s1 0 1).isSome = true ∧ streamHeld s1 (runWith {}) 0 1 = false ∧ partReqs s1 (.stream 0 1) = false
      ∧ (nth (tabNo s1 0).streams 2 {}).dir = true
      ∧ outputReady s1 0 2 = some (credit0, 64, { no := 0, len := 64, filled := 64 }) ∧ streamHeld s1 (runWith {}) 0 2 = false
      ∧ partReqs s1 (.stream 0 2) = false ∧ (streamSt (dieSeq s1 0) 2).early = [] ∧ (dieSeq s1 0).macros = []
      ∧ isBad (streamSt (dieSeq s1 0) 2) 0 = false ∧ inputReady s1 0 0 = none)
    ∧ (∀ s1, s1 = catchUp (running_ (runWith {}) (tab0 [] streams0)) 0 → outputReady s1 0 2 = none)
    ∧ (∀ s1, s1 = catchUp { indebted with time := { tick := 0 } } 0 →
      (inputReady s1 0 1).isSome = true ∧ streamHeld s1 (runWith {}) 0 1 = true
      ∧ (outputReady s1 0 2).isSome = true ∧ streamHeld s1 (runWith {}) 0 2 = true)
    ∧ (∀ s1, s1 = catchUp partly 0 →
      (inputReady s1 0 1).isSome = true ∧ streamHeld s1 (runWith {}) 0 1 = false ∧ partReqs s1 (.stream 0 1) = true)
    ∧ (∀ s1, s1 = catchUp partlyOut 0 →
      (outputReady s1 0 2).isSome = true ∧ streamHeld s1 (runWith {}) 0 2 = false ∧ partReqs s1 (.stream 0 2) = true)
    ∧ (∀ s1, s1 = catchUp badOut 0 → (outputReady s1 0 2).isSome = true ∧ streamHeld s1 (runWith {}) 0 2 = false
      ∧ partReqs s1 (.stream 0 2) = false ∧ isBad (streamSt (dieSeq s1 0) 2) 0 = true)
    ∧ (∀ s1, s1 = catchUp outOfOrder 0 → (outputReady s1 0 2).map (fun x => x.2.2.no) = some 1 ∧ streamHeld s1 (runWith {}) 0 2 = false
      ∧ partReqs s1 (.stream 0 2) = false ∧ (streamSt (dieSeq s1 0) 2).fetchNo = 0 ∧ (streamSt (dieSeq s1 0) 2).early = []) := by
  refine ⟨?_, ?_, ?_, ?_, ?_, ?_, ?_⟩ <;> · rintro _ rfl; decide +kernel

/-- R322: the bucket's 1 byte lets one request of 512 bytes issue, and no further one. -/
theorem test_bucket_issues_one : (catchUp partly 0).dense.reqs.map (fun r => (r.out, r.todo)) = [(1, [(4, 512)])]
    ∧ (dieSeq (catchUp partly 0) 0).bucket = -511 := by decide +kernel

theorem test_meets_run_ends : runOfDie (running_ (runWith {}) twoLines) 0 = some (runWith {})
    ∧ stalled { running_ (runWith {}) twoLines with time := { tick := 10 ^ 12 } } (runWith {}) 0 = true
    ∧ stalled (running_ (runWith { progress := 1000000 }) twoLines) (runWith { progress := 1000000 }) 0 = false
    ∧ (runWith {}).ending = none ∧ 4 ∈ [4, 5, 6]
    ∧ ({ runWith {} with ending := some .invalid } : Run).ending = some .invalid ∧ (runWith {}).reported = true
    ∧ (runWith {}).fault = false ∧ (chan (running_ (runWith {}) twoLines) 5).state = .active
    ∧ outCmd (running_ (runWith {}) twoLines) 5 3 ≠ none := by decide +kernel

/-! ### The object dictionary -/

/-- A request of one item: READ, DESCRIBE, WRITE, SEG_READ or SEG_WRITE of an entry (index·256 + subindex). -/
def reqWord (op : Nat) (items : Nat := 1) : List Byte := leBytes 16 (0x4144 + 2 ^ 16 + op * 2 ^ 24 + 7 * 2 ^ 32 + items * 2 ^ 64)
def itemWord (key extra : Nat) (n : Nat) : List Byte := leBytes n (key / 256 + (key % 256) * 2 ^ 16 + extra)
def request (op : Nat) : List Byte :=
  reqWord op ++ (match op with
    | 2 => itemWord 0x101003 (4 * 2 ^ 24 + 4 * 2 ^ 32) 8 ++ leBytes 4 600
    | 4 => itemWord 0x502101 (2 ^ 64) 12
    | 5 => itemWord 0x502101 (0x0B * 2 ^ 24 + 2 ^ 32) 12 ++ [0, 0, 0, 0]
    | _ => itemWord 0x101003 0 4)
def boxed (bs : List Byte) : State := setPort up .a { up.portA with
  mb := { busy := true, taken := bs.length, req := writeBytes {} 0 bs } }

theorem test_meets_mailbox_messages : ∀ op, op ∈ [1, 2, 3, 4, 5] → messageAt (boxed (request op)) (.mailbox .a) = some (request op)
    ∧ malformed (.mailbox .a) (request op) = false ∧ mOp (msgHeader (request op)) = op
    ∧ msgStatus (boxed (request op)) 16384 (request op) = 0
    ∧ (runMessage (usePath (boxed (request op)) (portNo .a)) (portNo .a) 16384 (request op)).1.dict.restart = none := by decide +kernel

/-- A peer whose path 2 is open, with a kept response to REQ_ID 7 and without. -/
def peer0 : Peer := { addr := 1, udp := 2 }
def opened (replies : List (Nat × List Byte)) : State :=
  { up with dict := { up.dict with paths := [{}, {}, { peer := some peer0, replies := replies, lastUse := 1000000 }] ++ List.replicate 15 {} } }

theorem test_meets_datagrams : mgmtUp (opened []) = true ∧ ctl (opened []) 0x103001 ≠ 0
    ∧ openPath (opened []) peer0 = (usePath (releaseIdle (opened [])) 2, 2)
    ∧ openPath (opened [(7, [1])]) peer0 = (usePath (releaseIdle (opened [(7, [1])])) 2, 2)
    ∧ (pathOf (usePath (releaseIdle (opened [(7, [1])])) 2) 2).replies.find? (fun r => r.1 == mReqId (msgHeader (request 1))) = some (7, [1])
    ∧ (∀ op, op ∈ [1, 2, 3, 4, 5] → malformed (.datagram peer0 false true (request op)) (request op) = false
      ∧ (pathOf (usePath (releaseIdle (opened [])) 2) 2).replies.find? (fun r => r.1 == mReqId (msgHeader (request op))) = none
      ∧ (runMessage (usePath (releaseIdle (opened [])) 2) 2 1232 (request op)).1.dict.restart = none) := by decide +kernel

theorem test_meets_malformed : mgmtUp up = true ∧ ctl up 0x103001 = 1 ∧ messageAt (boxed (leBytes 16 0x4145)) (.mailbox .a) = some (leBytes 16 0x4145)
    ∧ mMagic (msgHeader (leBytes 16 0x4145)) ≠ 0x4144 := by decide +kernel

/-- The checks of R362: LOG_NEXT_SEQ is read-only, LOG_ACK not; an E entry locked and unlocked; a host path without WRITE_FROM_HOST. -/
def unlocked (s : State := up) : State := { s with dict := { s.dict with paths := List.replicate 18 { unlock := some 1000000 } } }
def noHostWrites : State := { up with dict := { up.dict with vals := [(0xA00022 * 65536, 0)] } }

theorem test_meets_item_checks : entryAt 0x100000 = none ∧ (entryAt 0x101001).any (fun e => e.acc == 2) = true
    ∧ (entryAt 0x900001).any (fun e => e.acc == 0) = true ∧ (0x101003 ≠ 0xA00031)
    ∧ (entryAt 0x900004).any (fun e => e.acc == 1 && denied noHostWrites 0 e && !(denied up 2 e) && !(denied up 0 e)
        && !e.expert && !e.sel) = true
    ∧ (entryAt 0x50000C).any (fun e => e.expert && !e.sel && e.acc == 1 && !(denied up 2 e) && e.typ == 4) = true
    ∧ (pathOf up 2).unlock = none ∧ (pathOf unlocked 2).unlock ≠ none ∧ ctl noHostWrites 0xA00022 = 0
    ∧ (pathOf up 2).peer = none := by decide +kernel

theorem writeOk_of {s : State} {path key v : Nat} (h : (s.dict.ready && s.dict.restart.isNone && decide (path < s.dict.paths.length)
    && (entryAt key).any (fun e => writeStatus (dropStage (usePath s path) path) path [] e.typ e.len v key == stOk)) = true) :
    WriteOk s path key v := by
  simp only [Bool.and_eq_true, decide_eq_true_eq, Option.isNone_iff_eq_none, Option.any_eq_true, beq_iff_eq] at h
  obtain ⟨⟨⟨h1, h2⟩, h3⟩, e, h4, h5⟩ := h
  exact ⟨h1, h2, h3, e, h4, h5⟩

/-- Writes that pass every check. -/
theorem test_meets_writes : WriteOk up 2 0x101001 0 ∧ WriteOk up 2 0x101001 1953527909 ∧ WriteOk up 2 0x102001 1702257011
    ∧ WriteOk unlocked 2 0x102004 1818649956 ∧ WriteOk up 0 0x900004 0 :=
  ⟨writeOk_of (by decide +kernel), writeOk_of (by decide +kernel),
    writeOk_of (by decide +kernel), writeOk_of (by decide +kernel),
    writeOk_of (by decide +kernel)⟩

theorem test_meets_core_part : WriteOk unlocked 2 0x720101 1 ∧ WriteOk unlocked 17 0x720108 (2 ^ 64 - 1) :=
  ⟨writeOk_of (by decide +kernel), writeOk_of (by decide +kernel)⟩

/-- Writes that fail a check: LOG_ACK past LOG_NEXT_SEQ, wrong values, a DBG_CLOSE without a debug session. -/
theorem test_meets_refused_writes : up.dict.restart = none ∧ State.reset.dict.ready = false
    ∧ (∀ key, key ∈ [0x900004, 0x102001, 0x200008, 0xA00036] → (entryAt key).any (fun e =>
        writeStatus (dropStage (usePath up 2) 2) 2 [] e.typ e.len 1 key != stOk) = true) := by decide +kernel

/-- A statistics slot is selected; a tablature is loaded; a kernel block of one element instruction. -/
def partState : State := unlocked { up with dense := { up.dense with tabs := [(63, {})], stats := [(0, {})] } }

theorem test_meets_part_writes : WriteOk (unlocked) 2 0x910002 0 ∧ (entryAt 0x910002).any (·.clears) = true ∧ WriteOk partState 2 0x701107 1
    ∧ WriteOk partState 2 0x720003 63 ∧ WriteOk unlocked 2 0x502101 (leNat (leBytes 256 (2 ^ 1304))) ∧ WriteOk unlocked 2 0xB00004 1852140643 :=
  ⟨writeOk_of (by decide +kernel), by decide +kernel, writeOk_of (by decide +kernel),
    writeOk_of (by decide +kernel), writeOk_of (by decide +kernel),
    writeOk_of (by decide +kernel)⟩

theorem test_meets_objects : (entryAt 0x701107).any (fun e => objOf (dropStage (usePath partState 2) 2) 2 [] e == some 0) = true
    ∧ (entryAt 0x502101).any (fun e => objOf (dropStage (usePath unlocked 2) 2) 2 [] e == some 1) = true := by decide +kernel

theorem test_meets_path_timers : { up.dict with saving := some [(1, 2)] }.saving = some [(1, 2)] ∧ 17 < up.dict.paths.length
    ∧ (pathOf unlocked 17).unlock = some 1000000
    ∧ 1000000 + ctl unlocked 0x101003 * 1000000000 ≤ 1000000 + ctl unlocked 0x101003 * 1000000000
    ∧ (unlocked).time.tick < 1000000 + ctl unlocked 0x101003 * 1000000000 ∧ (pathOf (opened []) 2).peer ≠ none
    ∧ (pathOf (opened []) 2).lastUse + ctl (opened []) 0x103007 * 1000000000
        ≤ { opened [] with time := { tick := 10 ^ 15 } }.time.tick
    ∧ (opened []).time.tick < (pathOf (opened []) 2).lastUse + ctl (opened []) 0x103007 * 1000000000
    ∧ up.pins.aux = true ∧ up.pins.sampled = true ∧ up.tap.pinsTaken = false ∧ up.dict.dupAddr = false
    ∧ { up.dict with dupAddr := true }.dupAddr = true ∧ unspecified ≠ linkLocal up ∧ allNodes ≠ unspecified := by decide +kernel

/-! ### Faults of the hardware, security and field debug -/

def sound0 : DieCores := {}

theorem test_meets_parity : physOf up 511 = some 63 ∧ up.integ.dies[511 / 64]? = some sound0 ∧ 63 < sound0.score.length
    ∧ nth sound0.score 63 0 + 1 < ctl up 0xB00001 ∧ nth sound0.score 63 0 < 0xFFFF
    ∧ look part0.poisoned 6 = none ∧ indexAt (withIndex0 up) 2 = some index0 ∧ partAt index0 0 = some part0 := by decide +kernel

/-- The last core of the last die is fenced: with both spares free, and with none. -/
def noSpares : DieCores := { phys := List.replicate 66 .active }
def unlocked7 (s : State) : State := { s with dict := { s.dict with paths := List.replicate 18 { unlock := some 1000000 } } }
def spareless : State := unlocked7 { up with integ := { up.integ with dies := List.replicate 8 noSpares } }

theorem test_meets_fence : WriteOk (unlocked7 up) 2 0xB00003 511 ∧ WriteOk spareless 2 0xB00003 511 :=
  ⟨writeOk_of (by decide +kernel), writeOk_of (by decide +kernel)⟩

theorem test_meets_fenced_cores : up.queries = [] ∧ up.dense.runs = [] ∧ physOf up 511 = some 63
    ∧ 63 < sound0.phys.length ∧ 511 % 64 < sound0.map.length ∧ freeSpare sound0 = some 64
    ∧ physOf spareless 511 = some 63 ∧ spareless.integ.dies[511 / 64]? = some noSpares ∧ freeSpare noSpares = none
    ∧ up.integ.lastDecay + ctl up 0xB00002 * 1000000 ≤ { up.time with tick := 10 ^ 15 }.tick
    ∧ up.time.tick < up.integ.lastDecay + ctl up 0xB00002 * 1000000
    ∧ ({ reload := true } : DieCores).reload = true ∧ running up = true := by decide +kernel

def expandingAt (tick : Nat) : State := { expanding with time := { tick := tick } }

theorem test_meets_req_timeout : expanding.bridges = [(0, { reqs := [req0] })]
    ∧ expanding.bridges.find? (fun b => (b.2.reqs ++ b.2.lost).any (RunOut (expandingAt (10 ^ 10)) 327683 0 0)) = some (0, { reqs := [req0] })
    ∧ ([req0] ++ []).find? (RunOut (expandingAt (10 ^ 10)) 327683 0 0) = some req0 ∧ RunOut (expandingAt 0) 327683 0 0 req0 = false
    ∧ (∀ c, c ∈ expanding.bridges → c.2.reqs.length < 4096) ∧ queryOf expanding req0.tag = some query2
    ∧ walkOf query2 req0.part = some { walk0 with stage := .walking, inbox := [answer0] } := by decide +kernel

theorem test_meets_firmware : WriteOk (unlocked7 up) 2 0xA00005 (leNat [1]) ∧ WriteOk (unlocked7 up) 2 0xA00006 1953066339
    ∧ { up.sec with committing := true }.committing = true ∧ slotPasses up { valid := true, version := 2, sec := 64 } = true
    ∧ slotPasses up { valid := true, version := 2, sec := 65 } = false :=
  ⟨writeOk_of (by decide +kernel), writeOk_of (by decide +kernel), rfl, by decide, by decide⟩

theorem test_meets_quotes : WriteOk up 2 0xA00010 (leNat [1])
    ∧ { up.sec with nonce := some [1], identity := some .derived }.nonce = some [1] ∧ up.sec.nonce = none ∧ up.sec.dbg ≠ .erasing :=
  ⟨writeOk_of (by decide +kernel), rfl, rfl, by decide⟩

/-- A challenge that was issued at tick 0 lapses at 600 s. -/
def challenged (tick : Nat) : State := { up with sec := { up.sec with challenge := some (0, 0) }, time := { up.time with tick := tick } }

theorem test_meets_challenges : readStatus up 2 [] 0xA00031 = stOk ∧ up.dict.ready = true ∧ (List.replicate 32 (0 : Byte)).length = 32
    ∧ (challenged 599999999999).time.tick < 0 + ctl up 0xA00032 * 1000000000
    ∧ 0 + ctl up 0xA00032 * 1000000000 ≤ (challenged 600000000000).time.tick := by decide +kernel

theorem leNat_append (a b : List Byte) : leNat (a ++ b) = leNat a + 256 ^ a.length * leNat b := by
  induction a with
  | nil => simp [leNat]
  | cons x r ih => simp only [List.cons_append, leNat, ih, List.length_cons, Nat.pow_succ]; rw [Nat.mul_add, ← Nat.add_assoc]; congr 1; rw [← Nat.mul_assoc, Nat.mul_comm 256]

theorem leNat_lt (a : List Byte) : leNat a < 256 ^ a.length := by
  induction a with
  | nil => simp [leNat]
  | cons x r ih => simp only [leNat, List.length_cons, Nat.pow_succ]; have := x.isLt; omega

/-- A token of this module's serial number for a challenge of zeros, and one of another scope. -/
def token0 : List Byte := leBytes 8 (0x4454 + 2 ^ 16 + 2 ^ 24) ++ (serialBytes ++ List.replicate 228 0)

theorem token0_value : leNat token0 = 0x1014454 + 2 ^ 64 * leNat serialBytes := by
  rw [token0, leNat_append, leNat_append, show leNat (List.replicate 228 (0 : Byte)) = 0 by decide +kernel,
    show leNat (leBytes 8 (0x4454 + 2 ^ 16 + 2 ^ 24)) = 0x1014454 by decide +kernel]
  rfl

theorem serial_lt : leNat serialBytes < 2 ^ 160 := by
  have h : serialBytes.length = 20 := by rw [serialBytes, List.length_take]; simp
  have := leNat_lt serialBytes
  rw [h] at this; exact this

theorem test_meets_token_passes : tokenCheck (dropStage (usePath (challenged 1000000) 2) 2) (leNat token0) true = none := by
  have hs := serial_lt
  have form : tokenForm (leNat token0) = true := by
    rw [token0_value, tokenForm]; simp only [bits, Nat.shiftRight_eq_div_pow, Bool.and_eq_true, beq_iff_eq]; omega
  have serial : bits (leNat token0) 223 64 = leNat serialBytes := by
    rw [token0_value, bits, Nat.shiftRight_eq_div_pow]; omega
  have chal : bits (leNat token0) 479 224 = 0 := by
    rw [token0_value, bits, Nat.shiftRight_eq_div_pow]; omega
  simp only [tokenCheck, form, serial, chal, ne_eq, not_true_eq_false, if_false]
  decide +kernel

theorem test_meets_token_fails : tokenCheck (dropStage (usePath (challenged 1000000) 2) 2) 0x4454 true = some 3
    ∧ tokenCheck (dropStage (usePath State.reset 2) 2) 0 true = some 1 := by decide +kernel

theorem test_meets_token_write : WriteOk (challenged 1000000) 2 0xA00033 (leNat token0)
    ∧ WriteOk (challenged 1000000) 2 0xA00033 (leNat [0x54, 0x44]) := by
  refine ⟨?_, writeOk_of (by decide +kernel)⟩
  have lt : leNat token0 < 2 ^ 2048 := by have := serial_lt; rw [token0_value]; omega
  have ent : entryAt 0xA00033 = some { key := 0xA00033, name := "DBG_TOKEN", typ := 11, len := 256, acc := 2 } := by decide +kernel
  refine ⟨rfl, rfl, by decide, _, ent, ?_⟩
  have range : inItsRange (dropStage (usePath (challenged 1000000) 2) 2)
      { key := 0xA00033, name := "DBG_TOKEN", typ := 11, len := 256, acc := 2 } (leNat token0) = true := by
    simp [inItsRange, valueOk, typeOk, rangeOk, lt]
  have further : furtherFails (dropStage (usePath (challenged 1000000) 2) 2)
      { key := 0xA00033, name := "DBG_TOKEN", typ := 11, len := 256, acc := 2 } 0 (leNat token0) = false := by rfl
  have obj : objOf (dropStage (usePath (challenged 1000000) 2) 2) 2 []
      { key := 0xA00033, name := "DBG_TOKEN", typ := 11, len := 256, acc := 2 } = some 0 := by rfl
  simp only [writeStatus, ent, obj, range, further]
  decide +kernel

theorem test_meets_erasure : { up.sec with dbg := .erasing }.dbg = .erasing ∧ up.sec.dbg ≠ .erasing ∧ up.sec.perstHeld = false := by decide

theorem test_meets_ide : (port up .a).linkUp = true ∧ { up.sec with identity := some .derived }.identity ≠ none ∧ up.sec.identity = none
    ∧ (port { up with portA := { up.portA with spdm := true, ideSecure := true } } .a).spdm = true ∧ (port up .a).spdm = false
    ∧ (port { up with portA := { up.portA with spdm := true, ideSecure := true } } .a).ideSecure = true
    ∧ (port up .a).ideSecure = false := by decide

theorem test_meets_tap : up.pins.aux = true ∧ up.tap.inReset = false ∧ workRuns up = true
    ∧ workRuns { up with portA := {} } = false ∧ State.reset.tap.inReset = true := by decide +kernel

/-- R460, R461: the cells of PWR_EN and PERST_N are 66 and 67, those of the fabric lanes come last; R449: without the main rails the
PCIe cells capture 0. -/
theorem test_boundary_cells : sumOf (boundary.map (·.pins)) = 214
    ∧ captureCells { up with power := { up.power with state := .off } } (2 ^ 214 - 1) % 2 ^ 66 = 0
    ∧ captureCells up (2 ^ 214 - 1) = 2 ^ 214 - 1 := by decide +kernel

/-! ### Power states and limits -/

/-- SET_POWER_STATE to A0 (0), Q1 (2) and a reserved target (5). -/
def powerWord (target : Nat) : CmdWord := wordOf 0x86 [(48, target)]
def entryRec (committed : Bool) : EntryRec := { target := .q1, slot := 0, seq := 3, since := 0, committed := committed }
def entering (committed : Bool) (tick : Nat) : State := { upWith 0 (powerWord 2) .running with
  power := { up.power with entry := some (entryRec committed), idleSince := 0 }, time := { up.time with tick := tick } }
def asleep (t : Nat) : State := { upWith 0 (powerWord t) with power := { up.power with state := .q2 } }

theorem test_meets_set_power_state : admitting (upWith 0 (powerWord 2)) 0 3 0x86 = some (cmd (powerWord 2))
    ∧ admitting (upWith 0 (powerWord 0)) 0 3 0x86 = some (cmd (powerWord 0)) ∧ admitting (upWith 0 (powerWord 5)) 0 3 0x86 ≠ none
    ∧ reservedOk (powerWord 5) = true ∧ targetState (aState (powerWord 5)) = none ∧ targetState (aState (powerWord 0)) = some .a0
    ∧ targetState (aState (powerWord 2)) = some .q1 ∧ up.power.entry = none
    ∧ admitting (asleep 0) 0 3 0x86 = some (cmd (powerWord 0)) ∧ quiescent (asleep 0) = true ∧ (asleep 0).power.returning = none := by
  decide +kernel

theorem test_meets_power_entry : onlyEntryLeft (entering false (10 ^ 12)) (entryRec false) = true
    ∧ (entering false (10 ^ 12)).power.idleSince + ctl up 0x400006 ≤ (entering false (10 ^ 12)).time.tick
    ∧ (entering false 0).time.tick < (entering false 0).power.idleSince + ctl up 0x400006
    ∧ (entryRec false).since + ctl up 0x400007 * 1000000 ≤ (entering false (10 ^ 12)).time.tick
    ∧ outCmd (entering false 0) 0 3 = some (cmd (powerWord 2) .running) ∧ luthierDrained (entering true 0) = true
    ∧ atRest (entering true 0) = true ∧ running (entering true 0) = true
    ∧ quiescent { asleep 0 with power := { (asleep 0).power with returning := some (some (0, 3)) } } = true := by decide +kernel

/-- A die runs; P_avg is above the cap or not; levels at their floors and not. -/
def capped (w : Nat) (thr : Throttle := {}) (policy : Nat := 0) (capOn : Bool := true) : State :=
  { running_ (runWith {}) twoLines with
    power := { up.power with samples := [w], thr := thr, capOn := capOn, state := if capOn then .a1 else .a0 }
    dict := { up.dict with vals := [(0x201001 * 65536, policy)] } }

theorem test_meets_cap_loop : running (capped 2000) = true ∧ up.power.lastStep = none ∧ avgAbove (capped 1000) (capInForce (capped 1000)) = false
    ∧ avgAbove (capped 2000) (capInForce (capped 2000)) = true ∧ canLowerDuty (capped 2000) = true ∧ canLowerMeter (capped 2000 {} 1) = true
    ∧ ctl (capped 2000) 0x201001 = 0 ∧ ctl (capped 2000 {} 1) 0x201001 = 1 ∧ (capped 2000).power.overSteps < 40
    ∧ (capped 2000).power.pumpLost = false ∧ (capped 2000).power.capUnmet = false
    ∧ canLowerDuty (capped 2000 { duty := List.replicate 8 4, meter := 1 }) = false
    ∧ canLowerMeter { capped 2000 { duty := List.replicate 8 4, meter := 0 } with dict := up.dict } = false
    ∧ ctl (capped 2000 {} 2) 0x201001 = 2
    ∧ 1750 < 1751 ∧ runningDies (capped 2000) = [0] ∧ { up.power with lastStep := some 999000 }.lastStep = some 999000
    ∧ up.time.tick < 999000 + 100000 := by decide +kernel

/-- R419: a die's 10 W over 3 array and 1 walker cycles are 7.5 W of dense work, a stack's 4 W over expand beats 4 W of search
work; with no search work the share is not exceeded, with nothing else it is. -/
theorem test_meets_shares : densePower [⟨10, 3, 1⟩, ⟨4, 0, 2⟩] = 15 / 2 ∧ searchPower [⟨10, 3, 1⟩, ⟨4, 0, 2⟩] = 13 / 2
    ∧ 100 * searchPower [⟨10, 1, 0⟩] ≤ (ctl (capped 2000 {} 2) 0x201002 : Rat) * (densePower [⟨10, 1, 0⟩] + searchPower [⟨10, 1, 0⟩])
    ∧ (ctl (capped 2000 {} 2) 0x201002 : Rat) * (densePower [⟨10, 0, 1⟩] + searchPower [⟨10, 0, 1⟩]) < 100 * searchPower [⟨10, 0, 1⟩] := by
  decide +kernel

theorem test_meets_cap_raise : (capped 1000).power.state = .a1 ∧ levelsFull (capped 1000).power.thr = true ∧ up.power.lastRaise = none
    ∧ levelsFull { meter := 63 } = false ∧ levelsFull { duty := [63] } = false ∧ ([63].any (fun d => decide (d < 64))) = true
    ∧ ((List.replicate 8 64).any (fun d => decide (d < 64))) = false
    ∧ { up.power with belowSince := some 0 }.belowSince = some 0 ∧ 0 + 10000000 ≤ { up.time with tick := 10000000 }.tick := by decide

/-- Sensor 0 above its throttle and its trip limit. -/
def hot (v : Int) : State := { up with power := { up.power with temps := v :: List.replicate 59 0 } }
def throttle0 : Int := 100 * (ctl up 0x210003 : Int)
def trip0 : Int := 100 * (ctl up 0x210006 : Int)

theorem test_meets_thermal : hotSensor (hot (throttle0 + 1)) = some 0 ∧ up.power.lastTherm = none ∧ 59 < up.power.temps.length
    ∧ railsOn (hot trip0) = true ∧ tripLimit (hot trip0) 0 = some trip0 ∧ trip0 ≤ tempOf (hot trip0) 0
    ∧ tempOf (hot (trip0 - 1)) 0 < trip0 ∧ tripLimit up 57 ≠ none ∧ tripSensor up = none
    ∧ tripSensor (hot trip0) = some 0 := by decide +kernel

/-- PUMP_OK has been low for 100 ms, and one nanosecond more; high for 1 s. -/
def pumpState (lost : Bool) (ok : Bool) (tick : Nat) : State := { up with
  pins := { up.pins with pumpOk := ok, pumpLowSince := some 0, pumpHighSince := some 0 }, power := { up.power with pumpLost := lost }
  time := { up.time with tick := tick } }

theorem test_meets_pump : ctl up 0x20000B = 1 ∧ (pumpState false false 0).pins.pumpLowSince = some 0
    ∧ 0 + 100000000 < (pumpState false false 100000001).time.tick ∧ (pumpState false false 100000000).time.tick ≤ 0 + 100000000
    ∧ (pumpState true true 0).power.pumpLost = true ∧ (pumpState true true 0).pins.pumpHighSince = some 0
    ∧ 0 + 1000000000 ≤ (pumpState true true 1000000000).time.tick ∧ (pumpState true true 999999999).time.tick < 0 + 1000000000
    ∧ (pumpState true true 0).power.capOn = false ∧ up.pins.pumpOk = true ∧ 170000 < 170001 := by decide +kernel

/-! ### Auxiliary power, straps and start-up -/

/-- Before the management controller has started: no auxiliary power; the straps not sampled at 2 ms; sampled. -/
def early (sampled : Bool) (tick : Nat) (slotA : Bool := true) : State := { State.reset with
  pins := { sampled := sampled, pwrEn := true }, time := { tick := tick },
  sec := { slotA := { valid := slotA, version := 1, sec := 0 } } }

theorem test_meets_aux_power : ({ up with pins := { up.pins with aux := false } } : State).pins.aux = false ∧ up.pins.aux = true
    ∧ up.dict.saving = none ∧ (early false 2000000).pins.aux = true ∧ (early false 2000000).pins.sampled = false
    ∧ 2000000 ≤ (early false 2000000).time.tick ∧ (early false 1999999).time.tick < 2000000 := by decide

theorem test_meets_start_up : (early true 0).pins.aux = true ∧ (early true 0).pins.sampled = true ∧ (early true 0).dict.ready = false
    ∧ bootSlot (early true 0) = some 0 ∧ bootSlot (early true 0 false) = none ∧ loadedCopy (early true 0).dict = none := by decide

def mainStarting (n : Nat) (perst : Bool) : State := { up with
  power := { up.power with state := .starting, mainStep := n }, pins := { up.pins with perst := perst } }

theorem test_meets_main_start : (mainStarting 0 true).power.state = .starting ∧ (mainStarting 6 true).power.mainStep + 1 ≠ 8
    ∧ (mainStarting 7 true).power.mainStep = 7 ∧ (mainStarting 7 true).pins.perst = true ∧ (mainStarting 7 false).pins.perst = false
    ∧ 7 < up.fabric.ports.length ∧ ctlObj (mainStarting 7 true) 0x801101 7 = 1 := by decide +kernel

/-- Off with PWR_EN low since tick 0, at 10 ms and just before. -/
def offAt (tick : Nat) (st : PwrState := .off) : State := { up with
  power := { up.power with state := st }, pins := { up.pins with pwrEn := false, pwrEnLowSince := some 0 }, time := { tick := tick } }

theorem test_meets_pwr_en : (offAt 10000000).tap.pinsTaken = false ∧ (offAt 10000000).pins.pwrEn = false ∧ (offAt 10000000).dict.ready = true
    ∧ (offAt 10000000).sec.recovery = false ∧ 0 + 10000000 ≤ (offAt 10000000).time.tick ∧ (offAt 9999999).time.tick < 0 + 10000000
    ∧ (offAt 0 .failed).power.state ≠ .off ∧ up.pins.pwrEn = true ∧ railsOn up = true
    ∧ ({ offAt 0 .failed with pins := up.pins } : State).power.state = .failed := by decide

/-- PERST_N asserted 100 ms after PWRGD_OUT, and just before; FATAL set. -/
def perstAt (tick : Nat) : State := { up with pins := { up.pins with perst := true }, power := { up.power with pgdSince := some 0 },
                                              time := { tick := tick } }

theorem test_meets_perst : up.tap.pinsTaken = false ∧ up.sec.dbg ≠ .erasing ∧ up.pins.perst = false ∧ up.log.isFatal = false
    ∧ railsOn up = true ∧ ({ up with log := { isFatal := true } } : State).log.isFatal = true ∧ (perstAt 0).pins.perst = true
    ∧ 0 + 100000000 ≤ (perstAt 100000000).time.tick ∧ (perstAt 99999999).time.tick < 0 + 100000000 ∧ running up = true
    ∧ (port { up with portA := {} } .a).linkUp = false ∧ (port { up with portA := { held := false } } .a).held = false
    ∧ (port up .a).linkUp = true := by decide

/-- POWER_ON in Off; RESET_REQUEST with E entries unlocked; DBG_CLOSE while debug access is open. -/
def debugOpen : State := { up with sec := { up.sec with dbg := .open_ } }

theorem test_meets_restarts : WriteOk { offAt 0 with pins := up.pins } 2 0x200008 1852798832 ∧ WriteOk (unlocked7 up) 2 0x200009 1953722999
    ∧ WriteOk debugOpen 2 0xA00036 1702063980 :=
  ⟨writeOk_of (by decide +kernel), writeOk_of (by decide +kernel), writeOk_of (by decide +kernel)⟩

theorem test_meets_debug_close : debugOpen.sec.dbg = .open_ ∧ up.sec.dbg ≠ .open_ ∧ available up 2 0xA00036 = true := by decide +kernel

/-! ### The row fabric -/

/-- Port 0 in a state; the module is number 7, its port 0 leads to its time parent. -/
def withPort (p : FabPort) (time : TimeBase := up.time) : State := { up with
  fabric := { ports := p :: List.replicate 7 {} }, time := time
  dict := { up.dict with vals := [(0x800001 * 65536, 7), (0x800004 * 65536, 0)] } }
def upPort : FabPort := { state := .up }
def sent0 (n : Nat) : Sent := { fseq := n, rpl := 0, cls := 0, frame := frame0 }

theorem test_meets_ports : (fabPort (withPort { state := .training }) 0).state = .training
    ∧ (fabPort (withPort { state := .training }) 0).since + 500000000 ≤ (withPort { state := .training } { tick := 500000000 }).time.tick
    ∧ (withPort { state := .training } { tick := 499999999 }).time.tick < (fabPort (withPort { state := .training }) 0).since + 500000000
    ∧ (fabPort (withPort upPort) 0).state = .up
    ∧ (entryAt 0x801101).any (fun e => objOf (dropStage (usePath (withPort {}) 2) 2) 2 [] e == some 0) = true
    ∧ 0 < (withPort {}).fabric.ports.length ∧ (fabPort (withPort {}) 0).state = .disabled ∧ railsOn (withPort {}) = true := by
  decide +kernel

theorem test_meets_port_enable : WriteOk (withPort {}) 2 0x801101 1 ∧ WriteOk (withPort {}) 2 0x801101 0 :=
  ⟨writeOk_of (by decide +kernel), writeOk_of (by decide +kernel)⟩

theorem test_meets_link_control : (fabPort (withPort { upPort with unacked := [sent0 4095, sent0 0] }) 0).unacked = [sent0 4095] ++ sent0 0 :: []
    ∧ (sent0 0).fseq = (flitOf 0 (List.replicate 8 0)).aseq ∧ (∀ b, b ∈ [sent0 4095] → b.fseq ≠ 0)
    ∧ (flitOf 0 (List.replicate 8 0)).parityOk = true ∧ (flitOf 0 [] false).parityOk = false
    ∧ (fabPort (withPort { upPort with queue := [{ frame := frame0 }] }) 0).queue = [{ frame := frame0 }]
    ∧ maySend { { upPort with queue := [{ frame := frame0 }] } with peer := 9, peerFreed := (List.replicate 8 0).map (· % 65536) } frame0 = true
    ∧ (fabPort (withPort upPort) 0).queue = [] := by decide

/-- An exchange sent at tick 0, and a slew that is left. -/
def timing (sync : TimeState) (exch : Option Exchange := none) (slew : Int := 0) (tick : Nat := 1000000) : TimeBase :=
  { base := 1000000, tick := tick, sync := sync, exch := exch, slewLeft := slew, lastSlew := some 0 }
def exch0 : Exchange := { num := 0, t1 := 5, sent := 0 }

theorem test_meets_time : ctl (withPort upPort (timing .acquire)) 0x800004 = 0 ∧ (timing .acquire).sync = .acquire
    ∧ (timing .acquire).exch = none ∧ (timing .acquire).lastStart = none ∧ (timing .locked (some exch0)).exch = some exch0
    ∧ exch0.num = (flitOf 0 []).aseq ∧ 1000 < (exchangeOffset exch0.t1 (flitOf 0 []).tA (flitOf 0 []).tB (seenTime (withPort upPort (timing .locked (some exch0) 0 10000)) 0)).natAbs
    ∧ (timing .locked (some exch0) 0 10000).tick ≤ exch0.sent + 10000 ∧ exch0.sent + 10000 < (timing .locked (some exch0) 0 10001).tick
    ∧ (timing .holdover (some exch0)).sync = .holdover
    ∧ exch0.sent + 10000 ≤ (timing .locked (some exch0) 0 10000).tick ∧ (timing .locked (some exch0) 0 9999).tick < exch0.sent + 10000
    ∧ 0 + 5000 ≤ (timing .locked none 1 5000).tick ∧ (timing .locked none 1 4999).tick < 0 + 5000
    ∧ 0 < (timing .locked none 1).slewLeft ∧ (timing .locked none (-1)).slewLeft < 0 := by decide +kernel

theorem test_meets_time_role : WriteOk up 2 0x800003 1 ∧ WriteOk up 2 0x800003 0 ∧ WriteOk up 2 0x800004 7 ∧ WriteOk up 2 0x800004 255
    ∧ up.time.sync = .free ∧ (timing .master).sync = .master :=
  ⟨writeOk_of (by decide +kernel), writeOk_of (by decide +kernel), writeOk_of (by decide +kernel), writeOk_of (by decide +kernel), rfl, rfl⟩

/-- A QUERY frame of shard group 3 from module 9, for an index of one dimension; its search; a LIST frame of child 9 for it. -/
def word9 : CmdWord := wordOf 0x01 [(48, 10), (72, 1)]
def queryFrame : Frame := { frame0 with typ := 1, dst := 7, src := 9, group := 3, ptag := 1, cutTime := 2000000, len := 65,
                                        payload := leBytes 64 word9.toNat ++ [0] }
def sharded : State := { withPort upPort with
  indexes := [(2, { index0 with cfg := { index0.cfg with vecDims := 1 } })]
  dict := { up.dict with vals := [(0x800001 * 65536, 7), (0x811001 * 65536 + 2, 1), (0x811002 * 65536 + 2, 3), (0x811005 * 65536 + 2, 9)] } }

theorem test_meets_query_frame : Received sharded 0 (rxOf 0 queryFrame) ∧ badFrameForm queryFrame = false ∧ queryFrame.dst = myId sharded
    ∧ quiescent sharded = false ∧ shardOf sharded queryFrame = some (2, { index0 with cfg := { index0.cfg with vecDims := 1 } })
    ∧ queryOf sharded (childTag sharded) = none ∧ inRange (sQFmt (frameWord queryFrame)) 1 5 = true
    ∧ queryFrame.payload.length = 64 + 1 * rrSize (sQFmt (frameWord queryFrame)) ∧ seenTime sharded 0 < queryFrame.cutTime - 6000
    ∧ badFrameForm { queryFrame with typ := 5 } = true ∧ badFrameForm { queryFrame with len := 16449 } = true
    ∧ badFrameForm { queryFrame with len := 16448 } = false := by
  refine ⟨⟨rfl, rfl, rfl, by decide +kernel⟩, ?_⟩; decide +kernel

def rootNode : MergeStage := { expected := [.local_, .child 9] }
def rootQuery : Query := { query0 with phase := .registered, fabric := some rootNode }
def finals : MList := { kind := .final, entries := [{ key := 5, aux := 0, id := 77 }] }
def listFrame (ptag : Nat) : Frame := { frame0 with typ := 2, src := 9, ptag := ptag, payload := listEncode 0 false finals }
def rooted : State := { withPort upPort with queries := [rootQuery], indexes := [(2, index0)] }

theorem test_meets_list_frame : Received rooted 0 (rxOf 0 (listFrame 327683)) ∧ queryOf rooted (listFrame 327683).ptag = some rootQuery
    ∧ rootQuery.fabric = some rootNode ∧ .child 9 ∈ rootNode.expected ∧ .child 9 ∉ rootNode.delivered
    ∧ kindFits rooted rootQuery (listDecode (listFrame 327683).payload listMax) = true ∧ seenTime rooted 0 ≤ lastAccept rootQuery .fabric
    ∧ stageFull (stageTake rootNode rootQuery.params.k (.child 9) (listDecode (listFrame 327683).payload listMax)).1 = false
    ∧ queryOf rooted (listFrame 5).ptag = none ∧ (listFrame 5).dst = myId rooted := by
  refine ⟨⟨rfl, rfl, rfl, by decide +kernel⟩, ?_⟩; decide +kernel

/-- A collective of tablature 0 with child 9, and a query that module 9 asked for. -/
def rowFrame : Frame := { frame0 with typ := 3, src := 9, group := 4 }
def collective : State := { withPort upPort with
  dense := { tabs := [(0, tab0 [])] }
  dict := { up.dict with vals := [(0x800001 * 65536, 7), (0x802101 * 65536, 1), (0x802102 * 65536, 4), (0x802104 * 65536, 2 ^ 128 - 2 ^ 16 + 9)] } }
def childQuery : Query := { query0 with origin := .child 9 1 3 9 }
def cancelFrame : Frame := { frame0 with typ := 4, src := 9, ptag := 1, group := 3, origin := 9 }

theorem test_meets_row_and_cancel : Received collective 0 (rxOf 0 rowFrame) ∧ collFits collective 0 4 9 = true
    ∧ ingressBytes collective 0 + 64 * flitsOf rowFrame ≤ 4194304 ∧ rowFrame.dst = myId collective ∧ badFrameForm rowFrame = false
    ∧ Received { withPort upPort with queries := [childQuery] } 0 (rxOf 0 cancelFrame)
    ∧ childQuery.origin = .child cancelFrame.src cancelFrame.ptag cancelFrame.group cancelFrame.origin
    ∧ (∀ y, y ∈ [childQuery] → y = childQuery) ∧ cancelFrame.dst = myId (withPort upPort) := by
  refine ⟨⟨rfl, rfl, rfl, by decide +kernel⟩, by decide +kernel, by decide +kernel, by decide +kernel, by decide,
    ⟨rfl, rfl, rfl, by decide +kernel⟩, rfl, by simp, by decide +kernel⟩

/-! ### Rules of the whole module -/

theorem test_meets_reserved_fields :
    (∀ op, op ∈ [0x01, 0x02, 0x03, 0x10, 0x11, 0x12, 0x20, 0x21, 0x30, 0x31, 0x40, 0x41, 0x42] →
      admitting (upWith 5 (wordOf op [(8, 1)])) 5 3 op = some (cmd (wordOf op [(8, 1)])) ∧ reservedOk (wordOf op [(8, 1)]) = false)
    ∧ (∀ op, op ∈ [0x80, 0x81, 0x82, 0x83, 0x84, 0x85, 0x86, 0x87, 0x88, 0x89, 0x8A] →
      admitting (upWith 0 (wordOf op [(8, 1)])) 0 3 op = some (cmd (wordOf op [(8, 1)])) ∧ reservedOk (wordOf op [(8, 1)]) = false) := by
  decide +kernel

/-- Two lists that share an identifier. -/
def listA : MList := { kind := .code, entries := [{ key := 5, aux := 0, id := 77 }] }
def listB : MList := { kind := .code, entries := [{ key := 4, aux := 0, id := 77 }, { key := 9, aux := 0, id := 78 }] }

theorem test_meets_keys_and_lists : (d32 0x80000000).isNan = false ∧ (d32 0x7F800000).isNan = false ∧ (5 : W32) ≠ 4
    ∧ entryGood false { key := 5, aux := 0, id := 77 } = true ∧ (mergeLists false 1 listA listB).1.entries.length = 1
    ∧ Mem.wf {} = true ∧ 255 < 256 ^ 1 := by decide +kernel

theorem test_meets_invariants : LogOk up.log up.power.farUp ∧ TapOk up.tap ∧ (step up matches .next _) = true
    ∧ (exec (.tapReset true) up matches .next _) = true := by
  refine ⟨?_, ?_, by decide +kernel, by decide +kernel⟩
  · unfold LogOk; decide +kernel
  · unfold TapOk; decide

theorem test_meets_straps : up.pins.aux = true ∧ up.pins.sampled = true ∧ (early false 0).pins.sampled = false
    ∧ (exec .strapSample (early false 2000000) matches .next _) = true := by decide +kernel

theorem test_meets_both_causes : ({ cut := true, poison := true } : Cause).cut = true ∧ ({ poison := true } : Cause).fenced = false
    ∧ query3.origin = .host 5 3 ∧ queryOf (searching query3) query3.tag = some query3 ∧ query3.phase ≠ .done
    ∧ outCmd (searching query3) 5 3 ≠ none := by decide +kernel

/-- An INSERT into partition 1 of an index of one partition, and a CREATE_INDEX of a reserved PART_FN. -/
def named0 : Index := { index0 with cfg := { index0.cfg with partFn := 1 } }
def insertInto1 : CmdWord := wordOf 0x10 [(32, 1), (40, 2), (48, 64), (64, 1), (192, 77)]

theorem test_meets_partitions : admitting (withIndex0 (upWith 5 insertInto1) named0) 5 3 0x10 = some (cmd insertInto1)
    ∧ seesIndex (withIndex0 (upWith 5 insertInto1) named0) 5 2 = true ∧ named0.cfg.partFn = 1
    ∧ named0.parts.length ≤ cPartition insertInto1 ∧ index0.cfg.partFn = 0 ∧ 0 < index0.parts.length
    ∧ (∃ w, admitting (upWith 0 w) 0 3 0x83 = some (cmd w) ∧ 2 ≤ (ciCfg w).partFn) := by
  refine ⟨by decide +kernel, by decide +kernel, rfl, by decide +kernel, rfl, by decide, wordOf 0x83 [(120, 2)], by decide +kernel, ?_⟩
  decide +kernel

theorem test_meets_walk_sizes : 16 ∈ [1, 2, 4, 8, 16] ∧ (2 ^ 32 - 1) < 2 ^ 32 ∧ effWidth query0.params ≤ 1024
    ∧ visit 16 [] 5 ≠ [] := by decide +kernel

theorem test_meets_clears : (entryAt 0x910002).any (fun e => e.clears && writeStatus up 2 [] e.typ e.len 0 0x910002 == stOk) = true
    ∧ (entryAt 0x720003).any (fun e => !(denied (dropStage (usePath partState 2) 2) 2 e) && !e.expert) = true
    ∧ available (dropStage (usePath partState 2) 2) 2 0x720003 = true ∧ look partState.dense.tabs 63 ≠ none
    ∧ tabNamed partState 63 = false ∧ look partState.dense.tabs 0 = none := by decide +kernel

/-- An entry at LOG_ACK of the severity that ALERT_SEVERITY names. -/
theorem test_meets_alert : drives up = true ∧ alertLow { up with log := { isFatal := true } } = true ∧ alertLow up = false := by
  decide +kernel

/-! ### Layouts: expected values from the examples and tables of the manual -/

/-- R34's example: entry 5 of a Format C record lies in record bits [1563:1538], from bit 2 of byte 0x0C0 on. -/
theorem test_packed_neighbour : bits (recWord .c { nbr := [1, 2, 3, 4, 5, 0x2AAAAAA] }) 1563 1538 = 0x2AAAAAA
    ∧ 1538 = 8 * 0xC0 + 2 ∧ bits (recWord .c {}) 1563 1538 = 0x3FFFFFF ∧ bits (recWord .c {}) 2047 2032 = 0 := by decide +kernel

/-- R33: in Format W the code begins at byte 0x020, the sketches at 0x080 and the entries, [31:26] zero, at 0x180. -/
theorem test_wide_record : numAt (leBytes 512 (recWord .w { code := 0xAB, sketch := [0xCD], nbr := [0x123] })) 0x20 1 = 0xAB
    ∧ numAt (leBytes 512 (recWord .w { code := 0xAB, sketch := [0xCD], nbr := [0x123] })) 0x80 1 = 0xCD
    ∧ numAt (leBytes 512 (recWord .w { code := 0xAB, sketch := [0xCD], nbr := [0x123] })) 0x180 4 = 0x123
    ∧ numAt (leBytes 512 (recWord .w {})) 0x1FC 4 = 0x03FFFFFF := by decide +kernel

/-- R39: adjacent Format C records lie in disjoint halves of the stack, adjacent Format W ones in the two pseudo-channels. -/
theorem test_stripes : pieceHome .c 0 7 = (7, 0, 0) ∧ pieceHome .c 1 0 = (8, 0, 0) ∧ pieceHome .c 2 0 = (0, 1, 0) ∧ pieceHome .c 4 0 = (0, 0, 32)
    ∧ pieceHome .w 3 15 = (15, 1, 32) := by decide

/-- R51: address bits [12:8] name the package, the higher bits the place within it. -/
theorem test_far_packages : farPackage 0x1F00 = 31 ∧ farPackage 0x2000 = 0 ∧ farPackage 0xFF = 0 := by decide

/-- R47: in Format C NBR begins at byte 0x38 and ENTRY is bit 56; R53: OPCODE at [87:80], COMMIT_EPOCH all ones until committed. -/
theorem test_mirror_and_journal :
    bit (mirrorWord .c 0 { slot := 5, layer := 2, codeVer := 1, entry := true, code := 0, nbr := [9] }) 56 = true
    ∧ bits (mirrorWord .c 0 { slot := 5, layer := 2, codeVer := 1, entry := true, code := 0, nbr := [9] }) 479 448 = 9
    ∧ bits (journalHeader (entry0 insertWord)) 87 80 = 0x10 ∧ bits (journalHeader (entry0 insertWord)) 175 128 = 0xFFFFFFFFFFFF := by
  decide +kernel
/-! ### Premises at one tick, of filtered levels, and of epochs that have run out -/

theorem test_meets_levels : takesLevel (offAt 10000000) 4 (offAt 10000000).pins.pwrEnAt = true ∧ takesLevel up 4 up.pins.pwrEnAt = true
    ∧ takesLevel (perstAt 100000000) 4 (perstAt 100000000).pins.perstAt = true ∧ takesLevel up 4 up.pins.perstAt = true
    ∧ takesLevel up 4 up.pins.pumpAt = true ∧ takesLevel (pumpState false false 160) 4 0 = true
    ∧ takesLevel (pumpState false false 159) 4 0 = false ∧ 3 < 4 := by decide +kernel

/-- Off was entered at tick 10,000,000, which wrote nothing to host memory. -/
def justOff : State := { offAt 10000000 with
  pins := up.pins, power := { up.power with state := .off, offDone := some { tick := 10000000, ctr := [], writes := 0, msi := 0 } } }

theorem test_meets_one_tick : justOff.power.offDone = some { tick := 10000000, ctr := [], writes := 0, msi := 0 }
    ∧ justOff.pins.pwrEn = true ∧ takesLevel justOff 4 justOff.pins.pwrEnAt = true ∧ 10000000 = justOff.time.tick
    ∧ 0 ≤ justOff.writes.length
    ∧ (∀ s, s = ({ hot trip0 with power := { (hot trip0).power with state := .off, stopAt := some 1000000 } } : State) →
        s.power.stopAt = some s.time.tick ∧ tripLimit s 0 = some trip0 ∧ trip0 ≤ tempOf s 0)
    ∧ (∀ s, s = ({ up with power := { up.power with lastStep := some 1000000, overSteps := 1 } } : State) →
        s.power.lastStep = some s.time.tick ∧ s.power.overSteps ≠ 0 ∧ running s = true ∧ 1750 < 1751)
    ∧ (∀ e, e = { entryRec true with commitAt := 1000000 } →
        e.committed = true ∧ e.commitAt = up.time.tick ∧ (port (entering true 1000000) .a).linkUp = true ∧ portOf up 0 = .a
        ∧ genOf (entering true 1000000) 0 = bits 0 31 20 ∧ (chan (entering true 1000000) 0).state = .active
        ∧ bits 0 15 0 < (chan (entering true 1000000) 0).cfg.sqN) := by
  and_intros <;> first | (rintro _ rfl; decide +kernel) | decide +kernel

/-- The completion entry of a SET_POWER_STATE that has just reached Q1, and of one that has reached it before. -/
def reached (at_ : Nat) : State := { setChan up 0 { chanWith [cmd (powerWord 2) (.done { status := .ok })] with dones := [3] } with
  power := { up.power with state := .q1, reachedAt := some at_ } }

theorem test_meets_reached : nextDone (chan (reached 1000000) 0) = some (cmd (powerWord 2) (.done { status := .ok }))
    ∧ justReached (reached 1000000) (cmd (powerWord 2) (.done { status := .ok })) = true
    ∧ justReached (reached 999999) (cmd (powerWord 2) (.done { status := .ok })) = false := by decide +kernel

/-- The entry to Off, its completion queue with room and without. -/
def toOff (head tail : Nat) : State := { setChan up 0 { chanWith [cmd (powerWord 4) .running] with cqHead := head, cqTail := tail } with
  power := { up.power with entry := some { entryRec true with target := .off } } }

theorem test_meets_entry_to_off : luthierDrained (toOff 0 0) = true ∧ atRest (toOff 0 0) = true ∧ luthierDrained (toOff 1 0) = true
    ∧ atRest (toOff 1 0) = true
    ∧ (completeNow { toOff 0 0 with power := { (toOff 0 0).power with entry := none } } 0 3 0).isSome = true
    ∧ completeNow { toOff 1 0 with power := { (toOff 1 0).power with entry := none } } 0 3 0 = none := by decide +kernel

theorem test_meets_no_epochs : epochsLeft { index0 with current := 2 ^ 48 - 1 } = false ∧ (inState .armed).luthier ≠ .quiet
    ∧ luthierMay occupied0 = true ∧ luthierMay (chained { chain0 with marks := [(1, 2)] }) = true
    ∧ roomForLuthier (withIndex0 up) 3 (luthierWidth .w (ctl up 0x680004)) = true
    ∧ roomForLuthier { up with integ := { up.integ with dies := [{ reload := true }] } } 3 (luthierWidth .w (ctl up 0x680004)) = false := by
  decide +kernel

/-- A FETCH at a pin that has ended while it waited. -/
def pinFetch : CmdWord := wordOf 0x03 [(14, 1), (40, 2), (160, 4095 * 2 ^ 20 + 2 * 2 ^ 12 + 9), (192, 77), (256, 77)]

theorem test_meets_ended_pin : outCmd (withIndex0 (upWith 5 pinFetch .waiting)) 5 3 = some (cmd pinFetch .waiting)
    ∧ cOpcode pinFetch = 0x03 ∧ indexAt (withIndex0 (upWith 5 pinFetch .waiting)) (cIndex pinFetch) = some index0
    ∧ fetchHeld (withIndex0 (upWith 5 pinFetch .waiting)) 5 (cmd pinFetch .waiting) = false
    ∧ fetchCheck (withIndex0 (upWith 5 pinFetch .waiting)) 5 pinFetch = some .invalid
    ∧ fetchCheck (withIndex0 (upWith 5 (fetchWord 77) .waiting)) 5 (fetchWord 77) = none := by decide +kernel

/-- A SEARCH_EXACT whose context on stack 1 is to be placed; a reranking query whose home core is served, its requests for
vectors all issued, and some left to issue. -/
def unplacedExact : Query := { exact0 with walks := [], unplaced := [1] }
def reranking (reqs : List Reqs) : State := { searching { query1 with phase := .reranking } with dense := { up.dense with reqs := reqs } }

theorem test_meets_exact_and_rerank : queryOf (searching unplacedExact) 327683 = some unplacedExact ∧ unplacedExact.exact = some 0
    ∧ 1 ∈ unplacedExact.unplaced ∧ (placeOn (searching unplacedExact) (2 ^ 1) 1 1).isSome = true
    ∧ homeUp (reranking []) { query1 with phase := .reranking } = true ∧ partReqs (reranking []) (.rerank 327683) = false
    ∧ (∀ r : Reqs, r = { core := 1, owner := .rerank 327683, todo := [(1, 512)], out := 1, outBytes := 512 } →
        partReqs (reranking [r]) (.rerank 327683) = true ∧ heldReqs (reranking [r]) (.rerank 327683) = false) := by
  and_intros <;> first | (rintro _ rfl; decide +kernel) | decide +kernel

theorem test_meets_links : queryOf expanding 327683 = some query2
    ∧ walkOf query2 0 = some { walk0 with stage := .walking, inbox := [answer0] }
    ∧ [answer0].find? (fun y => y.expTag == 0) = some answer0 ∧ 1 ≤ 3 := by decide +kernel

/-- The recovery service, its first image block staged and none. -/
def recovering (staged : List (Nat × Nat)) : State := { unlocked7 up with sec := { up.sec with recovery := true, staged := staged } }

theorem test_meets_recovery : WriteOk (recovering []) 2 0xA00005 (leNat [1]) ∧ WriteOk (recovering [(0, 1)]) 2 0xA00005 (leNat [1])
    ∧ (recovering [(0, 1)]).sec.staged ≠ [] :=
  ⟨writeOk_of (by decide +kernel), writeOk_of (by decide +kernel), by decide⟩

/-- FIPS 180-4's example: the digest of the three bytes "abc". -/
theorem test_sha384 : sha384 [0x61, 0x62, 0x63] = (leBytes 48
    0xCB00753F45A35E8BB5A03D699AC65007272C32AB0EDED1631A8B605A43FF5BED8086072BA1E7CC2358BAECA134C825A7).reverse := by decide +kernel

end Sys2Proof.Tests
end

section
/-!
Admission of a channel's commands: what a non-zero reserved field answers, opcode by opcode (R9), and what a write whose
fields pass leaves behind (R134, R207).
-/
namespace Sys2Proof.Machine

/-! ### The checks of an admission refuse a non-zero reserved field before they look at anything else -/

section Checks
variable {s : State} {slot : Nat} {w : CmdWord} (hr : reservedOk w = false)
include hr

theorem searchCheck_of_reserved (exact : Bool) (t : Nat) : searchCheck s slot w exact t = some .invalid := by
  simp [searchCheck, hr]

theorem fetchCheck_of_reserved : fetchCheck s slot w = some .invalid := by
  simp [fetchCheck, hr]

theorem writeCheck_of_reserved : writeCheck s slot w = some .invalid := by
  simp [writeCheck, hr]

theorem denseCheck_of_reserved : denseCheck s w = false := by
  simp [denseCheck, hr]

end Checks

/-! ### A command that may be admitted and has a non-zero reserved field ends with INVALID -/

section Reserved
variable {s : State} {slot seq op : Nat} {o : OutCmd} (hr : reservedOk o.word = false)
include hr

theorem admitSearch_of_reserved {lag : Nat} {exact : Bool} (h : admitting s slot seq op = some o) :
    admitSearch slot seq op lag exact s = .next (finishWith s slot seq .invalid) := by
  simp [admitSearch, h, searchCheck_of_reserved hr]

theorem execFetch_of_reserved (h : admitting s slot seq 0x03 = some o) :
    execFetch slot seq s = .next (finishWith s slot seq .invalid) := by
  simp [execFetch, h, fetchCheck_of_reserved hr]

theorem admitWrite_of_reserved (h : admitting s slot seq op = some o) :
    admitWrite s slot seq op = .next (finishWith s slot seq .invalid) := by
  simp [admitWrite, h, writeCheck_of_reserved hr]

theorem admitDense_of_reserved (h : admitting s slot seq op = some o) :
    admitDense slot seq op s = .next (finishWith s slot seq .invalid) := by
  simp [admitDense, h, denseCheck_of_reserved hr]

theorem execEncodeSearch_of_reserved {lag : Nat} (h : admitting s slot seq 0x21 = some o) :
    execEncodeSearch slot seq lag s = .next (finishWith s slot seq .invalid) := by
  simp [execEncodeSearch, h, denseCheck_of_reserved hr]

theorem execBarrier_of_reserved (h : admitting s slot seq 0x40 = some o) :
    execBarrier slot seq s = .next (finishWith s slot seq .invalid) := by
  simp [execBarrier, h, hr]

theorem execSnapshotPin_of_reserved {pick : Nat} (h : admitting s slot seq 0x41 = some o) :
    execSnapshotPin slot seq pick s = .next (finishWith s slot seq .invalid) := by
  simp [execSnapshotPin, h, hr]

theorem execSnapshotRelease_of_reserved (h : admitting s slot seq 0x42 = some o) :
    execSnapshotRelease slot seq s = .next (finishWith s slot seq .invalid) := by
  simp [execSnapshotRelease, h, hr]

theorem execCreateChannel_of_reserved (h : admitting s slot seq 0x80 = some o) :
    execCreateChannel slot seq s = .next (finishWith s slot seq .invalid) := by
  simp [execCreateChannel, h, hr]

/-- Whether the handle names a channel of the port or not, the answer is the same. -/
theorem admitAbort_of_reserved (h : admitting s slot seq op = some o) :
    admitAbort slot seq op s = .next (finishWith s slot seq .invalid) := by
  cases hn : handleSlot s (portOf s slot) (aTarget o.word) <;> simp [admitAbort, h, hn, hr]

theorem execCreateIndex_of_reserved (h : admitting s slot seq 0x83 = some o) :
    execCreateIndex slot seq s = .next (finishWith s slot seq .invalid) := by
  simp [execCreateIndex, h, hr]

theorem execDropIndex_of_reserved (h : admitting s slot seq 0x84 = some o) :
    execDropIndex slot seq s = .next (finishWith s slot seq .invalid) := by
  simp [execDropIndex, h, hr]

theorem execLoadTablature_of_reserved (h : admitting s slot seq 0x85 = some o) :
    execLoadTablature slot seq s = .next (finishWith s slot seq .invalid) := by
  simp [execLoadTablature, h, hr]

/-- Whether the command names a power state or not, the answer is the same. -/
theorem execSetPowerState_of_reserved (h : admitting s slot seq 0x86 = some o) :
    execSetPowerState slot seq s = .next (finishWith s slot seq .invalid) := by
  cases ht : targetState (aState o.word) <;> simp [execSetPowerState, h, ht, hr]

theorem execGetLog_of_reserved {unread : Nat} (h : admitting s slot seq 0x87 = some o) :
    execGetLog slot seq unread s = .next (finishWith s slot seq .invalid) := by
  simp [execGetLog, h, hr]

theorem execMergeNow_of_reserved (h : admitting s slot seq 0x88 = some o) :
    execMergeNow slot seq s = .next (finishWith s slot seq .invalid) := by
  simp [execMergeNow, h, hr]

theorem execRetuneStart_of_reserved (h : admitting s slot seq 0x89 = some o) :
    execRetuneStart slot seq s = .next (finishWith s slot seq .invalid) := by
  simp [execRetuneStart, h, hr]

theorem execRetuneCommit_of_reserved (h : admitting s slot seq 0x8A = some o) :
    execRetuneCommit slot seq s = .next (finishWith s slot seq .invalid) := by
  simp [execRetuneCommit, h, hr]

end Reserved

/-- Settles O50: every one of the 24 commands ends with INVALID at its admission, and ending a command changes nothing but the
command. -/
theorem reservedFieldGivesInvalid : Obligations.ReservedFieldGivesInvalid := by
  intro s slot seq lag pick unread op o c hc h hr
  have invalid : exec c s = .next (finishWith s slot seq .invalid) := by
    simp only [List.mem_cons, List.not_mem_nil, or_false, Prod.mk.injEq] at hc
    rcases hc with ⟨rfl, rfl⟩ | ⟨rfl, rfl⟩ | ⟨rfl, rfl⟩ | ⟨rfl, rfl⟩ | ⟨rfl, rfl⟩ | ⟨rfl, rfl⟩ | ⟨rfl, rfl⟩ | ⟨rfl, rfl⟩
      | ⟨rfl, rfl⟩ | ⟨rfl, rfl⟩ | ⟨rfl, rfl⟩ | ⟨rfl, rfl⟩ | ⟨rfl, rfl⟩ | ⟨rfl, rfl⟩ | ⟨rfl, rfl⟩ | ⟨rfl, rfl⟩
      | ⟨rfl, rfl⟩ | ⟨rfl, rfl⟩ | ⟨rfl, rfl⟩ | ⟨rfl, rfl⟩ | ⟨rfl, rfl⟩ | ⟨rfl, rfl⟩ | ⟨rfl, rfl⟩ | ⟨rfl, rfl⟩
    · exact admitSearch_of_reserved hr h
    · exact admitSearch_of_reserved hr h
    · exact execFetch_of_reserved hr h
    · exact admitWrite_of_reserved hr h
    · exact admitWrite_of_reserved hr h
    · exact admitWrite_of_reserved hr h
    · exact admitDense_of_reserved hr h
    · exact execEncodeSearch_of_reserved hr h
    · exact admitDense_of_reserved hr h
    · exact admitDense_of_reserved hr h
    · exact execBarrier_of_reserved hr h
    · exact execSnapshotPin_of_reserved hr h
    · exact execSnapshotRelease_of_reserved hr h
    · exact execCreateChannel_of_reserved hr h
    · exact admitAbort_of_reserved hr h
    · exact admitAbort_of_reserved hr h
    · exact execCreateIndex_of_reserved hr h
    · exact execDropIndex_of_reserved hr h
    · exact execLoadTablature_of_reserved hr h
    · exact execSetPowerState_of_reserved hr h
    · exact execGetLog_of_reserved hr h
    · exact execMergeNow_of_reserved hr h
    · exact execRetuneStart_of_reserved hr h
    · exact execRetuneCommit_of_reserved hr h
  exact ⟨_, invalid, finishWith_spec .invalid (admitting_spec h).1⟩

/-! ### A write whose fields pass -/

/-- A command that begins to wait for a buffer issues its reads now (R394): beside its stage, the time of its issue changes. -/
theorem outCmd_nowWaiting {s : State} {slot seq : Nat} {o : OutCmd} (h : outCmd s slot seq = some o) :
    outCmd (nowWaiting s slot seq) slot seq = some { o with stage := .waiting, issued := s.time.tick } := by
  have issue : ∀ o : OutCmd, ({ o with issued := s.time.tick } : OutCmd).seq = o.seq := fun _ => rfl
  simp [nowWaiting, outCmd_withCmd issue, (setStage_spec .waiting h).1]

theorem admitWrite_of_passes {s : State} {slot seq op : Nat} {o : OutCmd} (h : admitting s slot seq op = some o)
    (pass : writeCheck s slot o.word = none) : admitWrite s slot seq op = .next (nowWaiting s slot seq) := by
  simp [admitWrite, h, pass]

/-- Admitted at another tick than the one that its issue time names, a write does not wait as it was: its issue time moves. -/
theorem outCmd_admitWrite_ne {s t : State} {slot seq op : Nat} {o : OutCmd} (h : admitting s slot seq op = some o)
    (pass : writeCheck s slot o.word = none) (later : o.issued ≠ s.time.tick) (ht : admitWrite s slot seq op = .next t) :
    outCmd t slot seq ≠ some { o with stage := .waiting } := by
  rw [admitWrite_of_passes h pass] at ht
  cases ht
  rw [outCmd_nowWaiting (admitting_spec h).1]
  intro same
  injection same with same
  exact later (congrArg OutCmd.issued same).symm

/-- A DELETE of identifier 0 from index 0, fetched at tick 0. -/
def deleteFetched : OutCmd := { seq := 0, word := 0x11 }

/-- The index that the DELETE names, of no partition. -/
def emptyIndex : Index :=
  { cfg := { format := .w, codeType := 0, metric := 0, partFn := 0, rrFmt := 0, rrDims := 0, kernel := 0, promoteBits := 0,
             vecDims := 1, owner := 0 },
    parts := [], vers := [], proj := [] }

/-- The module in A0 one cycle after channel 1 fetched the DELETE. -/
def deleteLater : State :=
  { State.reset with
    power := { state := .a0 }
    time := { tick := 1 }
    chans := [(1, { gen := 1, state := .active, cmds := [deleteFetched] })]
    indexes := [(0, emptyIndex)] }

/-- Refutes O19: a write whose fields pass waits, but not as it was: the time at which its payload's reads are issued is
written into the command too. The DELETE fetched at tick 0 and admitted at tick 1 waits with issue time 1, where the statement
asks for the 0 that it had. -/
theorem not_writesAreCheckedAtAdmission : ¬ Obligations.WritesAreCheckedAtAdmission := by
  rintro ⟨-, claim⟩
  have admitted : admitting deleteLater 1 0 0x11 = some deleteFetched := by decide +kernel
  have sees : seesIndex deleteLater 1 (cIndex deleteFetched.word) = true := by decide +kernel
  have named : indexAt deleteLater (cIndex deleteFetched.word) = some emptyIndex := by decide +kernel
  have passes : writeCheck deleteLater 1 deleteFetched.word = none := by decide +kernel
  obtain ⟨-, -, waits⟩ := claim deleteLater 1 0 0x11 deleteFetched (.delete 1 0) (by simp) admitted (by decide +kernel)
  obtain ⟨t, answer, waiting, -⟩ := waits emptyIndex sees named (by decide +kernel) (fun insert => absurd rfl insert)
  exact outCmd_admitWrite_ne admitted passes (by decide +kernel) answer waiting

end Sys2Proof.Machine
end

section
/-!
The partition of an identifier (R42), and what the admission of a write and of CREATE_INDEX answers where it cannot be had.
-/
namespace Sys2Proof.Machine

/-- The rule's two shifts are divisions. -/
theorem hashPart_eq (ext parts : Nat) :
    hashPart ext parts = (ext * 0x9E3779B97F4A7C15 % 2 ^ 64 / 2 ^ 32 * parts) / 2 ^ 32 := by
  simp only [hashPart, hashId, Nat.shiftRight_eq_div_pow]

/-- The upper half of the hash is below 2^32, so its share of the partitions is one of them. -/
theorem hashPart_lt (ext : Nat) {parts : Nat} (some_ : 0 < parts) : hashPart ext parts < parts := by
  have upper : ext * 0x9E3779B97F4A7C15 % 2 ^ 64 / 2 ^ 32 < 2 ^ 32 := by omega
  rw [hashPart_eq]
  exact Nat.div_lt_of_lt_mul (Nat.mul_lt_mul_of_pos_right upper some_)

theorem writePart_hashed {x : Index} (w : CmdWord) (h : x.cfg.partFn = 0) :
    writePart x w = hashPart (wExtId w) x.parts.length := by
  simp [writePart, h]

theorem writePart_named {x : Index} (w : CmdWord) (h : x.cfg.partFn = 1) : writePart x w = cPartition w := by
  simp [writePart, h]

/-- Whichever of its earlier fields fails, an INSERT or UPSERT that names a partition the index does not have is INVALID. -/
theorem writeCheck_of_part_beyond {s : State} {slot : Nat} {w : CmdWord} {x : Index} (insert : cOpcode w ≠ 0x11)
    (sees : seesIndex s slot (cIndex w) = true) (at_ : indexAt s (cIndex w) = some x) (named : x.cfg.partFn = 1)
    (beyond : x.parts.length ≤ cPartition w) : writeCheck s slot w = some .invalid := by
  unfold writeCheck
  cases reserved : reservedOk w with
  | false => simp
  | true =>
    by_cases null : wExtId w = nullId
    · simp [sees, at_, null]
    · simp [sees, at_, null, insert, named, beyond]

theorem admitWrite_of_refused {s : State} {slot seq op : Nat} {o : OutCmd} {st : Status} (h : admitting s slot seq op = some o)
    (refusal : writeCheck s slot o.word = some st) : admitWrite s slot seq op = .next (finishWith s slot seq st) := by
  simp [admitWrite, h, refusal]

theorem ciFieldsOk_of_reserved_partFn {w : CmdWord} (h : 2 ≤ (ciCfg w).partFn) : ciFieldsOk w = false := by
  have above : ¬ (ciCfg w).partFn ≤ 1 := by omega
  simp [ciFieldsOk, above]

theorem execCreateIndex_of_fields {s : State} {slot seq : Nat} {o : OutCmd} (h : admitting s slot seq 0x83 = some o)
    (fields : ciFieldsOk o.word = false) : execCreateIndex slot seq s = .next (finishWith s slot seq .invalid) := by
  simp [execCreateIndex, h, fields]

/-- Settles O59: the hash of an identifier always names a partition of the index; a partition that a command names is checked
with the command's fields, and a reserved PART_FN with those of CREATE_INDEX. -/
theorem partitionsFollowTheirFunction : Obligations.PartitionsFollowTheirFunction := by
  refine ⟨fun x w => ⟨fun hashed => ?_, writePart_named w⟩, ?_, ?_⟩
  · rw [writePart_hashed w hashed]
    exact ⟨hashPart_eq _ _, hashPart_lt _⟩
  · intro s slot seq op o x c hc h sees at_ named beyond
    obtain ⟨out, ⟨opcode, -⟩, -⟩ := admitting_spec h
    obtain ⟨insert, arm⟩ : cOpcode o.word ≠ 0x11 ∧ exec c s = admitWrite s slot seq op := by
      simp only [List.mem_cons, List.not_mem_nil, or_false, Prod.mk.injEq] at hc
      rcases hc with ⟨rfl, rfl⟩ | ⟨rfl, rfl⟩
      · exact ⟨by simp [opcode], rfl⟩
      · exact ⟨by simp [opcode], rfl⟩
    refine ⟨_, ?_, finishWith_spec .invalid out⟩
    rw [arm, admitWrite_of_refused h (writeCheck_of_part_beyond insert sees at_ named beyond)]
  · intro s slot seq o h reserved
    exact ⟨_, execCreateIndex_of_fields h (ciFieldsOk_of_reserved_partFn reserved),
      finishWith_spec .invalid (admitting_spec h).1⟩

end Sys2Proof.Machine
end

section
/-!
What the steps of the write path and of the luthier change and what they leave: the frame outside the write path, an index,
a ring and a record read after each update.
-/
namespace Sys2Proof.Machine

/-! ### The state outside the write path -/

/-- The state with everything blank that the write path and the luthier may change. Two states that agree here and in some of
the blank fields differ in the others alone (`eq_of_outside`). -/
def outside (s : State) : State :=
  { s with chans := [], rlocks := [], indexes := [], ring0 := {}, ring1 := {}, ctr := [], log := {} }

theorem eq_of_outside {s t : State} (h : outside t = outside s) :
    t = { s with chans := t.chans, rlocks := t.rlocks, indexes := t.indexes, ring0 := t.ring0, ring1 := t.ring1,
                 ctr := t.ctr, log := t.log } :=
  congrArg (fun u : State => { u with chans := t.chans, rlocks := t.rlocks, indexes := t.indexes, ring0 := t.ring0,
                                      ring1 := t.ring1, ctr := t.ctr, log := t.log }) h

@[simp] theorem outside_withCmd (s : State) (slot seq : Nat) (f : OutCmd → OutCmd) :
    outside (withCmd s slot seq f) = outside s := rfl
@[simp] theorem outside_setStage (s : State) (slot seq : Nat) (st : Stage) : outside (setStage s slot seq st) = outside s := rfl
@[simp] theorem outside_withIndex (s : State) (i : Nat) (f : Index → Index) : outside (withIndex s i f) = outside s := rfl
@[simp] theorem outside_withPart (s : State) (i pn : Nat) (f : Part → Part) : outside (withPart s i pn f) = outside s := rfl
@[simp] theorem outside_bump (s : State) (sub n : Nat) : outside (bump s sub n) = outside s := rfl
@[simp] theorem outside_raise (s : State) (code sev kind source handle index : Nat) (args : List Nat) :
    outside (raise s code sev kind source handle index args) = outside s := rfl
@[simp] theorem outside_setRing (s : State) (i : Nat) (r : Ring) : outside (setRing s i r) = outside s := by
  unfold setRing; split <;> rfl

/-! ### The updates that are named after what they do to an index or a ring -/

@[simp] theorem setRing_kept (s : State) (i : Nat) (r : Ring) :
    (setRing s i r).chans = s.chans ∧ (setRing s i r).rlocks = s.rlocks ∧ (setRing s i r).indexes = s.indexes
    ∧ (setRing s i r).ctr = s.ctr ∧ (setRing s i r).log = s.log ∧ (setRing s i r).time = s.time
    ∧ (setRing s i r).dict = s.dict := by
  unfold setRing; split <;> and_intros <;> rfl

@[simp] theorem withEntries_kept (s : State) (i : Nat) (p : JEntry → Bool) (f : JEntry → JEntry) :
    outside (withEntries s i p f) = outside s ∧ (withEntries s i p f).chans = s.chans
    ∧ (withEntries s i p f).rlocks = s.rlocks ∧ (withEntries s i p f).indexes = s.indexes
    ∧ (withEntries s i p f).ctr = s.ctr ∧ (withEntries s i p f).log = s.log := by
  simp [withEntries]

@[simp] theorem retire_kept (s : State) (i : Nat) :
    outside (retire s i) = outside s ∧ (retire s i).chans = s.chans ∧ (retire s i).rlocks = s.rlocks
    ∧ (retire s i).indexes = s.indexes ∧ (retire s i).ctr = s.ctr ∧ (retire s i).log = s.log := by
  simp [retire]

@[simp] theorem unlock_kept (s : State) (e : JEntry) :
    outside (unlock s e) = outside s ∧ (unlock s e).chans = s.chans ∧ (unlock s e).indexes = s.indexes
    ∧ (unlock s e).ring0 = s.ring0 ∧ (unlock s e).ring1 = s.ring1 ∧ (unlock s e).ctr = s.ctr ∧ (unlock s e).log = s.log := by
  and_intros <;> rfl

@[simp] theorem closeBatch_kept (s : State) (i : Nat) :
    outside (closeBatch s i) = outside s ∧ (closeBatch s i).chans = s.chans ∧ (closeBatch s i).rlocks = s.rlocks
    ∧ (closeBatch s i).ring0 = s.ring0 ∧ (closeBatch s i).ring1 = s.ring1 ∧ (closeBatch s i).ctr = s.ctr
    ∧ (closeBatch s i).log = s.log := by
  simp [closeBatch]

@[simp] theorem joinBatch_kept (s : State) (i : Nat) (w : Work) :
    outside (joinBatch s i w) = outside s ∧ (joinBatch s i w).chans = s.chans ∧ (joinBatch s i w).rlocks = s.rlocks
    ∧ (joinBatch s i w).ring0 = s.ring0 ∧ (joinBatch s i w).ring1 = s.ring1 ∧ (joinBatch s i w).ctr = s.ctr
    ∧ (joinBatch s i w).log = s.log := by
  simp [joinBatch]

/-- The end of a command changes its channel alone, whether the command is outstanding or not. -/
@[simp] theorem finish_kept (s : State) (slot seq : Nat) (k : Compl) :
    outside (finish s slot seq k) = outside s ∧ (finish s slot seq k).rlocks = s.rlocks
    ∧ (finish s slot seq k).indexes = s.indexes ∧ (finish s slot seq k).ring0 = s.ring0
    ∧ (finish s slot seq k).ring1 = s.ring1 ∧ (finish s slot seq k).ctr = s.ctr ∧ (finish s slot seq k).log = s.log := by
  cases absent : outCmd s slot seq with
  | none => simp [finish_absent k absent]
  | some o =>
    obtain ⟨only, -⟩ := (finish_spec k absent).2
    rw [only]
    and_intros <;> rfl

/-! ### A channel after an update -/

theorem chan_congr {s t : State} (h : t.chans = s.chans) (slot : Nat) : chan t slot = chan s slot := by
  simp [chan, h]

theorem outCmd_congr {s t : State} (h : t.chans = s.chans) (slot seq : Nat) : outCmd t slot seq = outCmd s slot seq := by
  simp [outCmd, chan_congr h]

/-- The end of a command touches no other channel, whether the command is outstanding or not. -/
theorem chan_finish_other (s : State) {slot n : Nat} (seq : Nat) (k : Compl) (h : n ≠ slot) :
    chan (finish s slot seq k) n = chan s n := by
  cases absent : outCmd s slot seq with
  | none => rw [finish_absent k absent]
  | some o =>
    obtain ⟨-, others, -⟩ := (finish_spec k absent).2
    exact others n h

/-! ### An index after an update -/

theorem indexAt_congr {s t : State} (h : t.indexes = s.indexes) (i : Nat) : indexAt t i = indexAt s i := by
  simp [indexAt, h]

theorem indexAt_withIndex (s : State) (i j : Nat) (f : Index → Index) :
    indexAt (withIndex s i f) j = if j = i then (indexAt s j).map f else indexAt s j := look_alter ..

@[simp] theorem indexAt_withIndex_same (s : State) (i : Nat) (f : Index → Index) :
    indexAt (withIndex s i f) i = (indexAt s i).map f := by
  simp [indexAt_withIndex]

theorem indexAt_withIndex_other (s : State) {i j : Nat} (f : Index → Index) (h : j ≠ i) :
    indexAt (withIndex s i f) j = indexAt s j := by
  simp [indexAt_withIndex, h]

@[simp] theorem indexAt_bump (s : State) (sub n i : Nat) : indexAt (bump s sub n) i = indexAt s i := rfl
@[simp] theorem indexAt_setRing (s : State) (i : Nat) (r : Ring) (j : Nat) : indexAt (setRing s i r) j = indexAt s j :=
  indexAt_congr (by simp) j
@[simp] theorem indexAt_withEntries (s : State) (i : Nat) (p : JEntry → Bool) (f : JEntry → JEntry) (j : Nat) :
    indexAt (withEntries s i p f) j = indexAt s j := indexAt_congr (by simp) j

/-! ### A ring after an update -/

theorem ringOf_congr {s t : State} (h0 : t.ring0 = s.ring0) (h1 : t.ring1 = s.ring1) (i : Nat) : ringOf t i = ringOf s i := by
  simp [ringOf, h0, h1]

@[simp] theorem ringOf_setRing_same (s : State) (i : Nat) (r : Ring) : ringOf (setRing s i r) i = r := by
  unfold ringOf setRing; split <;> rfl

/-- The rings serve the indexes of even and of odd number. -/
theorem ringOf_setRing_other (s : State) (i : Nat) (r : Ring) : ringOf (setRing s i r) (i + 1) = ringOf s (i + 1) := by
  by_cases even : i % 2 = 0
  · have odd : (i + 1) % 2 ≠ 0 := by omega
    simp [ringOf, setRing, even, odd]
  · have next : (i + 1) % 2 = 0 := by omega
    simp [ringOf, setRing, even, next]

end Sys2Proof.Machine
end

section
/-!
WRITE_ACCEPT: a write is taken into the journal ring, the open batch and the range-lock table (R53, R54, R134, R136, R215),
and then its command goes on or ends.
-/
namespace Sys2Proof.Machine

/-! ### The parts of an acceptance -/

/-- The journal entry of an accepted write (R53). -/
def journalEntry (s : State) (slot seq : Nat) (o : OutCmd) (x : Index) (payload : List Byte) (off lag : Nat) : JEntry :=
  { off := off, len := 64 + roundUp payload.length 64, word := o.word, slot := slot, gen := (chan s slot).gen, seq := seq,
    ord := o.ord, index := cIndex o.word, epoch := (batchNow s x).epoch, acceptTime := seenTime s lag, payload := payload }

/-- Its range-lock entry (R215). -/
def lockEntry (s : State) (slot seq : Nat) (o : OutCmd) : RLock :=
  { slot := slot, gen := (chan s slot).gen, seq := seq, ord := o.ord, index := cIndex o.word, id := wExtId o.word }

/-- An entry goes behind the others of a ring. -/
def ringAppend (s : State) (i : Nat) (e : JEntry) : State :=
  setRing s i { tail := e.off + e.len, entries := (ringOf s i).entries ++ [e] }

/-- A range-lock entry goes behind the others. -/
def addLock (s : State) (l : RLock) : State := { s with rlocks := s.rlocks ++ [l] }

/-- One more write is in the batch that takes items; but for a DELETE, it holds a slot of its partition. -/
def countWrite (b : Batch) (w : CmdWord) (x : Index) : Index :=
  { x with
    open_ := some { b with writes := b.writes + 1 },
    parts := if cOpcode w != 0x11 then x.parts.modify (writePart x w) (fun p => { p with reserved := p.reserved + 1 })
             else x.parts }

/-- The write stands in its ring and its batch. -/
def batched (s : State) (slot seq : Nat) (o : OutCmd) (x : Index) (payload : List Byte) (off lag : Nat) : State :=
  withIndex (ringAppend s (cIndex o.word) (journalEntry s slot seq o x payload off lag)) (cIndex o.word)
    (countWrite (batchNow s x) o.word)

/-- It stands in the range-lock table too. -/
def locked (s : State) (slot seq : Nat) (o : OutCmd) (x : Index) (payload : List Byte) (off lag : Nat) : State :=
  addLock (batched s slot seq o x payload off lag) (lockEntry (batched s slot seq o x payload off lag) slot seq o)

/-- The batch that it has filled is closed; its command has not been told. -/
def journaled (s : State) (slot seq : Nat) (o : OutCmd) (x : Index) (payload : List Byte) (off lag : Nat) : State :=
  if ctl (locked s slot seq o x payload off lag) 0x680002 ≤ (batchNow s x).writes + 1
  then closeBatch (locked s slot seq o x payload off lag) (cIndex o.word) else locked s slot seq o x payload off lag

section
variable (s : State) (slot seq : Nat) (o : OutCmd) (x : Index) (payload : List Byte) (off lag : Nat)

/-- The command that is accepted is marked, and then goes on where the host asked for VISIBLE, else ends with OK (R212). -/
theorem accept_eq : accept s slot seq o x payload off lag =
    if cVisible o.word
    then setStage (withCmd (journaled s slot seq o x payload off lag) slot seq (fun o => { o with accepted := true })) slot seq
      .running
    else finishWith (withCmd (journaled s slot seq o x payload off lag) slot seq (fun o => { o with accepted := true })) slot seq
      .ok := rfl

@[simp] theorem ringAppend_kept (i : Nat) (e : JEntry) :
    outside (ringAppend s i e) = outside s ∧ (ringAppend s i e).chans = s.chans ∧ (ringAppend s i e).rlocks = s.rlocks
    ∧ (ringAppend s i e).indexes = s.indexes ∧ (ringAppend s i e).ctr = s.ctr ∧ (ringAppend s i e).log = s.log := by
  simp [ringAppend]

@[simp] theorem batched_kept :
    outside (batched s slot seq o x payload off lag) = outside s
    ∧ (batched s slot seq o x payload off lag).chans = s.chans ∧ (batched s slot seq o x payload off lag).rlocks = s.rlocks
    ∧ (batched s slot seq o x payload off lag).ctr = s.ctr ∧ (batched s slot seq o x payload off lag).log = s.log := by
  simp [batched]

@[simp] theorem addLock_kept (l : RLock) :
    outside (addLock s l) = outside s ∧ (addLock s l).chans = s.chans ∧ (addLock s l).indexes = s.indexes
    ∧ (addLock s l).ring0 = s.ring0 ∧ (addLock s l).ring1 = s.ring1 ∧ (addLock s l).ctr = s.ctr ∧ (addLock s l).log = s.log := by
  and_intros <;> rfl

/-- The lock names the channel as it was when the write was accepted: journaling does not touch it. -/
theorem lockEntry_batched : lockEntry (batched s slot seq o x payload off lag) slot seq o = lockEntry s slot seq o := by
  simp [lockEntry, chan_congr (batched_kept s slot seq o x payload off lag).2.1]

@[simp] theorem locked_kept :
    outside (locked s slot seq o x payload off lag) = outside s
    ∧ (locked s slot seq o x payload off lag).chans = s.chans
    ∧ (locked s slot seq o x payload off lag).rlocks = s.rlocks ++ [lockEntry s slot seq o]
    ∧ (locked s slot seq o x payload off lag).ctr = s.ctr ∧ (locked s slot seq o x payload off lag).log = s.log := by
  refine ⟨?_, ?_, ?_, ?_, ?_⟩
  case refine_3 => rw [locked, lockEntry_batched, addLock, (batched_kept ..).2.2.1]
  all_goals simp [locked]

@[simp] theorem journaled_kept :
    outside (journaled s slot seq o x payload off lag) = outside s
    ∧ (journaled s slot seq o x payload off lag).chans = s.chans
    ∧ (journaled s slot seq o x payload off lag).rlocks = s.rlocks ++ [lockEntry s slot seq o]
    ∧ (journaled s slot seq o x payload off lag).ctr = s.ctr ∧ (journaled s slot seq o x payload off lag).log = s.log := by
  unfold journaled
  split <;> simp

/-- Whether the batch closes makes no difference to a ring. -/
theorem ringOf_journaled (i : Nat) : ringOf (journaled s slot seq o x payload off lag) i
    = ringOf (ringAppend s (cIndex o.word) (journalEntry s slot seq o x payload off lag)) i := by
  have same : ringOf (locked s slot seq o x payload off lag) i
      = ringOf (ringAppend s (cIndex o.word) (journalEntry s slot seq o x payload off lag)) i := rfl
  unfold journaled
  split
  · rw [← same]; exact ringOf_congr (by simp) (by simp) i
  · exact same

theorem indexAt_journaled_other {j : Nat} (h : j ≠ cIndex o.word) :
    indexAt (journaled s slot seq o x payload off lag) j = indexAt s j := by
  have same : indexAt (locked s slot seq o x payload off lag) j = indexAt s j := by
    calc indexAt (locked s slot seq o x payload off lag) j
        = indexAt (batched s slot seq o x payload off lag) j := rfl
      _ = indexAt (ringAppend s (cIndex o.word) (journalEntry s slot seq o x payload off lag)) j :=
          indexAt_withIndex_other _ _ h
      _ = indexAt s j := indexAt_congr (by simp) j
  unfold journaled
  split
  · rw [closeBatch, indexAt_withIndex_other _ _ h, same]
  · exact same

/-! ### What an acceptance leaves -/

@[simp] theorem accept_kept :
    outside (accept s slot seq o x payload off lag) = outside s
    ∧ (accept s slot seq o x payload off lag).rlocks = s.rlocks ++ [lockEntry s slot seq o]
    ∧ (accept s slot seq o x payload off lag).ctr = s.ctr ∧ (accept s slot seq o x payload off lag).log = s.log := by
  rw [accept_eq]
  split <;> simp [finishWith]

theorem ringOf_accept (i : Nat) : ringOf (accept s slot seq o x payload off lag) i
    = ringOf (ringAppend s (cIndex o.word) (journalEntry s slot seq o x payload off lag)) i := by
  rw [← ringOf_journaled, accept_eq]
  split <;> exact ringOf_congr (by simp [finishWith]) (by simp [finishWith]) i

theorem indexAt_accept_other {j : Nat} (h : j ≠ cIndex o.word) :
    indexAt (accept s slot seq o x payload off lag) j = indexAt s j := by
  rw [← indexAt_journaled_other s slot seq o x payload off lag h, accept_eq]
  split <;> exact indexAt_congr (by simp [finishWith]) j

theorem chan_accept_other {n : Nat} (h : n ≠ slot) : chan (accept s slot seq o x payload off lag) n = chan s n := by
  have marked : chan (withCmd (journaled s slot seq o x payload off lag) slot seq (fun o => { o with accepted := true })) n
      = chan s n := by
    rw [chan_withCmd, if_neg h, chan_congr (journaled_kept s slot seq o x payload off lag).2.1]
  rw [accept_eq]
  split
  · rw [setStage, chan_withCmd, if_neg h, marked]
  · rw [finishWith, chan_finish_other _ _ _ h, marked]

variable {s slot seq o}

/-- The command of the write, marked as accepted. -/
theorem outCmd_marked (out : outCmd s slot seq = some o) :
    outCmd (withCmd (journaled s slot seq o x payload off lag) slot seq (fun o => { o with accepted := true })) slot seq
      = some { o with accepted := true } := by
  have seqKept : ∀ o : OutCmd, ({ o with accepted := true } : OutCmd).seq = o.seq := fun _ => rfl
  rw [outCmd_withCmd seqKept, outCmd_congr (journaled_kept ..).2.1, out]
  simp

theorem finished_accept (out : outCmd s slot seq = some o) (visible : cVisible o.word = false) :
    Finished (accept s slot seq o x payload off lag) slot seq { status := .ok } := by
  rw [accept_eq, visible]
  exact (finishWith_spec .ok (outCmd_marked x payload off lag out)).1

theorem outCmd_accept_visible (out : outCmd s slot seq = some o) (visible : cVisible o.word = true) :
    outCmd (accept s slot seq o x payload off lag) slot seq = some { o with stage := .running, accepted := true } := by
  rw [accept_eq, visible]
  exact (setStage_spec .running (outCmd_marked x payload off lag out)).1

end

/-! ### The next write of its channel -/

/-- A write that waits, and whose channel has no earlier write that does, is accepted once nothing holds it. -/
theorem execWriteAccept_of_ready {s : State} {slot seq off : Nat} (lag : Nat) {o : OutCmd} {x : Index} {bytes : List Byte}
    (out : outCmd s slot seq = some o) (waits : isUnaccepted o = true) (fetched : isFetched o = false)
    (first : ∀ b, b ∈ earlier (chan s slot) seq → isUnaccepted b = false)
    (payload : (if cOpcode o.word = 0x11 then some [] else (bufOf o .payload).bind id) = some bytes)
    (sees : seesIndex s slot (cIndex o.word) = true) (at_ : indexAt s (cIndex o.word) = some x)
    (checks : acceptCheck s x o.word bytes = none) (lock : rlockFree s slot ≠ 0)
    (room : ringPlace s (ringOf s (cIndex o.word)) (64 + roundUp bytes.length 64) = some off) :
    execWriteAccept slot seq lag s = .next (accept s slot seq o x bytes off lag) := by
  have next : (earlier (chan s slot) seq).any isUnaccepted = false := List.any_eq_false.2 (fun b hb => by simp [first b hb])
  simp only [execWriteAccept, out, payload, waits, fetched, next, sees, at_, checks, room, lock, if_false, Bool.not_true,
    Bool.not_false, Bool.and_true, Bool.false_eq_true]

/-- A write that waits is not accepted and no longer fetched. -/
theorem isUnaccepted_of_waiting {o : OutCmd} (stage : o.stage = .waiting)
    (write : cOpcode o.word = 0x10 ∨ cOpcode o.word = 0x11 ∨ cOpcode o.word = 0x12) :
    isUnaccepted o = true ∧ isFetched o = false := by
  rcases write with h | h | h <;> simp [isUnaccepted, isFetched, laneOf, stage, h]

/-- Settles O20: the answer of WRITE_ACCEPT is `accept`, whose parts were followed above. -/
theorem acceptedWritesAreJournaled : Obligations.AcceptedWritesAreJournaled := by
  intro s slot seq off lag o x bytes out stage write first delete insert sees at_ checks lock room
  obtain ⟨waits, fetched⟩ := isUnaccepted_of_waiting stage write
  have payload : (if cOpcode o.word = 0x11 then some [] else (bufOf o .payload).bind id) = some bytes := by
    by_cases h : cOpcode o.word = 0x11
    · rw [if_pos h, delete h]
    · rw [if_neg h, insert h]; rfl
  have answer := execWriteAccept_of_ready lag out waits fetched first payload sees at_ checks lock room
  obtain ⟨same, locks, ctr, log⟩ := accept_kept s slot seq o x bytes off lag
  refine ⟨accept s slot seq o x bytes off lag, journalEntry s slot seq o x bytes off lag, answer, ?_, ?_, rfl, rfl, rfl, rfl,
    rfl, rfl, rfl, rfl, rfl, locks, finished_accept x bytes off lag out, outCmd_accept_visible x bytes off lag out,
    fun n h => chan_accept_other s slot seq o x bytes off lag h,
    fun j h => indexAt_accept_other s slot seq o x bytes off lag h, ?_⟩
  · rw [ringOf_accept, ringAppend, ringOf_setRing_same]
  · rw [ringOf_accept, ringAppend, ringOf_setRing_other]
  · exact (eq_of_outside same).trans (by rw [ctr, log])

end Sys2Proof.Machine
end

section
/-!
Partitions, records and chains after an update, and the steps that leave every partition of every index as it was.
-/
namespace Sys2Proof.Machine

/-! ### A partition after an update -/

/-- An index whose partition `pn` is changed. -/
def changePart (pn : Nat) (f : Part → Part) (x : Index) : Index := { x with parts := x.parts.modify pn f }

theorem indexAt_withPart {s : State} {i : Nat} {x : Index} (at_ : indexAt s i = some x) (pn : Nat) (f : Part → Part) :
    indexAt (withPart s i pn f) i = some (changePart pn f x) := by
  show indexAt (withIndex s i (changePart pn f)) i = _
  rw [indexAt_withIndex_same, at_]; rfl

theorem indexAt_withPart_other (s : State) {i j : Nat} (pn : Nat) (f : Part → Part) (h : j ≠ i) :
    indexAt (withPart s i pn f) j = indexAt s j := indexAt_withIndex_other s _ h

theorem partAt_changePart (x : Index) (pn n : Nat) (f : Part → Part) :
    partAt (changePart pn f x) n = (partAt x n).map (fun p => if pn = n then f p else p) :=
  List.getElem?_modify f pn x.parts n

theorem partAt_changePart_same {x : Index} {pn : Nat} {p : Part} (part : partAt x pn = some p) (f : Part → Part) :
    partAt (changePart pn f x) pn = some (f p) := by
  simp [partAt_changePart, part]

/-! ### A record and a chain after an update -/

@[simp] theorem recOf_setRec_same (p : Part) (slot : Nat) (r : Rec) : recOf (setRec p slot r) slot = r := by
  unfold recOf setRec
  dsimp only
  split
  · next blank => rw [look_forget_same, blank]; rfl
  · rw [look_keep_same]; rfl

theorem recOf_setRec_other (p : Part) {slot n : Nat} (r : Rec) (h : n ≠ slot) : recOf (setRec p slot r) n = recOf p n := by
  unfold recOf setRec
  dsimp only
  split
  · rw [look_forget_other _ h]
  · rw [look_keep_other _ _ h]

theorem recOf_setRec (p : Part) (slot n : Nat) (r : Rec) :
    recOf (setRec p slot r) n = if n = slot then r else recOf p n := by
  by_cases h : n = slot
  · simp [h]
  · simp [h, recOf_setRec_other p r h]

@[simp] theorem chainOf_setChain_same (p : Part) (m : Nat) (c : Chain) : chainOf (setChain p m c) m = c := by
  simp [chainOf, setChain]

/-- A change of a record's side-list entry appends nothing to a chain. -/
theorem next_withSide (p : Part) (slot gen : Nat) (f : SideEntry → SideEntry) (m : Nat) :
    (chainOf (withSide p slot gen f) m).next = (chainOf p m).next := by
  unfold chainOf withSide
  dsimp only
  induction p.chains with
  | nil => rfl
  | cons c r ih =>
    rw [List.map_cons, look_cons, look_cons]
    split
    · rfl
    · exact ih

/-! ### A batch that luthier work joins -/

theorem indexAt_joinBatch {s : State} {i : Nat} {x : Index} (at_ : indexAt s i = some x) (w : Work) :
    indexAt (joinBatch s i w) i
      = some { x with open_ := some { batchNow s x with works := (batchNow s x).works ++ [w] } } := by
  simp [joinBatch, at_]

theorem indexAt_joinBatch_other (s : State) {i j : Nat} (w : Work) (h : j ≠ i) :
    indexAt (joinBatch s i w) j = indexAt s j := indexAt_withIndex_other s _ h

/-! ### Steps that keep every partition -/

/-- `t` differs from `s` in the log and in what its indexes hold beside their partitions. -/
structure PartsKept (s t : State) : Prop where
  outside : outside t = outside s
  chans : t.chans = s.chans
  rlocks : t.rlocks = s.rlocks
  ring0 : t.ring0 = s.ring0
  ring1 : t.ring1 = s.ring1
  ctr : t.ctr = s.ctr
  parts : ∀ j, (indexAt t j).map Index.parts = (indexAt s j).map Index.parts

namespace PartsKept

theorem refl (s : State) : PartsKept s s := ⟨rfl, rfl, rfl, rfl, rfl, rfl, fun _ => rfl⟩

theorem trans {s t u : State} (a : PartsKept s t) (b : PartsKept t u) : PartsKept s u where
  outside := b.outside.trans a.outside
  chans := b.chans.trans a.chans
  rlocks := b.rlocks.trans a.rlocks
  ring0 := b.ring0.trans a.ring0
  ring1 := b.ring1.trans a.ring1
  ctr := b.ctr.trans a.ctr
  parts j := (b.parts j).trans (a.parts j)

theorem withIndex (s : State) (i : Nat) {f : Index → Index} (h : ∀ x, (f x).parts = x.parts) :
    PartsKept s (withIndex s i f) where
  outside := rfl
  chans := rfl
  rlocks := rfl
  ring0 := rfl
  ring1 := rfl
  ctr := rfl
  parts j := by
    rw [indexAt_withIndex]
    split
    · cases indexAt s j <;> simp [h]
    · rfl

theorem raise (s : State) (code sev kind source handle index : Nat) (args : List Nat) :
    PartsKept s (raise s code sev kind source handle index args) := ⟨rfl, rfl, rfl, rfl, rfl, rfl, fun _ => rfl⟩

theorem ite {s t u : State} {c : Prop} [Decidable c] (h : PartsKept s t) (g : PartsKept s u) :
    PartsKept s (if c then t else u) := by
  split
  · exact h
  · exact g

theorem foldl {α : Type} {f : State → α → State} (h : ∀ u a, PartsKept u (f u a)) (l : List α) (s : State) :
    PartsKept s (l.foldl f s) := by
  induction l generalizing s with
  | nil => exact refl s
  | cons a r ih => exact (h s a).trans (ih (f s a))

/-- The partitions of an index are still there. -/
theorem partAt_eq {s t : State} (h : PartsKept s t) {i : Nat} {x : Index} (at_ : indexAt s i = some x) :
    ∃ y, indexAt t i = some y ∧ ∀ pn, partAt y pn = partAt x pn := by
  have same := h.parts i
  rw [at_, Option.map_some] at same
  obtain ⟨y, aty, parts⟩ := Option.map_eq_some_iff.1 same
  exact ⟨y, aty, fun pn => by rw [partAt, partAt, parts]⟩

end PartsKept

theorem leaveRun_partsKept (s : State) (i : Nat) (high : Option Nat) : PartsKept s (leaveRun s i high) := by
  cases high with
  | none => exact .refl s
  | some n => exact (PartsKept.raise ..).trans (.withIndex _ _ (fun _ => rfl))

theorem leavePress_partsKept (s : State) (i : Nat) (high : Option Nat) : PartsKept s (leavePress s i high) := by
  cases high with
  | none => exact .withIndex _ _ (fun _ => rfl)
  | some n => exact .refl s

theorem pressIndex_partsKept (m high : Nat) (s : State) (i : Nat) (x : Index) : PartsKept s (pressIndex m high s i x) :=
  .ite (leaveRun_partsKept ..) (.ite (leavePress_partsKept ..) (.refl s))

theorem pressCheck_partsKept (s : State) (m : Nat) : PartsKept s (pressCheck s m) :=
  .foldl (fun u _ => .ite (pressIndex_partsKept ..) (.refl u)) _ s

end Sys2Proof.Machine
end

section
/-!
Repair scans, the low-water epoch, release, reclamation and rebuilt records (R27, R148-R151, R395).
-/
namespace Sys2Proof.Machine

/-! ### Repair scans (R148) -/

theorem execRepairScanStart_of_due {s : State} {i pn : Nat} {x : Index} {p : Part} (at_ : indexAt s i = some x)
    (part : partAt x pn = some p) (may : luthierMay x = true) (none_ : p.scan = none) (due : scanDue s x p = true) :
    execRepairScanStart i pn s = .next (withPart s i pn (fun q => { q with scan := some { set := repairSet x p } })) := by
  simp [execRepairScanStart, at_, part, may, none_, due]

/-- Slots kept one after another: a slot that comes up has the value of its entries, where these agree. -/
theorem look_foldl_keep {α β : Type} {key : β → Nat} {val : β → α} {k : Nat} {v : α} (set : List β) (l : List (Nat × α))
    (agree : ∀ b, b ∈ set → key b = k → val b = v) (there : look l k = some v ∨ ∃ b, b ∈ set ∧ key b = k) :
    look (set.foldl (fun l b => keep (key b) (val b) l) l) k = some v := by
  induction set generalizing l with
  | nil => simpa using there
  | cons b r ih =>
    refine ih (keep (key b) (val b) l) (fun c hc => agree c (List.mem_cons_of_mem b hc)) ?_
    by_cases here : key b = k
    · left
      rw [here, look_keep_same, agree b List.mem_cons_self here]
    · rw [look_keep_other _ _ (Ne.symm here)]
      rcases there with old | ⟨c, hc, ck⟩
      · exact .inl old
      · rcases List.mem_cons.1 hc with rfl | hr
        · exact absurd ck here
        · exact .inr ⟨c, hr, ck⟩

/-- The partition that a scan leaves: edges repaired, the slots of its fresh set with their repair epoch. -/
def scannedPart (s : State) (x : Index) (pn pick : Nat) (p : Part) (sc : Scan) : Part :=
  let r := repairScan x pn ((freshSet p sc.set).map Prod.fst) pick p
  { r.1 with
    scan := some { sc with epoch := some (batchNow s x).epoch }
    repair := (freshSet p sc.set).foldl (fun l n => keep n.1 ((batchNow s x).epoch, n.2) l) r.1.repair }

theorem execRepairScanDone_of_scan {s : State} {i pn : Nat} {x : Index} {p : Part} {sc : Scan} (at_ : indexAt s i = some x)
    (part : partAt x pn = some p) (scan : p.scan = some sc) (out : sc.epoch = none) (live : x.dropping = none)
    (left : epochsLeft x = true) (pick : Nat) : execRepairScanDone i pn pick s
      = .next (joinBatch (bump (withPart s i pn (fun _ => scannedPart s x pn pick p sc)) 0x35
          (repairScan x pn ((freshSet p sc.set).map Prod.fst) pick p).2) i (.scan pn)) := by
  simp [execRepairScanDone, at_, part, scan, out, live, left, scannedPart]

/-- A slot of the set whose generation is still the same is in the fresh set, and every entry that names it has that
generation (R27). -/
theorem repair_scannedPart (s : State) (x : Index) (pn pick : Nat) (p : Part) (sc : Scan) {n : Nat × Nat} (member : n ∈ sc.set)
    (same : (recOf p n.1).gen = n.2) :
    look (scannedPart s x pn pick p sc).repair n.1 = some ((batchNow s x).epoch, n.2) := by
  refine look_foldl_keep (key := Prod.fst) (freshSet p sc.set) _ (fun m hm slot => ?_) (.inr ⟨n, ?_, rfl⟩)
  · have fresh : (recOf p m.1).gen = m.2 := by simpa using (List.mem_filter.1 hm).2
    rw [← fresh, slot, same]
  · exact List.mem_filter.2 ⟨member, by simpa using same⟩

theorem repairScansSetTheRepairEpoch : Claims.RepairScansSetTheRepairEpoch := by
  intro s i pn x p at_ part
  refine ⟨execRepairScanStart_of_due at_ part, fun sc scan out live left pick => ?_⟩
  have scanned := indexAt_withPart at_ pn (fun _ => scannedPart s x pn pick p sc)
  refine ⟨_, _, scannedPart s x pn pick p sc, _, execRepairScanDone_of_scan at_ part scan out live left pick,
    indexAt_joinBatch ((indexAt_bump ..).trans scanned) _, partAt_changePart_same part _,
    fun n => repair_scannedPart s x pn pick p sc, rfl, rfl, by simp, fun j other => ?_, rfl⟩
  rw [indexAt_joinBatch_other _ _ other, indexAt_bump, indexAt_withPart_other _ _ _ other]

/-! ### The low-water epoch (R149) -/

/-- It is the least of CURRENT_EPOCH and the epochs in flight. -/
theorem trueLowWater_least (s : State) (i : Nat) (x : Index) :
    trueLowWater s i x ∈ x.current :: epochsHeld s i ∧ ∀ e, e ∈ x.current :: epochsHeld s i → trueLowWater s i x ≤ e :=
  List.min?_eq_some_iff.1 (List.min?_cons' (x := x.current) (xs := epochsHeld s i))

theorem lowWaterIsTheLowestEpochInFlight : Claims.LowWaterIsTheLowestEpochInFlight := by
  intro s i x at_
  obtain ⟨member, least⟩ := trueLowWater_least s i x
  refine ⟨withIndex s i (fun y => { y with lowWater := trueLowWater s i x }), { x with lowWater := trueLowWater s i x }, ?_, ?_,
    rfl, List.mem_cons.1 member, least _ List.mem_cons_self, fun e he => least e (List.mem_cons_of_mem _ he),
    fun j other => indexAt_withIndex_other s _ other, rfl⟩
  · show execLowWaterUpdate i s = _
    simp [execLowWaterUpdate, at_]
  · simp [at_]

/-! ### Release (R150) -/

/-- A chain without the entries before `upTo` and without the marks at or below the low-water epoch. -/
def releasedChain (c : Chain) (upTo lowWater : Nat) : Chain :=
  { c with
    entries := c.entries.filter (fun e => !(decide (e.pos < upTo)))
    marks := c.marks.filter (fun y => !(decide (y.2 ≤ lowWater)))
    chunks := dropChunks (sumOf (c.chunks.map Prod.snd) - c.entries.length
      + (c.entries.filter (fun e => decide (e.pos < upTo))).length) c.chunks }

/-- The partition whose chain on a stack is released. -/
def releasedPart (stack upTo lowWater : Nat) (c : Chain) (p : Part) : Part :=
  setChain (clearSideBits p (c.entries.filter (fun e => decide (e.pos < upTo)))) stack (releasedChain c upTo lowWater)

theorem execEntryRelease_of_mark {s : State} {i pn stack : Nat} {x : Index} {p : Part} {m : Nat × Nat}
    (at_ : indexAt s i = some x) (part : partAt x pn = some p) (may : luthierMay x = true)
    (last : ((chainOf p stack).marks.filter (fun m => decide (m.2 ≤ x.lowWater))).getLast? = some m) :
    execEntryRelease i pn stack s
      = .next (pressCheck (withPart s i pn (releasedPart stack m.1 x.lowWater (chainOf p stack))) stack) := by
  simp only [execEntryRelease, at_, part, last, may]
  rfl

/-- With no epoch left the luthier has nothing that it may do (R137). -/
theorem luthierMay_of_no_epochs {x : Index} (none_ : epochsLeft x = false) : luthierMay x = false := by
  simp [luthierMay, none_]

theorem execEntryRelease_of_idle {s : State} {i pn : Nat} {x : Index} {p : Part} (at_ : indexAt s i = some x)
    (part : partAt x pn = some p) (may : luthierMay x = false) (stack : Nat) : execEntryRelease i pn stack s = .next s := by
  simp only [execEntryRelease, at_, part, may]
  split <;> rfl

/-! ### Reclamation (R151) -/

/-- The record that a reclaimed slot keeps: its generation and what is left of its code. -/
def reclaimedRec (r : Rec) : Rec :=
  { r with
    extId := nullId, filterTag := 0, commit := noEpoch, state := 0, delete := noEpoch, codeVer := 0, nbrCount := 0,
    nbr := [], sketch := [] }

/-- The partition of a reclaimed slot. -/
def reclaimedPart (p : Part) (slot : Nat) : Part :=
  let q := setRec p slot (reclaimedRec (recOf p slot))
  { q with repair := forget q.repair slot, deletedAt := forget q.deletedAt slot }

theorem execSlotReclaim_of_reachless {s : State} {i pn slot e gen : Nat} {x : Index} {p : Part} (at_ : indexAt s i = some x)
    (part : partAt x pn = some p) (repaired : look p.repair slot = some (e, gen)) (same : (recOf p slot).gen = gen)
    (may : luthierMay x = true) (live : isLive (recOf p slot) = true) (deleted : deletedBy (recOf p slot) x.current = true)
    (published : e ≤ x.current) (low : e ≤ x.lowWater) (side : isInSide (recOf p slot) = false)
    (mirror : ∀ m, m ∈ p.mirror → m.slot ≠ slot) :
    execSlotReclaim i pn slot s = .next (bump (withPart s i pn (fun _ => reclaimedPart p slot)) 0x36 1) := by
  have unmirrored : p.mirror.any (fun m => m.slot == slot) = false :=
    List.any_eq_false.2 (fun m hm => by simpa using mirror m hm)
  simp [execSlotReclaim, at_, part, repaired, same, may, live, deleted, Nat.not_lt.2 published, Nat.not_lt.2 low, side,
    unmirrored, reclaimedPart, reclaimedRec]

theorem execSlotReclaim_of_idle {s : State} {i pn : Nat} {x : Index} {p : Part} (at_ : indexAt s i = some x)
    (part : partAt x pn = some p) (may : luthierMay x = false) (slot : Nat) : execSlotReclaim i pn slot s = .next s := by
  simp only [execSlotReclaim, at_, part, may]
  split <;> rfl

/-- The counter of reclaimed slots is 64 bits wide and wraps (R89). -/
theorem counter_bump_reclaimed (s : State) : counter (bump s 0x36 1) 0x36 = (counter s 0x36 + 1) % 2 ^ 64 := by
  have wide : isWide 0x36 = true := by decide
  simp only [bump, wide, if_true]
  generalize (counter s 0x36 + 1) % 2 ^ 64 = w
  by_cases zero : w = 0 <;> simp [counter, zero]

theorem releasedEntriesAndSlotsAreFreed : Claims.ReleasedEntriesAndSlotsAreFreed := by
  intro s i pn x p at_ part _
  refine ⟨fun stack m may last => ?_, fun slot e gen repaired same may live deleted published low side mirror => ?_,
    fun stack slot none_ => ?_⟩
  · have released := indexAt_withPart at_ pn (releasedPart stack m.1 x.lowWater (chainOf p stack))
    have kept := pressCheck_partsKept (withPart s i pn (releasedPart stack m.1 x.lowWater (chainOf p stack))) stack
    obtain ⟨y, aty, parts⟩ := kept.partAt_eq released
    refine ⟨_, y, _, execEntryRelease_of_mark at_ part may last, aty, (parts pn).trans (partAt_changePart_same part _), ?_⟩
    rw [releasedPart, chainOf_setChain_same]
    refine ⟨rfl, rfl, rfl, rfl, (eq_of_outside (s := s) kept.outside).trans ?_⟩
    rw [kept.chans, kept.rlocks, kept.ring0, kept.ring1, kept.ctr]
    rfl
  · refine ⟨_, _, reclaimedPart p slot,
      execSlotReclaim_of_reachless at_ part repaired same may live deleted published low side mirror,
      (indexAt_bump ..).trans (indexAt_withPart at_ pn _), partAt_changePart_same part _, ?_⟩
    have record : recOf (reclaimedPart p slot) slot = reclaimedRec (recOf p slot) := recOf_setRec_same ..
    rw [record]
    exact ⟨by simp [isLive, reclaimedRec], rfl, rfl, rfl, look_forget_same .., fun n h => recOf_setRec_other p _ h,
      counter_bump_reclaimed _, fun j other => (indexAt_bump ..).trans (indexAt_withPart_other s _ _ other), rfl⟩
  · have may := luthierMay_of_no_epochs none_
    exact ⟨execEntryRelease_of_idle at_ part may stack, execSlotReclaim_of_idle at_ part may slot⟩

/-! ### Rebuilt records (R395) -/

/-- What the luthier's linking never writes: the identifier, the generation and the two epochs of a record. -/
def recIdentity (r : Rec) : Nat × Nat × Nat × Nat := (r.extId, r.gen, r.commit, r.delete)

/-- `q` is `p` with links changed: every record keeps its identity, and what is unreadable stays so. -/
structure Relinked (p q : Part) : Prop where
  poisoned : q.poisoned = p.poisoned
  identity : ∀ n, recIdentity (recOf q n) = recIdentity (recOf p n)

theorem Relinked.refl (p : Part) : Relinked p p := ⟨rfl, fun _ => rfl⟩

theorem Relinked.trans {p q r : Part} (a : Relinked p q) (b : Relinked q r) : Relinked p r :=
  ⟨b.poisoned.trans a.poisoned, fun n => (b.identity n).trans (a.identity n)⟩

theorem Relinked.foldl {α : Type} {f : Part → α → Part} (h : ∀ p a, Relinked p (f p a)) (l : List α) (p : Part) :
    Relinked p (l.foldl f p) := by
  induction l generalizing p with
  | nil => exact refl p
  | cons a r ih => exact (h p a).trans (ih (f p a))

theorem Relinked.setRec (p : Part) {slot : Nat} {r : Rec} (h : recIdentity r = recIdentity (recOf p slot)) :
    Relinked p (setRec p slot r) := by
  refine ⟨rfl, fun n => ?_⟩
  by_cases here : n = slot
  · rw [here, recOf_setRec_same, h]
  · rw [recOf_setRec_other _ _ here]

theorem setNeighbours_relinked (x : Index) (pn : Nat) (p : Part) (slot : Nat) (nbrs : List Nat) :
    Relinked p (setNeighbours x pn p slot nbrs) := by
  unfold setNeighbours
  dsimp only
  split
  · exact .refl p
  · exact .setRec p rfl

theorem backLink_relinked (x : Index) (pn n : Nat) (p : Part) (y : Nat) : Relinked p (backLink x pn n p y) := by
  unfold backLink
  dsimp only
  split
  · exact .refl p
  · split
    · exact setNeighbours_relinked ..
    · exact setNeighbours_relinked ..

theorem linkRecord_relinked (x : Index) (pn quality e : Nat) (p : Part) (slot : Nat) :
    Relinked p (linkRecord x pn quality e p slot).1 :=
  (setNeighbours_relinked ..).trans (.foldl (backLink_relinked x pn slot) _ _)

/-- The record written anew under its code version (log entry 59): the code of its source, no neighbours yet. -/
def rewrittenRec (x : Index) (p : Part) (slot : Nat) (v : CodeVer) : Rec :=
  { recOf p slot with code := (codeOf x.cfg v (srcOf x p slot)).1, codeVer := v.num, nbrCount := 0, nbr := [], sketch := [] }

/-- The partition in which that record stands and is no longer unreadable. -/
def rewrittenPart (x : Index) (p : Part) (slot : Nat) (v : CodeVer) : Part :=
  let q := setRec p slot (rewrittenRec x p slot v)
  withSide { q with poisoned := forget q.poisoned slot } slot (recOf p slot).gen
    (fun e => { e with code := (codeOf x.cfg v (srcOf x p slot)).1, codeVer := v.num })

/-- A record that the graph holds is linked again, one that it does not hold is not. -/
theorem rebuild_eq {x : Index} {p : Part} {slot : Nat} {v : CodeVer} (ver : verOf x (recOf p slot).codeVer = some v)
    (pn quality : Nat) : rebuild x pn quality p slot
      = if isMerged p slot then linkRecord x pn quality x.current (rewrittenPart x p slot v) slot
        else (rewrittenPart x p slot v, {}) := by
  simp only [rebuild, ver]
  rfl

section
variable (x : Index) (p : Part) (slot : Nat) (v : CodeVer)

theorem recOf_rewrittenPart_same : recOf (rewrittenPart x p slot v) slot = rewrittenRec x p slot v := recOf_setRec_same ..

theorem recOf_rewrittenPart_other {n : Nat} (h : n ≠ slot) : recOf (rewrittenPart x p slot v) n = recOf p n :=
  recOf_setRec_other p _ h

theorem look_poisoned_rewrittenPart : look (rewrittenPart x p slot v).poisoned slot = none := look_forget_same ..

end

/-- Linked or not, the record keeps its identity and can be read again. -/
theorem rebuild_keeps {x : Index} {p : Part} {slot : Nat} {v : CodeVer} (ver : verOf x (recOf p slot).codeVer = some v)
    (pn quality : Nat) : look (rebuild x pn quality p slot).1.poisoned slot = none
      ∧ recIdentity (recOf (rebuild x pn quality p slot).1 slot) = recIdentity (recOf p slot) := by
  have linked : Relinked (rewrittenPart x p slot v) (rebuild x pn quality p slot).1 := by
    rw [rebuild_eq ver]
    split
    · exact linkRecord_relinked ..
    · exact .refl _
  rw [linked.poisoned, linked.identity, recOf_rewrittenPart_same]
  exact ⟨look_poisoned_rewrittenPart .., rfl⟩

/-- The state after a rebuild, before its writes join a batch. -/
def rebuiltState (s : State) (i pn slot : Nat) (x : Index) (p : Part) : State :=
  noteTally (withPart s i pn (fun _ => (rebuild x pn (ctl s 0x680004) p slot).1)) (rebuild x pn (ctl s 0x680004) p slot).2

section
variable {s : State} {i pn slot : Nat} {x : Index} {p : Part} (at_ : indexAt s i = some x) (part : partAt x pn = some p)
include at_

theorem indexAt_rebuiltState : indexAt (rebuiltState s i pn slot x p) i
    = some (changePart pn (fun _ => (rebuild x pn (ctl s 0x680004) p slot).1) x) := indexAt_withPart at_ pn _

include part

/-- A merged record waits while no die of its set has room for its luthier walk (R50). -/
theorem execRecordRebuild_of_no_room (merged : isMerged p slot = true)
    (full : roomForLuthier s p.mask (luthierWidth x.cfg.format (ctl s 0x680004)) = false) :
    execRecordRebuild i pn slot s = .next s := by
  simp [execRecordRebuild, at_, part, merged, full, idle]

theorem execRecordRebuild_of_room (bad : look p.poisoned slot = some true) (vectors : x.cfg.rrFmt ≠ 0)
    (vector : slot ∉ p.rerankBad) (live : isLive (recOf p slot) = true) (may : luthierMay x = true)
    (room : isMerged p slot = true → roomForLuthier s p.mask (luthierWidth x.cfg.format (ctl s 0x680004)) = true) :
    execRecordRebuild i pn slot s
      = .next (if isMerged p slot then joinBatch (rebuiltState s i pn slot x p) i (.rebuild pn slot)
               else rebuiltState s i pn slot x p) := by
  have placed : (isMerged p slot && !(roomForLuthier s p.mask (luthierWidth x.cfg.format (ctl s 0x680004)))) = false := by
    cases merged : isMerged p slot with
    | false => rfl
    | true => simp [room merged]
  simp [execRecordRebuild, at_, part, bad, vectors, vector, live, may, placed, rebuiltState]

end

theorem rebuiltRecordsAreReadableAgain : Claims.RebuiltRecordsAreReadableAgain := by
  intro s i pn slot x p v at_ part bad vectors vector live may ver
  refine ⟨execRecordRebuild_of_no_room at_ part, fun room => ?_⟩
  have answer := execRecordRebuild_of_room at_ part bad vectors vector live may room
  have built := indexAt_rebuiltState (slot := slot) (p := p) (pn := pn) at_
  have others : ∀ j, j ≠ i → indexAt (rebuiltState s i pn slot x p) j = indexAt s j :=
    fun j other => indexAt_withPart_other s _ _ other
  obtain ⟨readable, kept⟩ := rebuild_keeps ver pn (ctl s 0x680004)
  simp only [recIdentity, Prod.mk.injEq] at kept
  obtain ⟨ext, gen, commit, delete⟩ := kept
  cases merged : isMerged p slot with
  | true =>
    rw [merged, if_pos rfl] at answer
    exact ⟨_, _, _, answer, indexAt_joinBatch built _, partAt_changePart_same part _, readable,
      fun j other => (indexAt_joinBatch_other _ _ other).trans (others j other), ext, gen, commit, delete, rfl,
      fun _ => ⟨_, rfl, by simp⟩, fun unmerged => nomatch unmerged⟩
  | false =>
    rw [merged, if_neg Bool.false_ne_true] at answer
    have anew : (rebuild x pn (ctl s 0x680004) p slot).1 = rewrittenPart x p slot v := by
      rw [rebuild_eq ver, merged]; rfl
    refine ⟨_, _, _, answer, built, partAt_changePart_same part _, readable, others, ext, gen, commit, delete, rfl,
      fun merged => (nomatch merged), fun _ => ⟨rfl, ?_, ?_⟩⟩
    · intro n other
      rw [anew, recOf_rewrittenPart_other x p slot v other]
    · rw [anew, recOf_rewrittenPart_same, rewrittenRec]

/-- Settles O26, claim by claim. -/
theorem repairAndReclaimFollowTheLowWaterEpoch : Obligations.RepairAndReclaimFollowTheLowWaterEpoch :=
  ⟨repairScansSetTheRepairEpoch, lowWaterIsTheLowestEpochInFlight, releasedEntriesAndSlotsAreFreed,
    rebuiltRecordsAreReadableAgain⟩

end Sys2Proof.Machine
end

section
/-!
WRITE_APPLY: the delete marks, the new occupant, the write that waits and the write that fails (R31, R76, R135, R153, R163,
R180).
-/
namespace Sys2Proof.Machine

/-! ### Bits of STATE (R31) -/

theorem getLsbD_setBit (b : BitVec 8) {i j : Nat} (v : Bool) (byte : i < 8) :
    (setBit b i v).getLsbD j = if j = i then v else b.getLsbD j := by
  have mask : (BitVec.ofNat 8 (2 ^ i)).getLsbD j = decide (j = i) := by
    rw [BitVec.getLsbD_ofNat, Nat.testBit_two_pow]
    by_cases here : j = i
    · simp [here, byte]
    · simp [here, Ne.symm here]
  unfold setBit
  cases v with
  | true =>
    rw [if_pos rfl, BitVec.getLsbD_or, mask]
    by_cases here : j = i <;> simp only [here, decide_true, decide_false, Bool.or_true, Bool.or_false, if_true, if_false]
  | false =>
    rw [if_neg Bool.false_ne_true, BitVec.getLsbD_and, BitVec.getLsbD_not, mask]
    by_cases here : j = i
    · simp [here]
    · by_cases low : j < 8
      · simp [here, low]
      · simp [here, BitVec.getLsbD_of_ge b j (Nat.not_lt.1 low)]

/-! ### The mark of a delete (R31, R135) -/

/-- A record deleted at an epoch, under the index's ROUTE_THROUGH. -/
def deletedRec (route : Bool) (epoch : Nat) (r : Rec) : Rec :=
  { r with delete := epoch, state := setBit (setBit r.state 6 true) 5 route }

@[simp] theorem isTomb_deletedRec (route : Bool) (epoch : Nat) (r : Rec) : isTomb (deletedRec route epoch r) = true := by
  simp only [isTomb, deletedRec, getLsbD_setBit, Nat.reduceLT, Nat.reduceEqDiff, if_true, if_false]

@[simp] theorem isRoute_deletedRec (route : Bool) (epoch : Nat) (r : Rec) : isRoute (deletedRec route epoch r) = route := by
  simp only [isRoute, deletedRec, getLsbD_setBit, Nat.reduceLT, if_true]

/-- A slot that comes up twice is marked as it was the first time. -/
theorem deletedRec_twice (route : Bool) (epoch : Nat) (r : Rec) :
    deletedRec route epoch (deletedRec route epoch r) = deletedRec route epoch r := by
  have state : setBit (setBit (setBit (setBit r.state 6 true) 5 route) 6 true) 5 route
      = setBit (setBit r.state 6 true) 5 route := by
    apply BitVec.eq_of_getLsbD_eq
    intro j _
    simp only [getLsbD_setBit, Nat.reduceLT]
    by_cases five : j = 5
    · simp [five]
    · by_cases six : j = 6 <;> simp [five, six]
  simp only [deletedRec, state]

/-- The record of a slot is marked, and so is its side-list entry (R46). -/
def markDeleted (route : Bool) (epoch slot : Nat) (p : Part) : Part :=
  let r := recOf p slot
  let q := setRec p slot (deletedRec route epoch r)
  if isInSide r then withSide q slot r.gen (fun e => { e with delete := epoch, state := (deletedRec route epoch r).state }) else q

/-- The slots of a list, each in its partition, are marked one after another. -/
def markAll (epoch : Nat) (l : List (Nat × Nat)) (x : Index) : Index :=
  l.foldl (fun x t => changePart t.1 (markDeleted x.route epoch t.2) x) x

theorem deletePresent_eq (x : Index) (ext epoch : Nat) : deletePresent x ext epoch = markAll epoch (presentSlots x ext) x := rfl

theorem recOf_markDeleted (route : Bool) (epoch slot n : Nat) (p : Part) :
    recOf (markDeleted route epoch slot p) n = if n = slot then deletedRec route epoch (recOf p n) else recOf p n := by
  have record : recOf (markDeleted route epoch slot p) n = recOf (setRec p slot (deletedRec route epoch (recOf p slot))) n := by
    unfold markDeleted
    dsimp only
    split <;> rfl
  rw [record, recOf_setRec]
  split
  · next here => rw [here]
  · rfl

theorem next_markDeleted (route : Bool) (epoch slot m : Nat) (p : Part) :
    (chainOf (markDeleted route epoch slot p) m).next = (chainOf p m).next := by
  unfold markDeleted
  dsimp only
  split
  · rw [next_withSide]; rfl
  · rfl

/-- Nothing of the index but its partitions changes. -/
theorem markAll_rest (epoch : Nat) (l : List (Nat × Nat)) (x : Index) :
    markAll epoch l x = { x with parts := (markAll epoch l x).parts } := by
  induction l generalizing x with
  | nil => rfl
  | cons t r ih => exact ih (changePart t.1 (markDeleted x.route epoch t.2) x)

/-- Partition `pn` before and after the slots of a list are marked: those are deleted, the others as they were, and no chain
has grown. -/
structure Marked (route : Bool) (epoch : Nat) (l : List (Nat × Nat)) (pn : Nat) (p q : Part) : Prop where
  rec_ : ∀ n, recOf q n = if (pn, n) ∈ l then deletedRec route epoch (recOf p n) else recOf p n
  next : ∀ m, (chainOf q m).next = (chainOf p m).next

/-- One more slot in front: of this partition or of another. -/
theorem Marked.cons {route : Bool} {epoch pn : Nat} {l : List (Nat × Nat)} {t : Nat × Nat} {p q : Part}
    (h : Marked route epoch l pn (if t.1 = pn then markDeleted route epoch t.2 p else p) q) :
    Marked route epoch (t :: l) pn p q := by
  obtain ⟨tp, ts⟩ := t
  by_cases here : tp = pn
  · subst here
    simp only [if_true] at h
    refine ⟨fun n => ?_, fun m => (h.next m).trans (next_markDeleted ..)⟩
    rw [h.rec_, recOf_markDeleted]
    by_cases slot : n = ts <;> by_cases later : (tp, n) ∈ l <;> simp [slot, later, deletedRec_twice]
  · simp only [here, if_false] at h
    refine ⟨fun n => ?_, h.next⟩
    rw [h.rec_]
    simp [Ne.symm here]

theorem partAt_markAll (epoch : Nat) (l : List (Nat × Nat)) {x : Index} {pn : Nat} {p : Part} (part : partAt x pn = some p) :
    ∃ q, partAt (markAll epoch l x) pn = some q ∧ Marked x.route epoch l pn p q := by
  induction l generalizing x p with
  | nil => exact ⟨p, part, fun _ => by simp, fun _ => rfl⟩
  | cons t r ih =>
    have step : partAt (changePart t.1 (markDeleted x.route epoch t.2) x) pn
        = some (if t.1 = pn then markDeleted x.route epoch t.2 p else p) := by
      rw [partAt_changePart, part]; rfl
    obtain ⟨q, at_, marked⟩ := ih step
    exact ⟨q, at_, marked.cons⟩

/-- A present occupant stands in a partition of the index. -/
theorem partAt_of_presentSlots {x : Index} {ext pn slot : Nat} (h : (pn, slot) ∈ presentSlots x ext) :
    ∃ p, partAt x pn = some p := by
  simp only [presentSlots, List.mem_flatten, List.mem_map] at h
  obtain ⟨_, ⟨⟨p, n⟩, member, rfl⟩, here⟩ := h
  obtain ⟨r, -, same⟩ := List.mem_map.1 here
  cases same
  obtain ⟨-, inside, -⟩ := List.mem_zipIdx member
  exact ⟨_, List.getElem?_eq_getElem (by simpa using inside)⟩

/-! ### An applied write in its ring and its batch -/

/-- One more write of the batch of an epoch is applied. -/
def countApplied (epoch : Nat) (x : Index) : Index :=
  let f (b : Batch) : Batch := if b.epoch = epoch then { b with applied := b.applied + 1 } else b
  { x with open_ := x.open_.map f, closed := x.closed.map f }

/-- The write's journal entry is APPLIED and names the slot, if any; its batch has counted it. -/
def markApplied (s : State) (i : Nat) (e : JEntry) (slot : Option Nat) (gen : Nat) : State :=
  withIndex (withEntries s i (sameWrite e) (fun e => { e with state := 2, slotId := slot, slotGen := gen })) i
    (countApplied e.epoch)

section
variable (s : State) (i : Nat) (e : JEntry) (slot : Option Nat) (gen : Nat)

@[simp] theorem markApplied_kept :
    outside (markApplied s i e slot gen) = outside s ∧ (markApplied s i e slot gen).chans = s.chans
    ∧ (markApplied s i e slot gen).rlocks = s.rlocks ∧ (markApplied s i e slot gen).ctr = s.ctr
    ∧ (markApplied s i e slot gen).log = s.log := by
  simp [markApplied]

theorem indexAt_markApplied : indexAt (markApplied s i e slot gen) i = (indexAt s i).map (countApplied e.epoch) := by
  simp [markApplied]

theorem indexAt_markApplied_other {j : Nat} (h : j ≠ i) : indexAt (markApplied s i e slot gen) j = indexAt s j := by
  rw [markApplied, indexAt_withIndex_other _ _ h, indexAt_withEntries]

/-- The entries that name this write, and none else, are changed; what names a write stays. -/
theorem state_of_mem_markApplied {f : JEntry} (member : f ∈ (ringOf (markApplied s i e slot gen) i).entries)
    (same : sameWrite e f = true) : f.state = 2 ∧ f.slotId = slot := by
  have ring : (ringOf (markApplied s i e slot gen) i).entries = (ringOf s i).entries.map (fun y =>
      if sameWrite e y then { y with state := 2, slotId := slot, slotGen := gen } else y) := by
    show (ringOf (withEntries s i _ _) i).entries = _
    rw [withEntries, ringOf_setRing_same]
  rw [ring] at member
  obtain ⟨y, -, rfl⟩ := List.mem_map.1 member
  by_cases was : sameWrite e y = true
  · simp [was]
  · rw [if_neg was] at same
    exact absurd same was

end

/-! ### WRITE_APPLY of a DELETE -/

/-- The oldest accepted, unapplied write of index `i` is `e`. -/
abbrev NextWrite (s : State) (i : Nat) (e : JEntry) : Prop := (entriesOf s i).find? (fun e => e.state == 1) = some e

@[simp] theorem applyDelete_kept (s : State) (i : Nat) (x : Index) (e : JEntry) (isDelete : Bool) :
    outside (applyDelete s i x e isDelete) = outside s ∧ (applyDelete s i x e isDelete).chans = s.chans
    ∧ (applyDelete s i x e isDelete).rlocks = s.rlocks ∧ (applyDelete s i x e isDelete).ring0 = s.ring0
    ∧ (applyDelete s i x e isDelete).ring1 = s.ring1 ∧ (applyDelete s i x e isDelete).log = s.log := by
  unfold applyDelete
  dsimp only
  split <;> simp

theorem indexAt_applyDelete (s : State) (i j : Nat) (x : Index) (e : JEntry) (isDelete : Bool) :
    indexAt (applyDelete s i x e isDelete) j
      = indexAt (withIndex s i (fun x => deletePresent x (wExtId e.word) e.epoch)) j := by
  unfold applyDelete
  dsimp only
  split <;> rfl

/-- The slot that the entry of a DELETE names: the first of its present occupants, if there is one, with its generation. -/
def firstPresent (x : Index) (ext : Nat) : Option Nat × Nat :=
  ((presentSlots x ext).head?.map (fun t => slotId t.1 t.2),
   ((presentSlots x ext).head?.bind (fun t => (partAt x t.1).map (fun p => (recOf p t.2).gen))).getD 0)

theorem execWriteApply_of_delete {s : State} {i : Nat} {x : Index} {e : JEntry} (at_ : indexAt s i = some x)
    (next : NextWrite s i e) (live : x.dropping = none) (delete : cOpcode e.word = 0x11) (stack pick : Nat) (ok : Bool) :
    execWriteApply i stack pick ok s = .next (markApplied (applyDelete s i x e true) i e (firstPresent x (wExtId e.word)).1
      (firstPresent x (wExtId e.word)).2) := by
  simp only [execWriteApply, at_, next, live, delete, if_true, Option.isSome_none, Bool.false_eq_true, if_false]
  rfl

theorem deleteMarksEveryPresentOccupant : Claims.DeleteMarksEveryPresentOccupant := by
  intro s i stack pick ok x e at_ live next delete
  have answer := execWriteApply_of_delete at_ next live delete stack pick ok
  have index : indexAt (applyDelete s i x e true) i = some (markAll e.epoch (presentSlots x (wExtId e.word)) x) := by
    rw [indexAt_applyDelete, indexAt_withIndex_same, at_, Option.map_some, deletePresent_eq]
  refine ⟨_, countApplied e.epoch (markAll e.epoch (presentSlots x (wExtId e.word)) x), answer, ?_, ?_, ?_,
    fun f member this => (state_of_mem_markApplied _ _ _ _ _ member this).1, fun j other => ?_, ?_⟩
  · rw [indexAt_markApplied, index]; rfl
  · rw [markAll_rest]; rfl
  · intro pn slot present
    obtain ⟨p, part⟩ := partAt_of_presentSlots present
    obtain ⟨q, partq, marked⟩ := partAt_markAll e.epoch (presentSlots x (wExtId e.word)) part
    have record := marked.rec_ slot
    rw [if_pos present] at record
    refine ⟨p, q, part, partq, ?_⟩
    rw [record]
    exact ⟨rfl, isTomb_deletedRec .., isRoute_deletedRec .., rfl, rfl⟩
  · rw [indexAt_markApplied_other _ _ _ _ _ other, indexAt_applyDelete, indexAt_withIndex_other _ _ other]
  · exact (eq_of_outside (s := s) (by simp only [markApplied_kept, applyDelete_kept])).trans
      (by simp only [markApplied_kept, applyDelete_kept])

end Sys2Proof.Machine
end

section
/-!
WRITE_APPLY of an INSERT or UPSERT: the new occupant, the wait for side-list room and the failures (R135, R153, R163, R180).
-/
namespace Sys2Proof.Machine

/-! ### What the drift window and the samples leave -/

theorem parts_ite {c : Prop} [Decidable c] {x y : Index} {l : List Part} (h : x.parts = l) (g : y.parts = l) :
    (if c then x else y).parts = l := by
  split
  · exact h
  · exact g

theorem noteDrift_partsKept (s : State) (i clamped : Nat) (err : Option FV) (nan : Bool) :
    PartsKept s (noteDrift s i clamped err nan) := by
  unfold noteDrift
  split
  · exact .refl s
  · exact .ite (.withIndex _ _ (fun _ => rfl)) (.ite (.withIndex _ _ (fun _ => rfl))
      ((PartsKept.raise ..).trans (.withIndex _ _ (fun _ => parts_ite rfl rfl))))

theorem noteSample_partsKept (s : State) (i : Nat) (p : List FV) (rr : List Nat) : PartsKept s (noteSample s i p rr) :=
  .withIndex _ _ (fun _ => parts_ite rfl rfl)

/-! ### The new occupant (R135 steps 3 to 7) -/

/-- The record of a new occupant. -/
def newOccupant (w : CmdWord) (epoch : Nat) (v : CodeVer) (code gen : Nat) : Rec :=
  { extId := wExtId w, filterTag := wFilterTag w, commit := epoch, state := 0x90, gen := gen, delete := noEpoch,
    codeVer := v.num, nbrCount := 0, code := code }

theorem partAt_putOccupant {x : Index} {pn : Nat} {p : Part} (part : partAt x pn = some p) (stack slot epoch : Nat) (w : CmdWord)
    (v : CodeVer) (code : Nat) (rr : List Nat) (chunk : Nat) :
    ∃ q, partAt (putOccupant x pn stack slot epoch w v code rr chunk) pn = some q
      ∧ recOf q slot = newOccupant w epoch v code (((recOf p slot).gen + 1) % 256)
      ∧ (∀ n, n ≠ slot → recOf q n = recOf p n) ∧ (chainOf q stack).next = (chainOf p stack).next + 1 := by
  refine ⟨_, partAt_changePart_same part _, recOf_setRec_same .., fun n other => recOf_setRec_other p _ other, ?_⟩
  show (chainOf (setChain _ stack _) stack).next = _
  rw [chainOf_setChain_same]
  rfl

/-- The index with the occupant of a write, encoded under a version that the write's index held. -/
def withOccupant (s : State) (x : Index) (e : JEntry) (pn stack slot : Nat) (v : CodeVer) (y : Index) : Index :=
  putOccupant y pn stack slot e.epoch e.word v (codeOf x.cfg v (project x.cfg x.proj (payloadVec e.word e.payload)).1).1
    (rerankVec x.cfg.rrFmt (payloadVec e.word e.payload)) ((freeChunk s stack).getD 0)

/-- After the occupant is in its slot, the insert only counts, samples and follows the side lists. -/
theorem applyInsert_partsKept {x : Index} {e : JEntry} {v : CodeVer} (ver : insertVer x e.epoch = some v) (s : State)
    (i pn stack slot : Nat) :
    PartsKept (withIndex s i (withOccupant s x e pn stack slot v)) (applyInsert s i x e pn stack slot) := by
  simp only [applyInsert, ver]
  exact ((noteDrift_partsKept ..).trans (noteSample_partsKept ..)).trans (pressCheck_partsKept ..)

/-! ### The state into which the occupant goes -/

/-- An UPSERT has deleted the present occupants, and the write no longer waits. -/
def beforeInsert (s : State) (i : Nat) (x : Index) (e : JEntry) : State :=
  if cOpcode e.word = 0x12 then applyDelete (headMoves s i) i x e false else headMoves s i

/-- A write that waited goes on (R154). -/
def goesOn (x : Index) : Index := { x with waiting := false, luthier := if x.luthier = .full then .press else x.luthier }

theorem headMoves_eq (s : State) (i : Nat) : headMoves s i = withIndex s i goesOn := rfl

theorem applyDelete_of_upsert (s : State) (i : Nat) (x : Index) (e : JEntry) :
    applyDelete s i x e false = withIndex s i (fun x => deletePresent x (wExtId e.word) e.epoch) := by
  simp [applyDelete]

theorem beforeInsert_kept (s : State) (i : Nat) (x : Index) (e : JEntry) :
    outside (beforeInsert s i x e) = outside s ∧ (beforeInsert s i x e).chans = s.chans
    ∧ (beforeInsert s i x e).rlocks = s.rlocks := by
  unfold beforeInsert
  split
  · rw [applyDelete_of_upsert]; exact ⟨rfl, rfl, rfl⟩
  · exact ⟨rfl, rfl, rfl⟩

/-- Partition `pn` before and after the slots of a list may have been deleted: what an insert reads of it stays. -/
structure Vacated (l : List (Nat × Nat)) (pn : Nat) (p q : Part) : Prop where
  gen : ∀ n, (recOf q n).gen = (recOf p n).gen
  others : ∀ n, (pn, n) ∉ l → recOf q n = recOf p n
  next : ∀ m, (chainOf q m).next = (chainOf p m).next

theorem Marked.vacated {route : Bool} {epoch pn : Nat} {l : List (Nat × Nat)} {p q : Part} (h : Marked route epoch l pn p q) :
    Vacated l pn p q where
  gen n := by rw [h.rec_]; split <;> rfl
  others n out := by rw [h.rec_, if_neg out]
  next := h.next

theorem partAt_beforeInsert {s : State} {i pn : Nat} {x : Index} {p : Part} (at_ : indexAt s i = some x)
    (part : partAt x pn = some p) (e : JEntry) :
    ∃ y q, indexAt (beforeInsert s i x e) i = some y ∧ partAt y pn = some q
      ∧ Vacated (presentSlots x (wExtId e.word)) pn p q := by
  have moved : indexAt (headMoves s i) i = some (goesOn x) := by rw [headMoves_eq, indexAt_withIndex_same, at_]; rfl
  unfold beforeInsert
  split
  · obtain ⟨q, partq, marked⟩ := partAt_markAll e.epoch (presentSlots x (wExtId e.word)) (x := goesOn x) part
    refine ⟨markAll e.epoch (presentSlots x (wExtId e.word)) (goesOn x), q, ?_, partq, marked.vacated⟩
    rw [applyDelete_of_upsert, indexAt_withIndex_same, moved, Option.map_some, deletePresent_eq]
    rfl
  · exact ⟨goesOn x, p, moved, part, fun _ => rfl, fun _ _ => rfl, fun _ => rfl⟩

/-! ### The answers of WRITE_APPLY -/

theorem ne_delete {w : CmdWord} (op : cOpcode w = 0x10 ∨ cOpcode w = 0x12) : cOpcode w ≠ 0x11 := by
  rcases op with h | h <;> simp [h]

theorem not_present_insert {w : CmdWord} {x : Index} (absent : cOpcode w = 0x10 → presentSlots x (wExtId w) = []) :
    ¬ (cOpcode w = 0x10 ∧ presentSlots x (wExtId w) ≠ []) := fun ⟨insert, present⟩ => present (absent insert)

section
variable {s : State} {i : Nat} {x : Index} {e : JEntry} {p : Part} (at_ : indexAt s i = some x) (live : x.dropping = none)
  (next : NextWrite s i e) (stack pick : Nat)
include at_ live next

/-- An INSERT of an identifier that is present fails (R135). -/
theorem execWriteApply_of_present (insert : cOpcode e.word = 0x10) (present : presentSlots x (wExtId e.word) ≠ []) (ok : Bool) :
    execWriteApply i stack pick ok s = .next (retire (failWrite (headMoves s i) e .invalid) i) := by
  simp [execWriteApply, at_, next, live, insert, present]

variable (op : cOpcode e.word = 0x10 ∨ cOpcode e.word = 0x12)
  (absent : cOpcode e.word = 0x10 → presentSlots x (wExtId e.word) = [])
include op absent

/-- So does an INSERT or UPSERT whose payload is bad. -/
theorem execWriteApply_of_bad_payload :
    execWriteApply i stack pick false s = .next (retire (failWrite (headMoves s i) e .partialPoison) i) := by
  have write := ne_delete op
  have pass := not_present_insert absent
  simp only [execWriteApply, at_, next, live, write, pass, Option.isSome_none, Bool.false_eq_true, if_false, Bool.not_false,
    if_true]

variable (part : partAt x (writePart x e.word) = some p)
include part

/-- The state of a write that begins to wait: counted, logged with the partition's first stack, and the index told
(R153, R154). -/
def waitingState (s : State) (i : Nat) (p : Part) : State :=
  withIndex (raise (bump s 0x37 1) 0x0302 2 3 ((stacksOf p).headD 0) (index := i) (args := [(stacksOf p).headD 0])) i
    (fun x => { x with waiting := true, luthier := if x.luthier = .press then .full else x.luthier })

theorem execWriteApply_of_full (full : canTake s x p = false) (first : x.waiting = false) :
    execWriteApply i stack pick true s = .next (waitingState s i p) := by
  have write := ne_delete op
  have pass := not_present_insert absent
  simp only [execWriteApply, at_, next, live, write, pass, part, full, first, Option.isSome_none, Bool.false_eq_true, if_false,
    Bool.not_true, Bool.not_false, if_true]
  rfl

theorem execWriteApply_of_insert (take : canTake s x p = true) (room : sideRoom s x.cfg.format p stack = true)
    (free : slotFree p pick = true) (home : stackOfSlot p pick = stack) (member : stack ∈ stacksOf p) :
    execWriteApply i stack pick true s
      = .next (markApplied (applyInsert (beforeInsert s i x e) i x e (writePart x e.word) stack pick) i e
          (some (slotId (writePart x e.word) pick)) (((recOf p pick).gen + 1) % 256)) := by
  have write := ne_delete op
  have pass := not_present_insert absent
  have chosen : (!(sideRoom s x.cfg.format p stack) || !(slotFree p pick) || stackOfSlot p pick != stack
      || !((stacksOf p).contains stack)) = false := by
    simp [room, free, home, member]
  simp only [execWriteApply, at_, next, live, write, pass, part, take, chosen, Option.isSome_none, Bool.false_eq_true, if_false,
    Bool.not_true]
  rfl

end

/-! ### A write that fails (R135, R212) -/

/-- The command of a write is outstanding under its sequence number. -/
theorem outCmd_of_writeCmd {s : State} {e : JEntry} {o : OutCmd} (h : writeCmd s e = some o) :
    ∃ c, outCmd s e.slot o.seq = some c := by
  simp only [writeCmd] at h
  split at h
  · exact Option.isSome_iff_exists.1 (List.find?_isSome.2 ⟨o, List.mem_of_find?_eq_some h, beq_self_eq_true _⟩)
  · cases h

/-- What a failed write's completion says. -/
def failureCompl (st : Status) : Compl := { status := st, cause := { poison := st == .partialPoison } }

/-- A write that fails while its command is outstanding ends that command, after the entry, its reservations and its batch. -/
theorem failWrite_of_cmd {s : State} {e : JEntry} {o : OutCmd} (h : writeCmd s e = some o) (st : Status) :
    ∃ u, failWrite s e st = finish u e.slot o.seq (failureCompl st) ∧ u.chans = s.chans ∧ outside u = outside s := by
  unfold failWrite
  dsimp only
  split
  · next c found =>
    have same : some c = some o := found.symm.trans h
    cases same
    exact ⟨_, rfl, by simp, by simp⟩
  · next missing => exact absurd (missing.symm.trans h) (by simp)

/-- The claim's two failures in one: the completion, and what no failureCompl touches. -/
theorem retire_failWrite_spec {s : State} {e : JEntry} {o : OutCmd} (h : writeCmd s e = some o) (st : Status) (i : Nat) :
    Finished (retire (failWrite (headMoves s i) e st) i) e.slot o.seq (failureCompl st)
      ∧ outside (retire (failWrite (headMoves s i) e st) i) = outside s := by
  obtain ⟨u, ends, chans, same⟩ := failWrite_of_cmd (s := headMoves s i) h st
  obtain ⟨c, out⟩ := outCmd_of_writeCmd h
  obtain ⟨⟨d, done, stage, waits⟩, -⟩ := finish_spec (failureCompl st) ((outCmd_congr chans e.slot o.seq).trans out)
  have retired : (retire (finish u e.slot o.seq (failureCompl st)) i).chans
      = (finish u e.slot o.seq (failureCompl st)).chans := by simp
  rw [ends]
  refine ⟨⟨d, (outCmd_congr retired _ _).trans done, stage, ?_⟩, ?_⟩
  · rw [chan_congr retired]; exact waits
  · simp [same, headMoves_eq]

theorem insertFillsTheChosenSlot : Claims.InsertFillsTheChosenSlot := by
  intro s i stack pick x e p at_ live next op part
  refine ⟨fun v absent ver take room free home member => ?_, fun absent full first => ?_, fun o insert present cmd => ?_,
    fun o absent cmd => ?_⟩
  · obtain ⟨y, q, aty, partq, vacated⟩ := partAt_beforeInsert at_ part e
    obtain ⟨r, partr, record, others, grown⟩ := partAt_putOccupant partq stack pick e.epoch e.word v
      (codeOf x.cfg v (project x.cfg x.proj (payloadVec e.word e.payload)).1).1
      (rerankVec x.cfg.rrFmt (payloadVec e.word e.payload)) ((freeChunk (beforeInsert s i x e) stack).getD 0)
    have kept := applyInsert_partsKept ver (beforeInsert s i x e) i (writePart x e.word) stack pick
    obtain ⟨z, atz, parts⟩ := kept.partAt_eq ((indexAt_withIndex_same ..).trans (congrArg _ aty))
    obtain ⟨outer, chans, locks⟩ := beforeInsert_kept s i x e
    refine ⟨_, countApplied e.epoch z, r,
      execWriteApply_of_insert at_ live next stack pick op absent part take room free home member, ?_,
      (parts _).trans partr, ?_, fun n other out => ?_, ?_,
      fun f member this => state_of_mem_markApplied _ _ _ _ _ member this, ?_⟩
    · rw [indexAt_markApplied, atz]; rfl
    · rw [record, vacated.gen]; rfl
    · rw [others n other, vacated.others n out]
    · rw [grown, vacated.next]
    · have same : outside (applyInsert (beforeInsert s i x e) i x e (writePart x e.word) stack pick) = outside s :=
        kept.outside.trans outer
      refine (eq_of_outside (s := s) (by rw [(markApplied_kept ..).1, same])).trans ?_
      simp only [markApplied_kept, kept.chans, kept.rlocks, withIndex_kept, chans, locks]
  · refine ⟨waitingState s i p, _, execWriteApply_of_full at_ live next stack pick op absent part full first,
      (indexAt_withIndex_same ..).trans (congrArg _ at_), rfl, rfl,
      fun j other => indexAt_withIndex_other _ _ other, raise_next .., rfl⟩
  · obtain ⟨finished, same⟩ := retire_failWrite_spec cmd .invalid i
    exact ⟨_, failureCompl .invalid, execWriteApply_of_present at_ live next stack pick insert present true, finished, rfl,
      eq_of_outside same⟩
  · obtain ⟨finished, same⟩ := retire_failWrite_spec cmd .partialPoison i
    exact ⟨_, failureCompl .partialPoison, execWriteApply_of_bad_payload at_ live next stack pick op absent, finished, rfl, rfl,
      eq_of_outside same⟩

/-- Settles O21: a DELETE marks what is present; an INSERT or UPSERT takes the slot, waits or fails. -/
theorem appliedWritesChangeTheirRecords : Obligations.AppliedWritesChangeTheirRecords :=
  ⟨deleteMarksEveryPresentOccupant, insertFillsTheChosenSlot⟩

end Sys2Proof.Machine
end

section
/-!
Keys of distances (R94, R95). A magnitude of FP32 is counted in units of the smallest subnormal; the count rises strictly
with the encoding, infinity included, so that encodings, values and keys have one order.
-/
namespace Sys2Proof.Machine

/-! ### A binary32 encoding and the value that it decodes to -/

/-- The encoding of a magnitude: the 31 bits below the sign. -/
def magOf (u : W32) : Nat := u.toNat % 2 ^ 31

/-- The significand of a magnitude: a normal one has its leading bit. -/
def sigOf (mag : Nat) : Nat := if mag < 2 ^ 23 then mag else 2 ^ 23 + mag % 2 ^ 23

/-- The place of a magnitude's last bit above that of the subnormals, whose exponent is the lowest normal one's. -/
def placeOf (mag : Nat) : Nat := mag / 2 ^ 23 - 1

theorem sigOf_of_subnormal {mag : Nat} (h : mag < 2 ^ 23) : sigOf mag = mag := if_pos h

theorem sigOf_of_normal {mag : Nat} (h : 2 ^ 23 ≤ mag) : sigOf mag = 2 ^ 23 + mag % 2 ^ 23 := if_neg (by omega)

theorem placeOf_of_subnormal {mag : Nat} (h : mag < 2 ^ 23) : placeOf mag = 0 := by unfold placeOf; omega

/-- The magnitude of infinity; those above it are NaNs. -/
def infMag : Nat := 0x7F800000

theorem toNat_eq_magOf (u : W32) : u.toNat = (if u.msb = true then 2 ^ 31 else 0) + magOf u := by
  have := u.isLt
  simp only [BitVec.msb_eq_decide, magOf, decide_eq_true_eq]
  split <;> omega

theorem magOf_lt (u : W32) : magOf u < 2 ^ 31 := Nat.mod_lt _ (by decide)

theorem d32_eq (u : W32) : d32 u =
    if magOf u < infMag then .fin u.msb (sigOf (magOf u)) (-149 + placeOf (magOf u))
    else if magOf u = infMag then .inf u.msb else .nan u.msb := by
  have sign : u.toNat.testBit 31 = u.msb := by rw [BitVec.msb_eq_getLsbD_last, BitVec.getLsbD]
  have low : u.toNat % 2 ^ 23 = magOf u % 2 ^ 23 := by rw [magOf]; omega
  have high : u.toNat / 2 ^ 23 % 2 ^ 8 = magOf u / 2 ^ 23 := by rw [magOf]; omega
  have bound := magOf_lt u
  have limit : infMag = 0x7F800000 := rfl
  simp only [d32, fdec, fp32, bit, bits, Fmt.emin, Fmt.bias, Nat.shiftRight_eq_div_pow, sign, Nat.reduceAdd, Nat.reduceSub,
    low, high, beq_iff_eq, Bool.false_eq_true, if_false]
  obtain finite | inf | nan := Nat.lt_trichotomy (magOf u) infMag
  · rw [if_neg (by omega), if_pos finite]
    by_cases subnormal : magOf u < 2 ^ 23
    · rw [if_pos (by omega), FV.fin.injEq, sigOf_of_subnormal subnormal, placeOf_of_subnormal subnormal]
      exact ⟨rfl, by omega, by omega⟩
    · rw [if_neg (by omega), FV.fin.injEq, sigOf_of_normal (by omega), placeOf]
      exact ⟨rfl, by omega, by omega⟩
  · rw [if_pos (by omega), if_pos (by omega), if_neg (by omega), if_pos inf]
  · rw [if_pos (by omega), if_neg (by omega), if_neg (by omega), if_neg (by omega)]

/-- The encodings of numbers are those up to infinity. -/
theorem magOf_le_of_number {u : W32} (number : (d32 u).isNan = false) : magOf u ≤ infMag := by
  refine Nat.le_of_not_lt fun above => ?_
  simp [d32_eq, FV.isNan, show ¬ magOf u < infMag by omega, show magOf u ≠ infMag by omega] at number

theorem d32_of_finite {u : W32} (finite : magOf u < infMag) :
    d32 u = .fin u.msb (sigOf (magOf u)) (-149 + placeOf (magOf u)) := by
  rw [d32_eq, if_pos finite]

theorem d32_of_inf {u : W32} (inf : magOf u = infMag) : d32 u = .inf u.msb := by
  simp [d32_eq, inf]

/-! ### Values lie as their encodings -/

/-- A magnitude in units of the smallest subnormal. -/
def unitsOf (mag : Nat) : Nat := sigOf mag * 2 ^ placeOf mag

theorem unitsOf_of_subnormal {mag : Nat} (h : mag < 2 ^ 23) : unitsOf mag = mag := by
  simp [unitsOf, sigOf_of_subnormal h, placeOf_of_subnormal h]

theorem unitsOf_of_normal {mag : Nat} (h : 2 ^ 23 ≤ mag) : unitsOf mag = (2 ^ 23 + mag % 2 ^ 23) * 2 ^ (mag / 2 ^ 23 - 1) := by
  rw [unitsOf, sigOf_of_normal h, placeOf]

/-- The next encoding has the next significand, and where that is full the lowest one of the next exponent. -/
theorem unitsOf_lt_succ (n : Nat) : unitsOf n < unitsOf (n + 1) := by
  by_cases normal : 2 ^ 23 ≤ n
  · rw [unitsOf_of_normal normal, unitsOf_of_normal (by omega)]
    by_cases carry : (n + 1) % 2 ^ 23 = 0
    · obtain ⟨k, hk⟩ : ∃ k, n / 2 ^ 23 = k + 1 := ⟨n / 2 ^ 23 - 1, by omega⟩
      have full : n % 2 ^ 23 = 2 ^ 23 - 1 := by omega
      have next : (n + 1) / 2 ^ 23 = k + 2 := by omega
      have pos : 0 < 2 ^ k := Nat.two_pow_pos k
      rw [carry, full, hk, next, Nat.add_sub_cancel, show k + 2 - 1 = k + 1 by omega, Nat.pow_succ]
      omega
    · rw [show (n + 1) / 2 ^ 23 = n / 2 ^ 23 by omega]
      exact Nat.mul_lt_mul_of_pos_right (by omega) (Nat.two_pow_pos _)
  · rw [unitsOf_of_subnormal (by omega)]
    by_cases first : n + 1 < 2 ^ 23
    · rw [unitsOf_of_subnormal first]; omega
    · obtain rfl : n = 2 ^ 23 - 1 := by omega
      decide

theorem unitsOf_lt_of_lt {m n : Nat} (lt : m < n) : unitsOf m < unitsOf n := by
  induction n with
  | zero => exact absurd lt (Nat.not_lt_zero m)
  | succ n ih =>
    obtain below | rfl := Nat.lt_succ_iff_lt_or_eq.mp lt
    · exact Nat.lt_trans (ih below) (unitsOf_lt_succ n)
    · exact unitsOf_lt_succ m

theorem unitsOf_lt_iff (m n : Nat) : unitsOf m < unitsOf n ↔ m < n := by
  refine ⟨fun units => ?_, unitsOf_lt_of_lt⟩
  obtain lt | rfl | gt := Nat.lt_trichotomy m n
  · exact lt
  · exact absurd units (Nat.lt_irrefl _)
  · exact absurd (unitsOf_lt_of_lt gt) (Nat.lt_asymm units)

/-- A magnitude with its sign. -/
def withSign (neg : Bool) (n : Nat) : Int := if neg then -(n : Int) else n

/-- Signed magnitudes compare in units as they do in their encodings; zero has no units, whatever its sign. -/
theorem withSign_unitsOf_lt_iff (a b : Bool) (m n : Nat) :
    withSign a (unitsOf m) < withSign b (unitsOf n) ↔ withSign a m < withSign b n := by
  have zero : unitsOf 0 = 0 := rfl
  have mono := unitsOf_lt_iff m n
  have mono' := unitsOf_lt_iff n m
  have left := unitsOf_lt_iff 0 m
  have right := unitsOf_lt_iff 0 n
  cases a <;> cases b <;> simp only [withSign, Bool.false_eq_true, if_true, if_false] <;> omega

theorem withSign_mul (neg : Bool) (n k : Nat) : withSign neg (n * k) = withSign neg n * k := by
  cases neg with
  | false => exact Int.natCast_mul n k
  | true => exact (congrArg Neg.neg (Int.natCast_mul n k)).trans (Int.neg_mul ..).symm

theorem atExp_eq_withSign (neg : Bool) (m k : Nat) {e t : Int} (h : e - t = k) : atExp neg m e t = withSign neg (m * 2 ^ k) := by
  simp [atExp, withSign, Nat.shiftLeft_eq, h]

/-- The exponent at which numerators are compared may be taken lower than either value's own. -/
theorem flt_fin (a b : Bool) (m n j k : Nat) (t : Int) :
    flt (.fin a m (t + j)) (.fin b n (t + k)) = decide (withSign a (m * 2 ^ j) < withSign b (n * 2 ^ k)) := by
  have scale (i : Nat) (i_le : min j k ≤ i) : 2 ^ i = 2 ^ (i - min j k) * 2 ^ min j k := by
    rw [← Nat.pow_add, Nat.sub_add_cancel i_le]
  have pos : (0 : Int) < (2 ^ min j k : Nat) := Int.natCast_pos.mpr (Nat.two_pow_pos _)
  rw [scale j (by omega), scale k (by omega), ← Nat.mul_assoc, ← Nat.mul_assoc, withSign_mul a, withSign_mul b]
  simp only [flt, Int.mul_lt_mul_right pos]
  rw [atExp_eq_withSign a m (j - min j k) (by omega), atExp_eq_withSign b n (k - min j k) (by omega)]

/-- Infinity lies beyond every finite magnitude, as its encoding does. -/
theorem flt_d32 {u v : W32} (hu : (d32 u).isNan = false) (hv : (d32 v).isNan = false) :
    flt (d32 u) (d32 v) = true ↔ withSign u.msb (magOf u) < withSign v.msb (magOf v) := by
  obtain finite_u | inf_u := Nat.lt_or_eq_of_le (magOf_le_of_number hu)
  · obtain finite_v | inf_v := Nat.lt_or_eq_of_le (magOf_le_of_number hv)
    · rw [d32_of_finite finite_u, d32_of_finite finite_v, flt_fin, decide_eq_true_eq]
      exact withSign_unitsOf_lt_iff ..
    · rw [d32_of_finite finite_u, d32_of_inf inf_v]
      cases u.msb <;> cases v.msb <;> simp [flt, withSign] <;> omega
  · obtain finite_v | inf_v := Nat.lt_or_eq_of_le (magOf_le_of_number hv)
    · rw [d32_of_inf inf_u, d32_of_finite finite_v]
      cases u.msb <;> cases v.msb <;> simp [flt, withSign] <;> omega
    · rw [d32_of_inf inf_u, d32_of_inf inf_v, inf_u, inf_v]
      cases u.msb <;> cases v.msb <;> simp [flt, withSign, infMag]

/-! ### Encodings come back -/

/-- The last place of a decoded magnitude is the one that its encoding gives it: nothing is rounded. -/
theorem lastPlace_of_sig {mag : Nat} (some_ : mag ≠ 0) :
    lastPlace fp32 (sigOf mag) (-149 + placeOf mag) = -149 + placeOf mag := by
  have emin : fp32.emin = -149 := rfl
  have places : (fp32.mb : Int) = 23 := rfl
  rw [lastPlace, emin, places]
  by_cases normal : 2 ^ 23 ≤ mag
  · have full : Nat.log2 (sigOf mag) = 23 := by
      rw [sigOf_of_normal normal, Nat.log2_eq_iff (by omega)]
      omega
    omega
  · have short : Nat.log2 (sigOf mag) < 23 := by
      rw [sigOf_of_subnormal (by omega), Nat.log2_lt some_]
      omega
    rw [placeOf_of_subnormal (by omega)]
    omega

theorem nearestEven_self (m : Nat) (t : Int) : nearestEven m t t = m := by
  simp [nearestEven]

theorem packMag_sig (mag : Nat) : packMag fp32 (sigOf mag) (-149 + placeOf mag) = mag := by
  have emin : fp32.emin = -149 := rfl
  have places : fp32.mb = 23 := rfl
  rw [packMag, emin, places, Nat.shiftLeft_eq]
  by_cases normal : 2 ^ 23 ≤ mag
  · rw [sigOf_of_normal normal, if_neg (by omega), placeOf,
      show (-149 + ((mag / 2 ^ 23 - 1 : Nat) : Int) - -149).toNat = mag / 2 ^ 23 - 1 by omega]
    omega
  · rw [sigOf_of_subnormal (by omega), if_pos (by omega)]

theorem sigOf_ne_zero {mag : Nat} (some_ : mag ≠ 0) : sigOf mag ≠ 0 := by
  unfold sigOf; split <;> omega

theorem frnd_finite (neg : Bool) {mag : Nat} (finite : mag < infMag) :
    frnd fp32 false (.fin neg (sigOf mag) (-149 + placeOf mag)) = (if neg = true then 2 ^ 31 else 0) + mag := by
  by_cases zero : mag = 0
  · subst zero
    cases neg <;> rfl
  · have fits : mag ≤ fp32.maxMag := Nat.le_of_lt_succ finite
    simp only [frnd, beq_iff_eq, sigOf_ne_zero zero, if_false, lastPlace_of_sig zero, nearestEven_self, packMag_sig, fits,
      if_true]
    cases neg
    · exact (Nat.zero_add _).symm
    · rfl

theorem e32_d32 {u : W32} (number : (d32 u).isNan = false) : e32 (d32 u) = u := by
  have bits : frnd fp32 false (d32 u) = u.toNat := by
    rw [toNat_eq_magOf]
    obtain finite | inf := Nat.lt_or_eq_of_le (magOf_le_of_number number)
    · rw [d32_of_finite finite, frnd_finite _ finite]
    · rw [d32_of_inf inf, inf]
      cases u.msb <;> rfl
  rw [e32, bits, BitVec.ofNat_toNat, BitVec.setWidth_eq]

/-! ### Keys -/

theorem and_signBit_ne_zero_iff (u : W32) : u &&& 0x80000000 ≠ 0 ↔ u.msb = true := by
  rw [show (0x80000000 : W32) = BitVec.twoPow 32 31 by rfl, BitVec.and_twoPow, BitVec.msb_eq_getLsbD_last]
  cases u.getLsbD 31 <;> simp

theorem keyOf_number {u : W32} (number : (d32 u).isNan = false) : keyOf (d32 u)
    = if u = 0x80000000 then 0x80000000 else if u.msb = true then ~~~u else u ||| 0x80000000 := by
  simp only [keyOf, number, Bool.false_eq_true, if_false, e32_d32 number]
  by_cases negZero : u = 0x80000000
  · simp [negZero]
  · simp only [negZero, if_false]

theorem keyOf_d32 (u : W32) : keyOf (d32 u) = if (d32 u).isNan = true then 0xFFFFFFFF else if u = 0x80000000 then 0x80000000
    else if u &&& 0x80000000 ≠ 0 then ~~~u else u ||| 0x80000000 := by
  cases number : (d32 u).isNan with
  | true => rw [keyOf, if_pos number, if_pos rfl, nanKey]
  | false => simp only [keyOf_number number, and_signBit_ne_zero_iff, Bool.false_eq_true, if_false]

theorem toNat_or_signBit {u : W32} (positive : u.msb = false) : (u ||| 0x80000000).toNat = 2 ^ 31 + magOf u := by
  have low : u.toNat = magOf u := by simpa [positive] using toNat_eq_magOf u
  rw [BitVec.toNat_or, low, Nat.or_comm]
  exact (Nat.two_pow_add_eq_or_of_lt (magOf_lt u) 1).symm

theorem toNat_not_of_negative {u : W32} (negative : u.msb = true) : (~~~u).toNat = 2 ^ 31 - 1 - magOf u := by
  have whole : u.toNat = 2 ^ 31 + magOf u := by simpa [negative] using toNat_eq_magOf u
  rw [BitVec.toNat_not, whole]
  omega

/-- The key of a number is its signed encoding counted from the key of zero, one lower below it: −0 has the key of +0. -/
theorem toNat_keyOf {u : W32} (number : (d32 u).isNan = false) : ((keyOf (d32 u)).toNat : Int)
    = if withSign u.msb (magOf u) < 0 then 2 ^ 31 - 1 + withSign u.msb (magOf u) else 2 ^ 31 + withSign u.msb (magOf u) := by
  rw [keyOf_number number]
  by_cases negZero : u = 0x80000000
  · subst negZero; decide
  · rw [if_neg negZero]
    have bound := magOf_lt u
    cases sign : u.msb with
    | true =>
      have some_ : magOf u ≠ 0 := fun none_ => negZero (BitVec.eq_of_toNat_eq (by simp [toNat_eq_magOf u, sign, none_]))
      simp only [if_true, toNat_not_of_negative sign, withSign]
      rw [if_pos (by omega)]
      omega
    | false =>
      simp only [Bool.false_eq_true, if_false, toNat_or_signBit sign, withSign]
      rw [if_neg (by omega)]
      omega

theorem keyOf_lt_iff {u v : W32} (hu : (d32 u).isNan = false) (hv : (d32 v).isNan = false) :
    (keyOf (d32 u)).toNat < (keyOf (d32 v)).toNat ↔ flt (d32 u) (d32 v) = true := by
  have ku := toNat_keyOf hu
  have kv := toNat_keyOf hv
  rw [flt_d32 hu hv]
  split at ku <;> split at kv <;> omega

theorem feq_iff {x y : FV} (hx : x.isNan = false) (hy : y.isNan = false) :
    feq x y = true ↔ ¬ flt x y = true ∧ ¬ flt y x = true := by
  simp [feq, fle, hx, hy, and_comm]

theorem keyOf_eq_iff {u v : W32} (hu : (d32 u).isNan = false) (hv : (d32 v).isNan = false) :
    keyOf (d32 u) = keyOf (d32 v) ↔ feq (d32 u) (d32 v) = true := by
  rw [feq_iff hu hv, ← keyOf_lt_iff hu hv, ← keyOf_lt_iff hv hu, ← BitVec.toNat_inj]
  omega

theorem valOf_eq (k : W32) : valOf k = if 0x80000000 ≤ k.toNat then d32 (k ^^^ 0x80000000) else d32 (~~~k) := by
  simp only [valOf, BitVec.msb_eq_decide, decide_eq_true_eq]
  exact apply_ite ..

theorem entryLe_of_key_ne (row : Bool) {a b : Entry} (differ : a.key ≠ b.key) :
    entryLe row a b = true ↔ a.key.toNat < b.key.toNat := by
  simp [entryLe, differ]

/-- Settles O51: R94's key is the signed encoding counted from that of zero, and values lie as their signed encodings do. -/
theorem keysOrderAsDistances : Obligations.KeysOrderAsDistances :=
  ⟨keyOf_d32, fun _ _ hu hv => ⟨keyOf_lt_iff hu hv, keyOf_eq_iff hu hv⟩, fun row _ _ => entryLe_of_key_ne row, valOf_eq⟩

end Sys2Proof.Machine
end

section
/-!
A dictionary write of one entry that passes its checks (R362-R364), and the writes that act on the module's parts (R111, R176,
R266, R363): the write itself, between two changes of the access paths alone.
-/
namespace Sys2Proof.Machine

/-! ### The paths of the dictionary -/

/-- The state with other access paths. -/
def withPaths (s : State) (l : List Path) : State := { s with dict := { s.dict with paths := l } }

theorem withPath_paths (s : State) (n : Nat) (f : Path → Path) : ∃ l, withPath s n f = withPaths s l := ⟨_, rfl⟩

/-- What a message of one write does before its item: the path was used, and its staging is discarded. -/
theorem dropStage_usePath_paths (s : State) (path : Nat) : ∃ l, dropStage (usePath s path) path = withPaths s l := ⟨_, rfl⟩

theorem restartUnlock_paths (s : State) (path : Nat) (e : DictEnt) : ∃ l, restartUnlock s path e = withPaths s l := by
  unfold restartUnlock
  split
  · exact withPath_paths ..
  · exact ⟨s.dict.paths, rfl⟩

/-! ### A write of one entry that passes its checks -/

theorem key_of_entryAt {key : Nat} {e : DictEnt} (entry : entryAt key = some e) : e.key = key := by
  simpa using List.find?_some entry

theorem objOf_of_writeStatus_ok {s : State} {path typ len v key : Nat} {binds : List (Nat × Nat)} {e : DictEnt}
    (entry : entryAt key = some e) (ok : writeStatus s path binds typ len v key = stOk) :
    ∃ obj, objOf s path binds e = some obj := by
  cases object : objOf s path binds e with
  | some obj => exact ⟨obj, rfl⟩
  | none =>
    simp only [writeStatus, entry, object] at ok
    repeat' split at ok
    all_goals exact absurd ok (by decide)

theorem writeItem_of_ok {s : State} {path typ len v key obj : Nat} {binds : List (Nat × Nat)} {e : DictEnt} (signed : Bool)
    (entry : entryAt key = some e) (ok : writeStatus s path binds typ len v key = stOk) (object : objOf s path binds e = some obj)
    (noToken : key ≠ 0xA00033) :
    writeItem s path binds typ len v key signed = (restartUnlock (applyWrite s path e obj v) path e, stOk) := by
  simp [writeItem, entry, ok, object, noToken]

theorem exists_obj_of_writeOk {s : State} {path key v : Nat} (ok : WriteOk s path key v) :
    ∃ e obj, entryAt key = some e ∧ objOf (dropStage (usePath s path) path) path [] e = some obj := by
  obtain ⟨-, -, -, e, entry, passes⟩ := ok
  obtain ⟨obj, object⟩ := objOf_of_writeStatus_ok entry passes
  exact ⟨e, obj, entry, object⟩

/-- A write that passes its checks and asks for no restart is what its entry does, between two changes of the access paths. -/
theorem writeOne_of_ok {s : State} {path key v obj : Nat} {e : DictEnt} {f : State → State} (ok : WriteOk s path key v)
    (noToken : key ≠ 0xA00033) (entry : entryAt key = some e)
    (object : objOf (dropStage (usePath s path) path) path [] e = some obj) (writes : ∀ u, applyWrite u path e obj v = f u)
    (calm : ∀ u, (f u).dict.restart = u.dict.restart) :
    ∃ before after, writeOne s path key v = withPaths (f (withPaths s before)) after := by
  obtain ⟨ready, noRestart, -, e', entry', passes⟩ := ok
  obtain rfl : e' = e := Option.some.inj (entry'.symm.trans entry)
  obtain ⟨before, same⟩ := dropStage_usePath_paths s path
  have item := writeItem_of_ok false entry passes object noToken
  obtain ⟨after, unlocked⟩ := restartUnlock_paths (f (withPaths s before)) path e'
  rw [same, writes, unlocked] at item
  have answered : endMessage (withPaths (f (withPaths s before)) after) = withPaths (f (withPaths s before)) after := by
    have none_ : (withPaths (f (withPaths s before)) after).dict.restart = none := (calm _).trans noRestart
    rw [endMessage, none_]
  exact ⟨before, after, by simp [writeOne, ready, entry, same, item, countStatus, answered]⟩

/-! ### What the entries do that act on the module's parts -/

/-- The entries whose writes act on parts are no selectors. -/
theorem not_selector_of_part : ∀ e ∈ dictEntries,
    e.key / 256 = 0x9100 ∨ e.key ∈ [0x701107, 0x720003, 0x502101, 0xB00004] → e.sel = false := by decide +kernel

theorem entryAt_part {key : Nat} {e : DictEnt} (entry : entryAt key = some e)
    (part : key / 256 = 0x9100 ∨ key ∈ [0x701107, 0x720003, 0x502101, 0xB00004]) : e.key = key ∧ e.sel = false := by
  have same := key_of_entryAt entry
  exact ⟨same, not_selector_of_part e (List.mem_of_find?_eq_some entry) (same ▸ part)⟩

section
variable {path obj v : Nat} {e : DictEnt}

theorem applyWrite_counter {sub : Nat} (entry : entryAt (0x910000 + sub) = some e) (bound : sub < 256) (u : State) :
    applyWrite u path e obj v = clearCounter u sub := by
  obtain ⟨key, plain⟩ := entryAt_part entry (.inl (by omega))
  rw [applyWrite, key, if_neg (by simp [plain]), if_pos (by omega), show (0x910000 + sub) % 256 = sub by omega]

theorem applyWrite_statClear (entry : entryAt 0x701107 = some e) (u : State) : applyWrite u path e obj v = clearStat u obj v := by
  obtain ⟨key, plain⟩ := entryAt_part entry (.inr (by decide))
  simp [applyWrite, key, plain]

theorem applyWrite_tabUnload (entry : entryAt 0x720003 = some e) (u : State) : applyWrite u path e obj v = unloadTab u v := by
  obtain ⟨key, plain⟩ := entryAt_part entry (.inr (by decide))
  simp [applyWrite, key, plain]

theorem applyWrite_kernelCode (entry : entryAt 0x502101 = some e) (u : State) :
    applyWrite u path e obj v = storeKernel u obj v := by
  obtain ⟨key, plain⟩ := entryAt_part entry (.inr (by decide))
  simp [applyWrite, key, plain]

theorem applyWrite_fenceClear (entry : entryAt 0xB00004 = some e) (u : State) :
    applyWrite u path e obj v = { u with integ := { u.integ with clearNext := true } } := by
  obtain ⟨key, plain⟩ := entryAt_part entry (.inr (by decide))
  simp [applyWrite, key, plain]

end

/-! ### What a tablature that is unloaded takes with it -/

/-- Besides the dictionary's values an unload changes the table of tablatures alone, and it asks for no restart (R266). -/
theorem unloadTab_spec (s : State) (n : Nat) : ∃ d, d.restart = s.dict.restart
    ∧ unloadTab s n = { s with dict := d, dense := { s.dense with tabs := forget s.dense.tabs n } } :=
  ⟨(unloadTab s n).dict, rfl, rfl⟩

theorem unloadTab_restart (s : State) (n : Nat) : (unloadTab s n).dict.restart = s.dict.restart := by
  obtain ⟨d, restart, same⟩ := unloadTab_spec s n
  rw [same, restart]

/-! ### The writes -/

theorem execCounterClear_of_counter {s : State} {path sub : Nat} (bound : sub < 256) (ok : WriteOk s path (0x910000 + sub) 0)
    (clears : (entryAt (0x910000 + sub)).any (·.clears) = true) : ∃ before after,
    exec (.counterClear path (0x910000 + sub) 0) s = .next (withPaths (clearCounter (withPaths s before) sub) after) := by
  obtain ⟨e, obj, entry, object⟩ := exists_obj_of_writeOk ok
  obtain ⟨before, after, done⟩ := writeOne_of_ok ok (by omega) entry object (applyWrite_counter entry bound) fun _ => rfl
  refine ⟨before, after, ?_⟩
  rw [← done]
  exact if_pos clears

theorem counter_withPaths_clearCounter (s : State) (before after : List Path) (sub n : Nat) :
    counter (withPaths (clearCounter (withPaths s before) sub) after) n = if n = sub then 0 else counter s n := by
  simp only [counter, withPaths, clearCounter, look_forget]
  split <;> rfl

theorem partWritesTakeEffect : Claims.PartWritesTakeEffect := by
  intro s path v
  refine ⟨fun sub bound ok clears => ?_, fun e obj entry object ok => ?_, fun ok => ?_, fun block e obj entry object ok => ?_,
    fun ok => ?_⟩
  · obtain ⟨before, after, done⟩ := execCounterClear_of_counter bound ok clears
    refine ⟨_, done, ?_, fun n other => ?_, rfl, rfl⟩
    · rw [counter_withPaths_clearCounter, if_pos rfl]
    · rw [counter_withPaths_clearCounter, if_neg other]
  · obtain ⟨before, after, done⟩ := writeOne_of_ok ok (by decide) entry object (applyWrite_statClear entry) fun _ => rfl
    exact ⟨_, congrArg Host.Outcome.next done, look_forget_same .., fun n other => look_forget_other _ other, rfl⟩
  · obtain ⟨e, obj, entry, object⟩ := exists_obj_of_writeOk ok
    obtain ⟨before, after, done⟩ :=
      writeOne_of_ok ok (by decide) entry object (applyWrite_tabUnload entry) (unloadTab_restart · v)
    obtain ⟨d, -, unloaded⟩ := unloadTab_spec (withPaths s before) v
    rw [unloaded] at done
    exact ⟨_, congrArg Host.Outcome.next done, look_forget_same .., fun n other => look_forget_other _ other, rfl⟩
  · obtain ⟨before, after, done⟩ := writeOne_of_ok ok (by decide) entry object (applyWrite_kernelCode entry) fun _ => rfl
    exact ⟨_, _, congrArg Host.Outcome.next done, look_keep_same .., rfl, rfl, rfl, fun n other => look_keep_other _ _ other,
      rfl⟩
  · obtain ⟨e, obj, entry, object⟩ := exists_obj_of_writeOk ok
    obtain ⟨before, after, done⟩ := writeOne_of_ok ok (by decide) entry object (applyWrite_fenceClear entry) fun _ => rfl
    exact ⟨_, congrArg Host.Outcome.next done, rfl, rfl⟩

end Sys2Proof.Machine
end

section
/-!
The management link and what its port answers to neighbour discovery and echo requests (R374, R375, log entry 140).
-/
namespace Sys2Proof.Machine

section
variable {s : State} (aux : s.pins.aux = true) (free : s.tap.pinsTaken = false)
include aux free

theorem execPlcaBeaconChange_of_port (seen : Bool) :
    exec (.plcaBeaconChange seen) s = .next { s with dict := { s.dict with link := if seen then 1 else 2 } } := by
  change execPlcaBeaconChange seen s = _
  simp [execPlcaBeaconChange, aux, free]

variable (sampled : s.pins.sampled = true)
include sampled

theorem execNeighbourDiscovery_of_solicitation (source target : List Byte) :
    exec (.neighbourDiscovery (.solicitation source target)) s
      = if target = linkLocal s then .next (advertise s source) else .next s := by
  change execNeighbourDiscovery (.solicitation source target) s = _
  simp [execNeighbourDiscovery, aux, free, sampled, idle]

theorem execNeighbourDiscovery_of_echo (source body : List Byte) :
    exec (.neighbourDiscovery (.echo source (linkLocal s) body)) s
      = if s.dict.dupAddr = true then .next s else .next (sendIcmp s source 129 body) := by
  change execNeighbourDiscovery (.echo source (linkLocal s) body) s = _
  cases dup : s.dict.dupAddr <;> simp [execNeighbourDiscovery, mgmtUp, aux, free, sampled, dup, idle]

theorem execNeighbourDiscovery_of_duplicate : exec (.neighbourDiscovery .duplicate) s
    = if s.dict.dupAddr = true then .next s
      else .next (raise { s with dict := { s.dict with dupAddr := true } } 0x0604 2 7 0) := by
  change execNeighbourDiscovery .duplicate s = _
  simp [execNeighbourDiscovery, aux, free, sampled, idle]

end

theorem advertise_of_source {s : State} {source : List Byte} (known : source ≠ unspecified) :
    advertise s source = sendIcmp s source 136 ([0x60, 0, 0, 0] ++ linkLocal s ++ [2, 1] ++ macAddress s) := by
  simp [advertise, known]

theorem advertise_of_unspecified (s : State) :
    advertise s unspecified = sendIcmp s allNodes 136 ([0x20, 0, 0, 0] ++ linkLocal s ++ [2, 1] ++ macAddress s) := by
  simp [advertise]

theorem managementLinkChanges : Claims.ManagementLinkChanges := by
  intro s aux sampled free
  refine ⟨execPlcaBeaconChange_of_port aux free true, execPlcaBeaconChange_of_port aux free false,
    fun source target other => ?_, fun source known => ?_, ?_, fun source body => ⟨fun alone => ?_, fun dup => ?_⟩,
    fun dup => ?_, fun alone => ?_⟩
  · rw [execNeighbourDiscovery_of_solicitation aux free sampled, if_neg other]
  · rw [execNeighbourDiscovery_of_solicitation aux free sampled, if_pos rfl, advertise_of_source known]
    rfl
  · rw [execNeighbourDiscovery_of_solicitation aux free sampled, if_pos rfl, advertise_of_unspecified]
    rfl
  · rw [execNeighbourDiscovery_of_echo aux free sampled, if_neg (by simp [alone])]
    rfl
  · rw [execNeighbourDiscovery_of_echo aux free sampled, if_pos dup]
  · rw [execNeighbourDiscovery_of_duplicate aux free sampled, if_pos dup]
  · rw [execNeighbourDiscovery_of_duplicate aux free sampled, if_neg (by simp [alone])]
    refine ⟨_, rfl, rfl, ?_, raise_next .., rfl⟩
    simp [mgmtUp]

/-- Settles O35: a write that passes its checks is what its entry does; the link and the answers follow the port's state. -/
theorem partWritesAndLinkChangesTakeEffect : Obligations.PartWritesAndLinkChangesTakeEffect :=
  ⟨partWritesTakeEffect, managementLinkChanges⟩

end Sys2Proof.Machine
end

section
/-!
Merging of lists (R118, R124, R125): the sort orders any list by key, however equal keys are ordered; the reduction of a sorted
list keeps an entry of every identifier, with its lowest key; and what the
truncation of a sorted list loses lies above all that stays.
-/
namespace Sys2Proof.Machine

/-! ### Sorting -/

theorem insertBy_perm (le : α → α → Bool) (x : α) (l : List α) : (insertBy le x l).Perm (x :: l) := by
  induction l with
  | nil => rfl
  | cons y r ih =>
    rw [insertBy]
    split
    · exact (ih.cons y).trans (.swap x y r)
    · rfl

theorem sortBy_perm (le : α → α → Bool) (l : List α) : (sortBy le l).Perm l := by
  induction l with
  | nil => rfl
  | cons x r ih => exact (insertBy_perm _ x _).trans (ih.cons x)

/-- `le` need not be an order: it only has to agree with a transitive relation. -/
theorem insertBy_pairwise {R : α → α → Prop} (trans : ∀ x y z, R x y → R y z → R x z) {le : α → α → Bool}
    (before : ∀ y x, le y x = true → R y x) (after : ∀ y x, le y x = false → R x y) (x : α) {l : List α}
    (sorted : l.Pairwise R) : (insertBy le x l).Pairwise R := by
  induction l with
  | nil => exact List.pairwise_singleton R x
  | cons y r ih =>
    obtain ⟨first, rest⟩ := List.pairwise_cons.1 sorted
    cases stays : le y x with
    | true =>
      rw [insertBy, if_pos stays]
      refine List.pairwise_cons.2 ⟨fun z hz => ?_, ih rest⟩
      obtain rfl | hz := List.mem_cons.1 ((insertBy_perm le x r).mem_iff.1 hz)
      · exact before y z stays
      · exact first z hz
    | false =>
      rw [insertBy, if_neg (Bool.eq_false_iff.1 stays)]
      have xy : R x y := after y x stays
      refine List.pairwise_cons.2 ⟨fun z hz => ?_, sorted⟩
      obtain rfl | hz := List.mem_cons.1 hz
      · exact xy
      · exact trans _ _ _ xy (first z hz)

theorem sortBy_pairwise {R : α → α → Prop} (trans : ∀ x y z, R x y → R y z → R x z) {le : α → α → Bool}
    (of_le : ∀ x y, le x y = true → R x y) (of_not_le : ∀ x y, le x y = false → R y x) (l : List α) :
    (sortBy le l).Pairwise R := by
  induction l with
  | nil => exact .nil
  | cons x r ih =>
    exact insertBy_pairwise trans (fun y z h => of_not_le z y (Bool.not_eq_true' _ ▸ h))
      (fun y z h => of_le z y (Bool.not_eq_false' _ ▸ h)) x ih

/-! ### Entries in the order of their keys -/

/-- The order of entries by key alone, in which search lists go out (R118). -/
abbrev KeyLe (a b : Entry) : Prop := a.key.toNat ≤ b.key.toNat

theorem keyLe_of_entryLe {row : Bool} (a b : Entry) (h : entryLe row a b = true) : KeyLe a b := by
  by_cases same : a.key = b.key
  · exact Nat.le_of_eq (congrArg BitVec.toNat same)
  · exact Nat.le_of_lt ((entryLe_of_key_ne row same).1 h)

theorem keyLe_of_not_entryLe {row : Bool} (a b : Entry) (h : entryLe row a b = false) : KeyLe b a := by
  by_cases same : a.key = b.key
  · exact Nat.le_of_eq (congrArg BitVec.toNat same).symm
  · exact Nat.le_of_not_lt fun lower => Bool.eq_false_iff.1 h ((entryLe_of_key_ne row same).2 lower)

theorem sortBy_entryLe_pairwise (row : Bool) (l : List Entry) : (sortBy (entryLe row) l).Pairwise KeyLe :=
  sortBy_pairwise (R := KeyLe) (fun _ _ _ => Nat.le_trans) keyLe_of_entryLe keyLe_of_not_entryLe l

/-! ### Reduction to distinct identifiers -/

/-- The shape of a proof about a fold from the left: a list is empty or has a last element. -/
theorem concat_induction {P : List α → Prop} (nil : P []) (concat : ∀ l e, P l → P (l ++ [e])) (l : List α) : P l := by
  rw [← l.reverse_reverse]
  induction l.reverse with
  | nil => exact nil
  | cons e r ih =>
    rw [List.reverse_cons]
    exact concat _ e ih

theorem dedup_concat (l : List Entry) (e : Entry) :
    (dedup (l ++ [e])).1 = if ∃ x ∈ (dedup l).1, x.id = e.id then (dedup l).1 else (dedup l).1 ++ [e] := by
  rw [dedup, List.foldl_append, ← dedup, List.foldl_cons, List.foldl_nil, apply_ite Prod.fst]
  simp only [List.any_eq_true, beq_iff_eq]

theorem dedup_sublist (l : List Entry) : (dedup l).1.Sublist l := by
  induction l using concat_induction with
  | nil => exact .slnil
  | concat l e ih =>
    rw [dedup_concat]
    split
    · exact ih.trans (List.sublist_append_left l [e])
    · exact ih.append_right [e]

theorem dedup_ids_nodup (l : List Entry) : ((dedup l).1.map (·.id)).Nodup := by
  induction l using concat_induction with
  | nil => exact .nil
  | concat l e ih =>
    rw [dedup_concat]
    split
    case isTrue => exact ih
    case isFalse fresh =>
      rw [List.map_append, List.map_singleton, List.nodup_append]
      refine ⟨ih, List.pairwise_singleton _ _, fun i hi j hj same => fresh ?_⟩
      obtain ⟨x, hx, rfl⟩ := List.mem_map.1 hi
      exact ⟨x, hx, same.trans (List.mem_singleton.1 hj)⟩

/-- R124: the entry kept for an identifier has the lowest key, since the reduction follows the sort. -/
theorem exists_mem_dedup {l : List Entry} (sorted : l.Pairwise KeyLe) {x : Entry} (hx : x ∈ l) :
    ∃ y ∈ (dedup l).1, y.id = x.id ∧ KeyLe y x := by
  induction l using concat_induction with
  | nil => cases hx
  | concat l e ih =>
    obtain ⟨front, -, below⟩ := List.pairwise_append.1 sorted
    rw [dedup_concat]
    obtain hx | hx := List.mem_append.1 hx
    · obtain ⟨y, hy, same⟩ := ih front hx
      refine ⟨y, ?_, same⟩
      split
      · exact hy
      · exact List.mem_append_left [e] hy
    · obtain rfl := List.mem_singleton.1 hx
      split
      case isTrue known =>
        obtain ⟨y, hy, same⟩ := known
        exact ⟨y, hy, same, below y ((dedup_sublist l).subset hy) x hx⟩
      case isFalse => exact ⟨x, List.mem_append_right _ hx, rfl, Nat.le_refl _⟩

/-! ### Truncation -/

/-- R125: an entry of a sorted list stays, or the list is full of entries that are no higher. -/
theorem mem_take_or_full {R : α → α → Prop} {l : List α} (sorted : l.Pairwise R) (n : Nat) {x : α} (hx : x ∈ l) :
    x ∈ l.take n ∨ (l.take n).length = n ∧ ∀ y ∈ l.take n, R y x := by
  rw [← List.take_append_drop n l] at sorted hx
  obtain ⟨-, -, below⟩ := List.pairwise_append.1 sorted
  obtain kept | lost := List.mem_append.1 hx
  · exact .inl kept
  · have more : 0 < (l.drop n).length := List.length_pos_of_mem lost
    rw [List.length_drop] at more
    exact .inr ⟨by rw [List.length_take]; omega, fun y hy => below y hy x lost⟩

/-! ### The merge -/

/-- The entries of two lists that a merge may keep, sorted. -/
def sortedGood (row : Bool) (a b : MList) : List Entry := sortBy (entryLe row) ((a.entries ++ b.entries).filter (entryGood row))

theorem mergeLists_entries (row : Bool) (limit : Nat) (a b : MList) :
    (mergeLists row limit a b).1.entries = (dedup (sortedGood row a b)).1.take limit := rfl

theorem mem_sortedGood {row : Bool} {a b : MList} {x : Entry} :
    x ∈ sortedGood row a b ↔ (x ∈ a.entries ∨ x ∈ b.entries) ∧ entryGood row x = true := by
  rw [sortedGood, (sortBy_perm _ _).mem_iff, List.mem_filter, List.mem_append]

theorem sortedGood_pairwise (row : Bool) (a b : MList) : (sortedGood row a b).Pairwise KeyLe := sortBy_entryLe_pairwise ..

theorem mergeLists_entries_sublist (row : Bool) (limit : Nat) (a b : MList) :
    (mergeLists row limit a b).1.entries.Sublist (sortedGood row a b) :=
  (List.take_sublist limit _).trans (dedup_sublist _)

theorem mergeLists_ids_nodup (row : Bool) (limit : Nat) (a b : MList) :
    ((mergeLists row limit a b).1.entries.map (·.id)).Nodup :=
  (dedup_ids_nodup _).sublist ((List.take_sublist limit _).map _)

theorem mergeLists_keeps_or_full {row : Bool} (limit : Nat) {a b : MList} {x : Entry} (hx : x ∈ sortedGood row a b) :
    (∃ y ∈ (mergeLists row limit a b).1.entries, y.id = x.id ∧ KeyLe y x)
    ∨ (mergeLists row limit a b).1.entries.length = limit ∧ ∀ y ∈ (mergeLists row limit a b).1.entries, KeyLe y x := by
  rw [mergeLists_entries]
  have sorted := sortedGood_pairwise row a b
  obtain ⟨y, hy, same, lower⟩ := exists_mem_dedup sorted hx
  obtain kept | ⟨full, below⟩ := mem_take_or_full (sorted.sublist (dedup_sublist _)) limit hy
  · exact .inl ⟨y, kept, same, lower⟩
  · exact .inr ⟨full, fun z hz => Nat.le_trans (below z hz) lower⟩

theorem mergeLists_poison_of_good {row : Bool} (limit : Nat) {a b : MList}
    (good : ∀ x, x ∈ a.entries ∨ x ∈ b.entries → entryGood row x = true) :
    (mergeLists row limit a b).1.poison = (a.poison || b.poison) := by
  have all : (a.entries ++ b.entries).filter (entryGood row) = a.entries ++ b.entries :=
    List.filter_eq_self.2 fun x hx => good x (List.mem_append.1 hx)
  simp only [mergeLists, all, bne_self_eq_false, Bool.or_false]

/-- Settles O53: the result is the truncation of the reduction of the sorted good entries. -/
theorem mergedListsHoldTheLowestKeys : Obligations.MergedListsHoldTheLowestKeys := by
  rintro limit a b _ _ ⟨⟩
  have sub := mergeLists_entries_sublist false limit a b
  exact ⟨List.length_take_le .., mergeLists_ids_nodup .., (sortedGood_pairwise ..).sublist sub,
    fun x hx => mem_sortedGood.1 (sub.subset hx),
    fun x hx good => mergeLists_keeps_or_full limit (mem_sortedGood.2 ⟨hx, good⟩), rfl, rfl, mergeLists_poison_of_good limit⟩

end Sys2Proof.Machine
end

section
/-!
STRUM_CLOSE, SWEEP_START and SWEEP_DONE: the sweep orders of a closing strum, and what a sweep changes (R139-R141).
-/
namespace Sys2Proof.Machine

/-! ### Bridge filters, queries and wide counters after an update -/

theorem bridge_setBridge (s : State) (m n : Nat) (b : Bridge) :
    bridge (setBridge s m b) n = if n = m then b else bridge s n := by
  unfold bridge setBridge
  by_cases here : n = m <;> simp [look_keep, here]

@[simp] theorem bridge_setBridge_same (s : State) (m : Nat) (b : Bridge) : bridge (setBridge s m b) m = b := by
  simp [bridge_setBridge]

theorem bridge_setBridge_other (s : State) {m n : Nat} (b : Bridge) (h : n ≠ m) : bridge (setBridge s m b) n = bridge s n := by
  simp [bridge_setBridge, h]

theorem queryOf_withQuery_other (s : State) {tag n : Nat} {f : Query → Query} (keeps : ∀ q, (f q).tag = q.tag) (h : n ≠ tag) :
    queryOf (withQuery s tag f) n = queryOf s n := by
  unfold queryOf withQuery
  dsimp only
  induction s.queries with
  | nil => rfl
  | cons q r ih =>
    rw [List.map_cons, List.find?_cons, List.find?_cons, ih]
    by_cases named : q.tag = tag
    · have other : (tag == n) = false := by simpa using h.symm
      simp [named, keeps, other]
    · simp [named]

/-- A 64-bit counter wraps (R89). -/
theorem counter_bump_wide {sub : Nat} (wide : isWide sub = true) (s : State) (n : Nat) :
    counter (bump s sub n) sub = (counter s sub + n) % 2 ^ 64 := by
  simp only [bump, wide, if_true]
  generalize (counter s sub + n) % 2 ^ 64 = w
  by_cases zero : w = 0 <;> simp [counter, zero]

/-! ### A strum closes (R139) -/

/-- The sweep order of a strum: each member still in flight, with its list limit. -/
def orderOf (s : State) (i : Nat) (u : Strum) : SweepOrder :=
  { index := i, members := u.members.filterMap (fun m => (queryOf s m).map (fun q => (m, mergeLimit q))) }

/-- An order goes behind the others of a stack. -/
def addOrder (o : SweepOrder) (s : State) (m : Nat) : State :=
  setBridge s m { bridge s m with orders := (bridge s m).orders ++ [o] }

/-- Each of the stacks gets the order once. -/
theorem bridge_foldl_addOrder (o : SweepOrder) {ms : List Nat} (once : ms.Nodup) (s : State) (m : Nat) :
    bridge (ms.foldl (addOrder o) s) m
      = if m ∈ ms then { bridge s m with orders := (bridge s m).orders ++ [o] } else bridge s m := by
  induction ms generalizing s with
  | nil => rfl
  | cons k r ih =>
    obtain ⟨new, once⟩ := List.nodup_cons.1 once
    rw [List.foldl_cons, ih once]
    by_cases here : m = k
    · subst here
      simp [new, addOrder]
    · simp [here, addOrder, bridge_setBridge_other]

theorem foldl_addOrder_eq (o : SweepOrder) (ms : List Nat) (s : State) :
    ms.foldl (addOrder o) s = { s with bridges := (ms.foldl (addOrder o) s).bridges } := by
  induction ms generalizing s with
  | nil => rfl
  | cons m r ih => exact ih (addOrder o s m)

theorem indexStacks_nodup (x : Index) : (indexStacks x).Nodup := List.nodup_range.filter _

theorem execStrumClose_of_due {s : State} {i : Nat} {x : Index} {u : Strum} (at_ : indexAt s i = some x) (only : s.strums = [u])
    (own : u.index = i) (live : (orderOf s i u).members ≠ []) (due : u.opened + ctl s 0x50000C ≤ s.time.tick) :
    execStrumClose i s = .next ((indexStacks x).foldl (addOrder (orderOf s i u)) { s with strums := [] }) := by
  have found : s.strums.find? (fun t => t.index == i) = some u := by simp [only, own]
  have none_ : s.strums.filter (fun t => t.index != i) = [] := by simp [only, own]
  have there : look s.indexes i = some x := at_
  simp only [execStrumClose, closeStrum, found, due, there, none_, if_true]
  exact congrArg Host.Outcome.next (if_neg live)

/-- The order names a member that is still in flight. -/
theorem orderOf_members_ne_nil {s : State} {u : Strum} {m : Nat} (member : m ∈ u.members) (flight : queryOf s m ≠ none)
    (i : Nat) : (orderOf s i u).members ≠ [] := by
  obtain ⟨q, query⟩ := Option.ne_none_iff_exists'.1 flight
  exact List.ne_nil_of_mem (List.mem_filterMap.2 ⟨m, member, congrArg (Option.map _) query⟩)

/-! ### A sweep starts (R140) -/

/-- The chain tails on a stack, for every partition that lies on it. -/
def chainTails (x : Index) (stack : Nat) : List (Nat × Nat) :=
  x.parts.zipIdx.filterMap (fun p => if bit p.1.mask stack then some (p.2, (chainOf p.1 stack).next) else none)

theorem mem_chainTails {x : Index} {pn stack : Nat} {p : Part} (part : partAt x pn = some p) (on : bit p.mask stack = true) :
    (pn, (chainOf p stack).next) ∈ chainTails x stack :=
  List.mem_filterMap.2 ⟨(p, pn), List.mem_zipIdx_iff_getElem?.2 part, if_pos on⟩

theorem execSweepStart_of_registered {s : State} {stack : Nat} {x : Index} {o : SweepOrder} {rest : List SweepOrder}
    (idle_ : (bridge s stack).sweep = none) (head : (bridge s stack).orders = o :: rest) (at_ : indexAt s o.index = some x)
    (registered : ∀ m q, m ∈ o.members → queryOf s m.1 = some q → q.phase ≠ .waiting ∧ q.phase ≠ .started) :
    execSweepStart stack s = .next (setBridge s stack
      { bridge s stack with orders := rest, sweep := some { order := o, tails := chainTails x stack } }) := by
  have ready : o.members.all (fun m => (queryOf s m.1).all (fun q => q.phase != .waiting && q.phase != .started)) = true := by
    refine List.all_eq_true.2 fun m member => ?_
    cases query : queryOf s m.1 with
    | none => rfl
    | some q =>
      obtain ⟨admitted, on⟩ := registered m q member query
      simp [admitted, on]
  simp only [execSweepStart, idle_, head, at_, ready, Bool.not_true, Bool.false_eq_true, if_false]
  rfl

/-! ### A sweep ends (R141) -/

/-- The list of a member that still holds its entry leaves for its die merge stage. -/
def deliverList (x : Index) (w : Sweep) (stack : Nat) (s : State) (m : Nat × Nat) : State :=
  match queryOf s m.1 with
  | none => s
  | some q =>
    if hasEntry s q stack then
      withQuery (handOff s m.1 (.sweep stack) (sweepList x q stack m.2 w.tails)) m.1
        (fun q => { q with swept := stack :: q.swept })
    else s

theorem deliverList_keeps (x : Index) (w : Sweep) (stack : Nat) (s : State) (m : Nat × Nat) :
    deliverList x w stack s m = { s with queries := (deliverList x w stack s m).queries } := by
  unfold deliverList
  split
  · rfl
  · split <;> rfl

theorem queryOf_deliverList_other (x : Index) (w : Sweep) (stack : Nat) (s : State) {m : Nat × Nat} {n : Nat} (h : m.1 ≠ n) :
    queryOf (deliverList x w stack s m) n = queryOf s n := by
  have handed : ∀ l, queryOf (handOff s m.1 (.sweep stack) l) n = queryOf s n := fun l =>
    queryOf_withQuery_other s (fun q => by split <;> rfl) h.symm
  unfold deliverList
  split
  · rfl
  · split
    · have keeps : ∀ q : Query, ({ q with swept := stack :: q.swept } : Query).tag = q.tag := fun _ => rfl
      rw [queryOf_withQuery_other _ keeps h.symm, handed]
    · rfl

/-- Whatever lists a sweep delivers, nothing but queries changes, and of these the members alone. -/
theorem foldl_deliverList (x : Index) (w : Sweep) (stack : Nat) (l : List (Nat × Nat)) (s : State) :
    l.foldl (deliverList x w stack) s = { s with queries := (l.foldl (deliverList x w stack) s).queries }
      ∧ ∀ n, (∀ m, m ∈ l → m.1 ≠ n) → queryOf (l.foldl (deliverList x w stack) s) n = queryOf s n := by
  induction l generalizing s with
  | nil => exact ⟨rfl, fun _ _ => rfl⟩
  | cons m r ih =>
    obtain ⟨only, others⟩ := ih (deliverList x w stack s m)
    refine ⟨?_, fun n away => ?_⟩
    · rw [List.foldl_cons, only, deliverList_keeps]
    · rw [List.foldl_cons, others n fun m' member => away m' (List.mem_cons_of_mem m member),
        queryOf_deliverList_other x w stack s (away m List.mem_cons_self)]

/-- The sweep is over and counted; its lists have not left. -/
def sweepEnded (s : State) (stack : Nat) : State := setBridge (bump s 0x38 1) stack { bridge s stack with sweep := none }

theorem execSweepDone_of_sweep {s : State} {stack : Nat} {x : Index} {w : Sweep} (sweep : (bridge s stack).sweep = some w)
    (at_ : indexAt s w.order.index = some x) :
    execSweepDone stack s = .next (w.order.members.foldl (deliverList x w stack) (sweepEnded s stack)) := by
  simp only [execSweepDone, sweep, at_]
  rfl

/-- Settles O16, command by command. -/
theorem strumsAreSweptOnEveryStack : Obligations.StrumsAreSweptOnEveryStack := by
  intro s i x at_
  refine ⟨fun u only own ⟨m, member, flight⟩ due => ?_, fun stack o rest idle_ head own registered => ?_,
    fun stack w sweep own => ?_⟩
  · refine ⟨_, execStrumClose_of_due at_ only own (orderOf_members_ne_nil member flight i) due, ?_, fun m on => ?_,
      fun m off => ?_, ?_⟩
    · rw [foldl_addOrder_eq]
    · rw [bridge_foldl_addOrder _ (indexStacks_nodup x), if_pos on]
      rfl
    · rw [bridge_foldl_addOrder _ (indexStacks_nodup x), if_neg off]
      rfl
    · rw [foldl_addOrder_eq]
  · subst own
    refine ⟨_, execSweepStart_of_registered idle_ head at_ registered, ?_,
      ⟨{ order := o, tails := chainTails x stack }, ?_, rfl, fun pn p => mem_chainTails⟩,
      fun m other => bridge_setBridge_other s _ other, rfl⟩
    · rw [bridge_setBridge_same]
    · rw [bridge_setBridge_same]
  · subst own
    obtain ⟨only, others⟩ := foldl_deliverList x w stack w.order.members (sweepEnded s stack)
    have bridges : ∀ m, bridge (w.order.members.foldl (deliverList x w stack) (sweepEnded s stack)) m
        = bridge (sweepEnded s stack) m := fun m => by rw [only]; rfl
    refine ⟨_, execSweepDone_of_sweep sweep at_, ?_, ?_, fun m other => ?_, ?_, others, ?_⟩
    · rw [bridges, sweepEnded, bridge_setBridge_same]
    · rw [bridges, sweepEnded, bridge_setBridge_same]
    · rw [bridges, sweepEnded, bridge_setBridge_other _ _ other]
      rfl
    · rw [only]
      exact counter_bump_wide (by decide) s 1
    · rw [only]
      rfl

end Sys2Proof.Machine
end

section
/-!
Commands that end while others go on: what the end of a command leaves of the others, and the MERGE_NOWs that wait (R146, R202).
-/
namespace Sys2Proof

theorem keep_keep (k : Nat) (v w : α) (l : List (Nat × α)) : keep k v (keep k w l) = keep k v l := by
  induction l with
  | nil => simp [keep]
  | cons p r ih =>
    obtain ⟨j, u⟩ := p
    by_cases below : j < k
    · simp [keep, below, ih]
    · by_cases here : j = k <;> simp [keep, below, here]

theorem mem_of_look {l : List (Nat × α)} {k : Nat} {v : α} (h : look l k = some v) : (k, v) ∈ l := by
  obtain ⟨⟨j, w⟩, found, rfl⟩ := Option.map_eq_some_iff.1 h
  have named : j = k := by simpa using List.find?_some found
  exact named ▸ List.mem_of_find?_eq_some found

/-- A key stands once in a list whose keys rise. -/
theorem Rising.look_of_mem {l : List (Nat × α)} (rising : Rising l) {k : Nat} {v : α} (h : (k, v) ∈ l) : look l k = some v := by
  induction l with
  | nil => cases h
  | cons p r ih =>
    obtain ⟨first, rest⟩ := List.pairwise_cons.1 rising
    rw [look_cons]
    rcases List.mem_cons.1 h with rfl | later
    · simp
    · have below : p.1 ≠ k := Nat.ne_of_lt (first _ later)
      rw [if_neg below, ih rest later]

end Sys2Proof

namespace Sys2Proof.Machine

/-! ### The end of one command -/

/-- The commands of a channel after `seq` ended with `k`. -/
def endedCmds (seq : Nat) (k : Compl) (cmds : List OutCmd) : List OutCmd :=
  cmds.map (fun o => if o.seq == seq then { o with stage := .done k } else o)

/-- The end of an outstanding command is written into its channel, which loses no earlier end. -/
theorem finish_eq {s : State} {slot seq : Nat} {o : OutCmd} (k : Compl) (out : outCmd s slot seq = some o) :
    ∃ ds, finish s slot seq k = setChan s slot { chan s slot with cmds := endedCmds seq k (chan s slot).cmds, dones := ds }
      ∧ (chan s slot).dones ⊆ ds := by
  unfold finish
  simp only [out, Option.isNone_some, Bool.false_eq_true, if_false, chan_withCmd, if_true]
  split
  · exact ⟨_, rfl, List.Subset.refl _⟩
  · refine ⟨(chan s slot).dones ++ [seq], ?_, List.subset_append_left ..⟩
    simp only [withCmd, setChan, keep_keep, endedCmds]

theorem dones_finish_subset (s : State) (slot seq n : Nat) (k : Compl) :
    (chan s n).dones ⊆ (chan (finish s slot seq k) n).dones := by
  cases out : outCmd s slot seq with
  | none => rw [finish_absent k out]; exact List.Subset.refl _
  | some o =>
    obtain ⟨ds, eq, more⟩ := finish_eq k out
    rw [eq, chan_setChan]
    split
    · next here => rw [here]; exact more
    · exact List.Subset.refl _

/-- A command that has ended with `k` stays so when `k` is also what another one, or itself, ends with. -/
theorem Finished.finish {s : State} {slot seq : Nat} {k : Compl} (h : Finished s slot seq k) (slot' seq' : Nat) :
    Finished (finish s slot' seq' k) slot seq k := by
  cases out : outCmd s slot' seq' with
  | none => rwa [finish_absent k out]
  | some o =>
    obtain ⟨ended, -, others, -, rest⟩ := finish_spec k out
    by_cases same : slot = slot' ∧ seq = seq'
    · rw [same.1, same.2]
      exact ended
    · obtain ⟨d, done, stage, waits⟩ := h
      refine ⟨d, ?_, stage, dones_finish_subset s slot' seq' slot k waits⟩
      by_cases here : slot = slot'
      · rw [here, rest seq (fun this => same ⟨here, this⟩), ← here, done]
      · rw [outCmd, others slot here, ← outCmd, done]

theorem Finished.congr {s t : State} {slot seq : Nat} {k : Compl} (same : t.chans = s.chans) (h : Finished s slot seq k) :
    Finished t slot seq k := by
  obtain ⟨o, out, stage, waits⟩ := h
  exact ⟨o, (outCmd_congr same slot seq).trans out, stage, by rwa [chan_congr same]⟩

theorem outCmd_finish_other (s : State) {slot seq slot' seq' : Nat} (k : Compl) (h : (slot, seq) ≠ (slot', seq')) :
    outCmd (finish s slot' seq' k) slot seq = outCmd s slot seq := by
  cases out : outCmd s slot' seq' with
  | none => rw [finish_absent k out]
  | some o =>
    obtain ⟨-, -, others, -, rest⟩ := finish_spec k out
    by_cases here : slot = slot'
    · subst here
      exact rest seq (fun this => h (by rw [this]))
    · rw [outCmd, others slot here, ← outCmd]

/-! ### The end of many commands -/

/-- Each of the commands that a list names ends with `k`. -/
def finishEach (k : Compl) (l : List (Nat × Nat)) (s : State) : State := l.foldl (fun s t => finish s t.1 t.2 k) s

/-- The commands that satisfy a test, by slot and SEQ. -/
def cmdsWith (s : State) (p : OutCmd → Bool) : List (Nat × Nat) :=
  (s.chans.map (fun ch => (ch.2.cmds.filter p).map (fun o => (ch.1, o.seq)))).flatten

theorem finishAll_eq (s : State) (p : OutCmd → Bool) (k : Compl) :
    finishAll s p (fun _ => k) = finishEach k (cmdsWith s p) s := by
  simp only [finishAll, finishEach, cmdsWith, List.foldl_flatten, List.foldl_map]

theorem mem_cmdsWith {s : State} {p : OutCmd → Bool} {slot seq : Nat} :
    (slot, seq) ∈ cmdsWith s p ↔ ∃ c, (slot, c) ∈ s.chans ∧ ∃ o, o ∈ c.cmds ∧ p o = true ∧ o.seq = seq := by
  simp only [cmdsWith, List.mem_flatten, List.mem_map, Prod.exists]
  constructor
  · rintro ⟨_, ⟨n, c, member, rfl⟩, here⟩
    obtain ⟨o, found, named⟩ := List.mem_map.1 here
    obtain ⟨inside, test⟩ := List.mem_filter.1 found
    cases named
    exact ⟨c, member, o, inside, test, rfl⟩
  · rintro ⟨c, member, o, inside, test, rfl⟩
    exact ⟨_, ⟨slot, c, member, rfl⟩, List.mem_map.2 ⟨o, List.mem_filter.2 ⟨inside, test⟩, rfl⟩⟩

theorem finishEach_kept (k : Compl) (l : List (Nat × Nat)) (s : State) :
    finishEach k l s = { s with chans := (finishEach k l s).chans } := by
  induction l generalizing s with
  | nil => rfl
  | cons t r ih =>
    have one : finish s t.1 t.2 k = { s with chans := (finish s t.1 t.2 k).chans } := by
      cases out : outCmd s t.1 t.2 with
      | none => rw [finish_absent k out]
      | some o => exact (finish_spec k out).2.1
    rw [finishEach, List.foldl_cons, ← finishEach, ih, one]

theorem Finished.finishEach {k : Compl} {slot seq : Nat} (l : List (Nat × Nat)) {s : State} (h : Finished s slot seq k) :
    Finished (finishEach k l s) slot seq k := by
  induction l generalizing s with
  | nil => exact h
  | cons t r ih => exact ih (h.finish t.1 t.2)

/-- A command that the list names and that is outstanding ends. -/
theorem finished_finishEach {k : Compl} {slot seq : Nat} {l : List (Nat × Nat)} (named : (slot, seq) ∈ l) {s : State}
    {o : OutCmd} (out : outCmd s slot seq = some o) : Finished (finishEach k l s) slot seq k := by
  induction l generalizing s o with
  | nil => cases named
  | cons t r ih =>
    by_cases here : (slot, seq) = t
    · subst here
      exact (finish_spec k out).1.finishEach r
    · have later : (slot, seq) ∈ r := (List.mem_cons.1 named).resolve_left here
      exact ih later ((outCmd_finish_other s k here).trans out)

theorem outCmd_finishEach_other {k : Compl} {slot seq : Nat} {l : List (Nat × Nat)} (unnamed : (slot, seq) ∉ l) (s : State) :
    outCmd (finishEach k l s) slot seq = outCmd s slot seq := by
  induction l generalizing s with
  | nil => rfl
  | cons t r ih =>
    obtain ⟨here, later⟩ := not_or.1 (mt List.mem_cons.2 unnamed)
    exact (ih later (finish s t.1 t.2 k)).trans (outCmd_finish_other s k here)

/-! ### MERGE_NOWs that wait (R146) -/

/-- A MERGE_NOW of index `i` that is running. -/
def mergesNow (i : Nat) (o : OutCmd) : Bool := cOpcode o.word == 0x88 && cIndex o.word == i && isRunning o

/-- No MERGE_NOW of index `i` is running on a channel of the list. -/
def NoMergeNow (i : Nat) (chans : List (Nat × Channel)) : Prop := ∀ c, c ∈ chans → ∀ o, o ∈ c.2.cmds → mergesNow i o = false

theorem noMergeNow_of_waits {s : State} {i : Nat} (h : mergeNowWaits s i = false) : NoMergeNow i s.chans := by
  have same : mergeNowWaits s i = s.chans.any (fun c => c.2.cmds.any (mergesNow i)) := rfl
  rw [same] at h
  intro c member o inside
  have none_ := List.any_eq_false.1 (by simpa using List.any_eq_false.1 h c member) o inside
  simpa using none_

theorem NoMergeNow.chan {s : State} {i : Nat} (h : NoMergeNow i s.chans) (slot : Nat) {o : OutCmd}
    (member : o ∈ (chan s slot).cmds) : mergesNow i o = false := by
  unfold Machine.chan at member
  cases there : look s.chans slot with
  | none => simp [there] at member
  | some c => exact h _ (mem_of_look there) o (by simpa [there] using member)

/-- A command that ends is not one that runs. -/
theorem NoMergeNow.finish {s : State} {i : Nat} (h : NoMergeNow i s.chans) (slot seq : Nat) (k : Compl) :
    NoMergeNow i (finish s slot seq k).chans := by
  cases out : outCmd s slot seq with
  | none => rwa [finish_absent k out]
  | some o =>
    obtain ⟨ds, eq, -⟩ := finish_eq k out
    rw [eq]
    intro c member o inside
    rcases mem_keep_key member with rfl | old
    · obtain ⟨o, before, rfl⟩ := List.mem_map.1 inside
      split
      · exact Bool.and_false _
      · exact h.chan slot before
    · exact h c old o inside

theorem mergeNowDone_of_none {s : State} {i : Nat} (h : NoMergeNow i s.chans) : mergeNowDone s i = s := by
  unfold mergeNowDone
  split
  · rfl
  · next x _ =>
    rw [finishAll_eq]
    have none_ : cmdsWith s (fun o => mergesNow i o && o.targets.all (targetMerged x)) = [] := by
      refine List.eq_nil_iff_forall_not_mem.2 fun ⟨slot, seq⟩ named => ?_
      obtain ⟨c, member, o, inside, test, -⟩ := mem_cmdsWith.1 named
      rw [h _ member o inside] at test
      cases test
    exact congrArg (finishEach _ · s) none_

end Sys2Proof.Machine
end

section
/-!
BATCH_CLOSE and EPOCH_PUBLISH: when a batch closes, and what each stage of a publication keeps (R136, R137, R158, R212).
-/
namespace Sys2Proof.Machine

/-! ### Batches close (R136) -/

/-- The open batch goes behind the closed ones; one with a version change gives the shadow version its epoch. -/
theorem indexAt_closeBatch {s : State} {i : Nat} {x : Index} {b : Batch} (at_ : indexAt s i = some x)
    (open_ : x.open_ = some b) : ∃ vers, indexAt (closeBatch s i) i = some { x with open_ := none, closed := x.closed ++ [b], vers := vers } := by
  rw [closeBatch, indexAt_withIndex_same, at_, Option.map_some, open_]
  dsimp only
  split
  · split
    · exact ⟨_, rfl⟩
    · exact ⟨_, rfl⟩
  · exact ⟨_, rfl⟩

theorem execBatchClose_of_due {s : State} {i : Nat} {x : Index} {b : Batch} (at_ : indexAt s i = some x)
    (open_ : x.open_ = some b) (due : b.opened + ctl s 0x680001 ≤ s.time.tick ∨ ctl s 0x680002 ≤ b.writes) :
    execBatchClose i s = .next (closeBatch s i) := by
  simp only [execBatchClose, at_, open_]
  exact if_pos (due.imp_right .inl)

theorem execBatchClose_of_early {s : State} {i : Nat} {x : Index} {b : Batch} (at_ : indexAt s i = some x)
    (open_ : x.open_ = some b) (early : s.time.tick < b.opened + ctl s 0x680001) (few : b.writes < ctl s 0x680002)
    (calm : mergeNowWaits s i = false) (awake : x.luthier ≠ .quiet) (live : x.dropping = none) :
    execBatchClose i s = .next s := by
  simp [execBatchClose, at_, open_, Nat.not_le.2 early, Nat.not_le.2 few, calm, awake, live, idle]

theorem batchesCloseInTime : Claims.BatchesCloseInTime := by
  intro s i x b at_ open_
  refine ⟨fun due => ?_, execBatchClose_of_early at_ open_⟩
  obtain ⟨vers, closed⟩ := indexAt_closeBatch at_ open_
  exact ⟨closeBatch s i, _, execBatchClose_of_due at_ open_ due, closed, rfl, rfl, rfl, rfl,
    fun j other => indexAt_withIndex_other s _ other, rfl⟩

/-! ### What the stages of a publication keep -/

/-- What tells a journal entry its command: the generation of a channel, and SEQ and order number of its commands. -/
def cmdNames (c : Channel) : Nat × List (Nat × Nat) := (c.gen, c.cmds.map (fun o => (o.seq, o.ord)))

/-- The epochs of an index: what has been published and when, and what waits to be. -/
def epochsOf (x : Index) : Nat × List Batch × Option Nat × List (Nat × Nat) := (x.current, x.closed, x.lastPub, x.pubs)

/-- Of what a publication may change, `t` has what follows from `s` when commands end, records of index `i` and their chains
change, and rings and counters do: the epochs stand, the commands keep their names, and no MERGE_NOW begins. -/
structure PublishKept (i : Nat) (s t : State) : Prop where
  outside : outside t = outside s
  log : t.log = s.log
  epochs : (indexAt t i).map epochsOf = (indexAt s i).map epochsOf
  others : ∀ j, j ≠ i → indexAt t j = indexAt s j
  names : ∀ n, cmdNames (chan t n) = cmdNames (chan s n)
  calm : NoMergeNow i s.chans → NoMergeNow i t.chans

namespace PublishKept
variable {i : Nat} {s t u : State}

theorem refl (s : State) : PublishKept i s s := ⟨rfl, rfl, rfl, fun _ _ => rfl, fun _ => rfl, id⟩

theorem trans (a : PublishKept i s t) (b : PublishKept i t u) : PublishKept i s u where
  outside := b.outside.trans a.outside
  log := b.log.trans a.log
  epochs := b.epochs.trans a.epochs
  others j other := (b.others j other).trans (a.others j other)
  names n := (b.names n).trans (a.names n)
  calm := b.calm ∘ a.calm

/-- A step that touches neither channels nor indexes. -/
theorem of_kept (outside_ : Machine.outside t = Machine.outside s) (log : t.log = s.log) (chans : t.chans = s.chans)
    (indexes : t.indexes = s.indexes) : PublishKept i s t where
  outside := outside_
  log := log
  epochs := by rw [indexAt_congr indexes]
  others j _ := indexAt_congr indexes j
  names n := by rw [chan_congr chans]
  calm := by rw [chans]; exact id

theorem withIndex (s : State) {f : Index → Index} (h : ∀ x, epochsOf (f x) = epochsOf x) :
    PublishKept i s (withIndex s i f) where
  outside := rfl
  log := rfl
  epochs := by
    rw [indexAt_withIndex_same, Option.map_map]
    exact congrArg (Option.map · _) (funext h)
  others _ other := indexAt_withIndex_other s f other
  names _ := rfl
  calm := id

theorem withPart (s : State) (pn : Nat) (f : Part → Part) : PublishKept i s (withPart s i pn f) := withIndex s fun _ => rfl

theorem bump (s : State) (sub n : Nat) : PublishKept i s (bump s sub n) := of_kept rfl rfl rfl rfl

theorem withEntries (s : State) (p : JEntry → Bool) (f : JEntry → JEntry) : PublishKept i s (withEntries s i p f) :=
  of_kept (by simp) (by simp) (by simp) (by simp)

theorem retire (s : State) : PublishKept i s (retire s i) := of_kept (by simp) (by simp) (by simp) (by simp)

theorem unlock (s : State) (e : JEntry) : PublishKept i s (unlock s e) := of_kept rfl rfl rfl rfl

theorem finish (s : State) (slot seq : Nat) (k : Compl) : PublishKept i s (finish s slot seq k) where
  outside := by simp
  log := by simp
  epochs := by rw [indexAt_congr (s := s) (by simp)]
  others j _ := indexAt_congr (by simp) j
  names n := by
    cases out : outCmd s slot seq with
    | none => rw [finish_absent k out]
    | some o =>
      obtain ⟨ds, eq, -⟩ := finish_eq k out
      rw [eq, chan_setChan]
      split
      · next here =>
        subst here
        simp only [cmdNames, endedCmds, List.map_map, Prod.mk.injEq, true_and]
        refine List.map_congr_left fun o _ => ?_
        simp only [Function.comp]
        split <;> rfl
      · rfl
  calm h := h.finish slot seq k

theorem foldl {α : Type} {f : State → α → State} (h : ∀ u a, PublishKept i u (f u a)) (l : List α) (s : State) :
    PublishKept i s (l.foldl f s) := by
  induction l generalizing s with
  | nil => exact refl s
  | cons a r ih => exact (h s a).trans (ih (f s a))

/-- A journal entry finds its command under the same SEQ. -/
theorem writeCmd {e : JEntry} {o : OutCmd} (h : PublishKept i s t) (cmd : writeCmd s e = some o) :
    ∃ o', writeCmd t e = some o' ∧ o'.seq = o.seq := by
  have gens : (chan t e.slot).gen = (chan s e.slot).gen := congrArg Prod.fst (h.names e.slot)
  have names : (chan t e.slot).cmds.map (fun o => (o.seq, o.ord)) = (chan s e.slot).cmds.map (fun o => (o.seq, o.ord)) :=
    congrArg Prod.snd (h.names e.slot)
  have found : ∀ l : List OutCmd, (l.find? (fun o => o.ord == e.ord)).map (·.seq)
      = ((l.map (fun o => (o.seq, o.ord))).find? (fun n => n.2 == e.ord)).map Prod.fst := fun l => by
    rw [List.find?_map, Option.map_map]; rfl
  unfold Machine.writeCmd at cmd ⊢
  dsimp only at cmd ⊢
  rw [gens]
  split at cmd
  · next gen =>
    rw [if_pos gen]
    have same := found (chan t e.slot).cmds
    rw [names, ← found, cmd] at same
    exact Option.map_eq_some_iff.1 same
  · cases cmd

end PublishKept

/-! ### The works of a batch (R158, R179) -/

section
variable (i : Nat) (s : State)

theorem publishMark_kept (pn stack pos epoch : Nat) : PublishKept i s (publishMark s i pn stack pos epoch) := by
  unfold publishMark
  split
  · exact .refl s
  · exact (PublishKept.withPart ..).trans (.bump ..)

theorem publishVersion_kept (epoch : Nat) : PublishKept i s (publishVersion s i epoch) := by
  unfold publishVersion
  split
  · exact .refl s
  · dsimp only
    split
    · refine .trans (.withIndex s ?_) (.finish ..)
      exact fun _ => rfl
    · exact .withIndex s fun _ => rfl

theorem publishSwitch_kept (epoch : Nat) : PublishKept i s (publishSwitch s i epoch) := by
  unfold publishSwitch
  split
  · exact .refl s
  · refine .trans (.withIndex s ?_) (.foldl (fun _ _ => .finish ..) _ _)
    exact fun _ => rfl

theorem publishWork_kept (epoch : Nat) (w : Work) : PublishKept i s (publishWork i epoch s w) := by
  cases w with
  | mark pn stack pos => exact publishMark_kept i s pn stack pos epoch
  | scan pn => exact .withPart ..
  | version => exact publishVersion_kept i s epoch
  | switch => exact publishSwitch_kept i s epoch
  | rebuild => exact .refl s

end

/-! ### The writes of a published batch (R212, R215) -/

/-- A published write loses its range lock; its command, if it asked for VISIBLE, ends with OK and the epoch. -/
def endWrite (epoch : Nat) (s : State) (e : JEntry) : State :=
  match writeCmd (unlock s e) e with
  | some o => if cVisible e.word then finish (unlock s e) e.slot o.seq { status := .ok, epoch := epoch } else unlock s e
  | none => unlock s e

theorem endWrite_kept (i epoch : Nat) (s : State) (e : JEntry) : PublishKept i s (endWrite epoch s e) := by
  unfold endWrite
  split
  · split
    · exact (PublishKept.unlock s e).trans (.finish ..)
    · exact .unlock s e
  · exact .unlock s e

theorem Finished.endWrite {s : State} {slot seq epoch : Nat} (h : Finished s slot seq { status := .ok, epoch := epoch })
    (e : JEntry) : Finished (endWrite epoch s e) slot seq { status := .ok, epoch := epoch } := by
  have unlocked : Finished (unlock s e) slot seq { status := .ok, epoch := epoch } := h.congr rfl
  unfold Machine.endWrite
  split
  · split
    · exact unlocked.finish ..
    · exact unlocked
  · exact unlocked

theorem Finished.foldl_endWrite {slot seq epoch : Nat} (l : List JEntry) {s : State}
    (h : Finished s slot seq { status := .ok, epoch := epoch }) :
    Finished (l.foldl (Machine.endWrite epoch) s) slot seq { status := .ok, epoch := epoch } := by
  induction l generalizing s with
  | nil => exact h
  | cons a r ih => exact ih (h.endWrite a)

theorem finished_endWrite {s : State} {e : JEntry} {o : OutCmd} (epoch : Nat) (cmd : writeCmd s e = some o)
    (visible : cVisible e.word = true) : Finished (endWrite epoch s e) e.slot o.seq { status := .ok, epoch := epoch } := by
  obtain ⟨c, out⟩ := outCmd_of_writeCmd cmd
  have unlocked : writeCmd (unlock s e) e = some o := cmd
  simp only [endWrite, unlocked, visible, if_true]
  exact (finish_spec (s := unlock s e) _ out).1

/-- Every VISIBLE write of the list ends, whatever else of the list does. -/
theorem finished_foldl_endWrite {e : JEntry} {l : List JEntry} (member : e ∈ l) (epoch : Nat) {s : State} {o : OutCmd}
    (cmd : writeCmd s e = some o) (visible : cVisible e.word = true) :
    Finished (l.foldl (endWrite epoch) s) e.slot o.seq { status := .ok, epoch := epoch } := by
  induction l generalizing s o with
  | nil => cases member
  | cons a r ih =>
    by_cases here : e = a
    · subst here
      exact (finished_endWrite epoch cmd visible).foldl_endWrite r
    · obtain ⟨o', cmd', named⟩ := (endWrite_kept 0 epoch s a).writeCmd cmd
      rw [← named]
      exact ih ((List.mem_cons.1 member).resolve_left here) cmd'

/-! ### EPOCH_PUBLISH (R137) -/

/-- The publications that an index keeps: the earlier ones whose entries are not all merged, and the new one. -/
def pubsKept (x : Index) (epoch stamp : Nat) : List (Nat × Nat) :=
  x.pubs.filter (fun q => (unmerged x).any (fun e => e.commit == q.1)) ++ [(epoch, stamp)]

/-- The index at its new CURRENT_EPOCH. -/
def atEpoch (epoch : Nat) (rest : List Batch) (tick : Nat) (pubs : List (Nat × Nat)) (x : Index) : Index :=
  { x with current := epoch, closed := rest, lastPub := some tick, pubs := pubs }

/-- Each partition notes when its occupants of the epoch were deleted (R148). -/
def noteDeletions (epoch tick : Nat) (x : Index) : Index :=
  { x with
    parts := x.parts.map (fun p => { p with
      deletedAt := (p.recs.filter (fun r => isLive r.2 && r.2.delete == epoch)).foldl
        (fun l r => keep r.1 tick l) p.deletedAt }) }

/-- The records of the epoch are counted, its deletions noted and its applied writes visible. -/
def recordsPublished (s : State) (i : Nat) (x : Index) (epoch : Nat) : State :=
  withEntries (withIndex (bump (bump s 0x30 (countRecs x (fun r => isLive r && r.commit == epoch))) 0x31
      (countRecs x (fun r => isLive r && r.delete == epoch))) i (noteDeletions epoch s.time.tick))
    i (fun e => e.index == i && e.epoch == epoch && e.state == 2) (fun e => { e with state := 3 })

theorem recordsPublished_kept (s : State) (i : Nat) (x : Index) (epoch : Nat) :
    PublishKept i s (recordsPublished s i x epoch) := by
  refine .trans (.trans (.trans (.bump ..) (.bump ..)) (.withIndex _ ?_)) (.withEntries ..)
  exact fun _ => rfl

/-- The applied writes of an epoch. -/
def writesOf (s : State) (i epoch : Nat) : List JEntry := (entriesOf s i).filter (fun e => e.epoch == epoch && e.state == 2)

/-- The oldest batch of index `i` is published; the commands that wait for it have not been told. -/
def batchPublished (s : State) (i lag : Nat) (x : Index) (b : Batch) (rest : List Batch) : State :=
  b.works.foldl (publishWork i b.epoch) (recordsPublished
    (withIndex s i (atEpoch b.epoch rest s.time.tick (pubsKept x b.epoch (seenTime s lag)))) i x b.epoch)

/-- Its VISIBLE writes have ended, and the published entries have left the ring. -/
def writesEnded (s : State) (i lag : Nat) (x : Index) (b : Batch) (rest : List Batch) : State :=
  retire ((writesOf s i b.epoch).foldl (endWrite b.epoch) (batchPublished s i lag x b rest)) i

section
variable (s : State) (i lag : Nat) (x : Index) (b : Batch) (rest : List Batch)

theorem batchPublished_kept : PublishKept i
    (withIndex s i (atEpoch b.epoch rest s.time.tick (pubsKept x b.epoch (seenTime s lag))))
    (batchPublished s i lag x b rest) :=
  (recordsPublished_kept ..).trans (.foldl (fun u w => publishWork_kept i u b.epoch w) _ _)

theorem writesEnded_kept : PublishKept i
    (withIndex s i (atEpoch b.epoch rest s.time.tick (pubsKept x b.epoch (seenTime s lag)))) (writesEnded s i lag x b rest) :=
  ((batchPublished_kept ..).trans (.foldl (endWrite_kept i b.epoch) _ _)).trans (.retire _)

end

/-- An applied VISIBLE write of the batch has ended with OK and the batch's epoch. -/
theorem finished_writesEnded {s : State} {i : Nat} {e : JEntry} {o : OutCmd} {b : Batch} (member : e ∈ entriesOf s i)
    (epoch : e.epoch = b.epoch) (applied : e.state = 2) (visible : cVisible e.word = true) (cmd : writeCmd s e = some o)
    (lag : Nat) (x : Index) (rest : List Batch) :
    Finished (writesEnded s i lag x b rest) e.slot o.seq { status := .ok, epoch := b.epoch } := by
  have due : e ∈ writesOf s i b.epoch := List.mem_filter.2 ⟨member, by simp [epoch, applied]⟩
  obtain ⟨o', cmd', named⟩ := (batchPublished_kept s i lag x b rest).writeCmd cmd
  rw [← named]
  exact (finished_foldl_endWrite due b.epoch cmd' visible).congr (by simp [writesEnded])

theorem execEpochPublish_of_due {s : State} {i : Nat} {x : Index} {b : Batch} {rest : List Batch} (at_ : indexAt s i = some x)
    (oldest : x.closed = b :: rest) (live : x.dropping = none) (applied : b.writes ≤ b.applied)
    (spaced : ∀ l, x.lastPub = some l → l + 1000 ≤ s.time.tick) (lag : Nat) :
    execEpochPublish i lag s = .next (mergeNowDone (writesEnded s i lag x b rest) i) := by
  have later : x.lastPub.any (fun t => decide (s.time.tick < t + 1000)) = false := by
    cases last : x.lastPub with
    | none => rfl
    | some l => simpa using spaced l last
  simp only [execEpochPublish, at_, oldest, live, later, Nat.not_lt.2 applied, decide_false, Option.isSome_none, Bool.or_false,
    Bool.false_eq_true, if_false]
  rfl

theorem execEpochPublish_of_unapplied {s : State} {i : Nat} {x : Index} {b : Batch} {rest : List Batch}
    (at_ : indexAt s i = some x) (oldest : x.closed = b :: rest) (unapplied : b.applied < b.writes) (lag : Nat) :
    execEpochPublish i lag s = .next s := by
  simp [execEpochPublish, at_, oldest, unapplied, idle]

theorem oldestBatchIsPublished : Claims.EpochsArePublishedInOrder := by
  intro s i lag x b rest at_ oldest live
  refine ⟨fun applied spaced calm => ?_, fun unapplied => execEpochPublish_of_unapplied at_ oldest unapplied lag⟩
  have kept := writesEnded_kept s i lag x b rest
  have answer := execEpochPublish_of_due at_ oldest live applied spaced lag
  rw [mergeNowDone_of_none (kept.calm (noMergeNow_of_waits calm))] at answer
  have epochs := kept.epochs
  rw [indexAt_withIndex_same, at_, Option.map_some, Option.map_some] at epochs
  obtain ⟨y, aty, same⟩ := Option.map_eq_some_iff.1 epochs
  simp only [epochsOf, atEpoch, Prod.mk.injEq] at same
  obtain ⟨current, closed, last, pubs⟩ := same
  refine ⟨_, y, answer, aty, current, closed, ?_, last, fun j other => ?_, fun e o member epoch state visible cmd => ?_, ?_⟩
  · rw [pubs]
    exact List.mem_append_right _ (List.mem_singleton.2 rfl)
  · rw [kept.others j other, indexAt_withIndex_other _ _ other]
  · exact ⟨_, finished_writesEnded member epoch state visible cmd lag x rest, rfl, rfl⟩
  · refine (eq_of_outside (s := s) kept.outside).trans ?_
    rw [kept.log]
    rfl

/-- Settles O22, claim by claim. -/
theorem epochsArePublishedInOrder : Obligations.EpochsArePublishedInOrder :=
  ⟨batchesCloseInTime, oldestBatchIsPublished⟩

end Sys2Proof.Machine
end

section
/-!
MERGE_NOW and the merge batches (R143-R146): what MERGE_NOW answers where the channels are in order, the state out of order in
which the statement about it fails, and the merge batches, whose statement holds.
-/
namespace Sys2Proof.Machine

/-! ### MERGE_NOW (R146) -/

/-- The MERGE_NOW runs, with the chain positions that were committed at its admission. -/
def mergeRunning (s : State) (slot seq : Nat) (x : Index) : State :=
  withCmd s slot seq (fun o => { o with stage := .running, targets := committedTails x })

/-- The commands of MERGE_NOW whose targets are merged. -/
def mergesDone (i : Nat) (x : Index) (o : OutCmd) : Bool := mergesNow i o && o.targets.all (targetMerged x)

/-- Every MERGE_NOW of the index whose targets are merged has ended. -/
def mergesEnded (s : State) (slot seq i : Nat) (x : Index) : State :=
  finishEach { status := .ok } (cmdsWith (mergeRunning s slot seq x) (mergesDone i x)) (mergeRunning s slot seq x)

section
variable {s : State} {slot seq : Nat} {o : OutCmd} {x : Index} (h : admitting s slot seq 0x88 = some o)
  (reserved : reservedOk o.word = true) (sees : seesIndex s slot (cIndex o.word) = true)
  (at_ : indexAt s (cIndex o.word) = some x)
include h

theorem outCmd_mergeRunning :
    outCmd (mergeRunning s slot seq x) slot seq = some { o with stage := .running, targets := committedTails x } := by
  have run : ∀ o : OutCmd, ({ o with stage := .running, targets := committedTails x } : OutCmd).seq = o.seq := fun _ => rfl
  simp [mergeRunning, outCmd_withCmd run, (admitting_spec h).1]

/-- The channel of the command, as the list of channels then holds it. -/
theorem chan_mem_mergeRunning : (slot, chan (mergeRunning s slot seq x) slot) ∈ (mergeRunning s slot seq x).chans := by
  cases there : look (mergeRunning s slot seq x).chans slot with
  | none =>
    have out := outCmd_mergeRunning (x := x) h
    simp [outCmd, chan, there] at out
  | some c =>
    have here : chan (mergeRunning s slot seq x) slot = c := by simp [chan, there]
    exact here ▸ mem_of_look there

include reserved sees at_

/-- Admitted, it runs; then every MERGE_NOW ends that waits for nothing more. -/
theorem exec_mergeNow_of_admitted : exec (.mergeNow slot seq) s = .next (mergesEnded s slot seq (cIndex o.word) x) := by
  have there : indexAt (mergeRunning s slot seq x) (cIndex o.word) = some x := at_
  have done : mergeNowDone (mergeRunning s slot seq x) (cIndex o.word) = mergesEnded s slot seq (cIndex o.word) x := by
    rw [mergeNowDone, there, mergesEnded, ← finishAll_eq]
    rfl
  rw [← done]
  change execMergeNow slot seq s = _
  simp only [execMergeNow, h, reserved, sees, at_, Bool.not_true, Bool.false_eq_true, if_false]
  rfl

/-- With nothing left to merge it ends. -/
theorem mergeNow_of_merged (merged : (committedTails x).all (targetMerged x) = true) :
    ∃ t, exec (.mergeNow slot seq) s = .next t ∧ Finished t slot seq { status := .ok } ∧ t = { s with chans := t.chans } := by
  have out := outCmd_mergeRunning (x := x) h
  obtain ⟨-, ⟨opcode, -⟩, -⟩ := admitting_spec h
  have test : mergesDone (cIndex o.word) x { o with stage := .running, targets := committedTails x } = true := by
    simp [mergesDone, mergesNow, isRunning, opcode, merged]
  have named : (slot, seq) ∈ cmdsWith (mergeRunning s slot seq x) (mergesDone (cIndex o.word) x) :=
    mem_cmdsWith.2 ⟨_, chan_mem_mergeRunning h, _, List.mem_of_find?_eq_some out, test, by simpa using List.find?_some out⟩
  refine ⟨_, exec_mergeNow_of_admitted h reserved sees at_, finished_finishEach named out, ?_⟩
  rw [mergesEnded, finishEach_kept]
  rfl

/-- With something left to merge it runs on, where the list of channels is in the order that `keep` maintains: then its slot
stands once in the list, and every command of that channel with its SEQ has its targets. -/
theorem mergeNow_of_unmerged (rising : Rising s.chans) (unmerged : (committedTails x).all (targetMerged x) = false) :
    ∃ t, exec (.mergeNow slot seq) s = .next t
      ∧ outCmd t slot seq = some { o with stage := .running, targets := committedTails x }
      ∧ t = { s with chans := t.chans } := by
  have unnamed : (slot, seq) ∉ cmdsWith (mergeRunning s slot seq x) (mergesDone (cIndex o.word) x) := by
    intro named
    obtain ⟨c, member, p, inside, test, same⟩ := mem_cmdsWith.1 named
    have only : look (mergeRunning s slot seq x).chans slot = some c := (rising.keep _ _).look_of_mem member
    have here : chan (mergeRunning s slot seq x) slot = c := by simp [chan, only]
    rw [← here, mergeRunning, chan_withCmd, if_pos rfl] at inside
    obtain ⟨b, -, rfl⟩ := List.mem_map.1 inside
    by_cases own : b.seq = seq
    · simp [mergesDone, own, unmerged] at test
    · simp [own] at same
  refine ⟨_, exec_mergeNow_of_admitted h reserved sees at_, ?_, ?_⟩
  · rw [mergesEnded, outCmd_finishEach_other unnamed, outCmd_mergeRunning h]
  · rw [mergesEnded, finishEach_kept]
    rfl

end

/-! ### A MERGE_NOW that is to run on and ends -/

/-- A MERGE_NOW of index 0, fetched by the admin channel. -/
def mergeFetched : OutCmd := { seq := 0, word := 0x88 }

/-- Another one with the same SEQ, which runs and waits for nothing. -/
def mergeTwin : OutCmd := { seq := 0, word := 0x88, stage := .running }

/-- A committed entry that no mark covers. -/
def unmergedEntry : SideEntry :=
  { pos := 0, slot := 0, extId := 1, filterTag := 0, commit := 1, state := 0x90, gen := 0, delete := noEpoch, codeVer := 0,
    code := 0 }

/-- An index with that entry in its one chain. -/
def unmergedIndex : Index :=
  { emptyIndex with
    parts := [{ mask := 1, perStack := 1024, quota := 1, chains := [(0, { entries := [unmergedEntry], next := 1 })] }] }

/-- A module in A0 whose list of channels holds channel 1 before the admin channel, which holds both commands. -/
def twinState : State :=
  { State.reset with
    power := { state := .a0 }
    chans := [(1, {}), (0, { state := .active, cmds := [mergeFetched, mergeTwin] })]
    indexes := [(0, unmergedIndex)] }

/-- Refutes O25 by its claim about MERGE_NOW, which asks that the keys of the channel list differ, not that they rise. In
`twinState` they fall: the updated admin channel goes in front of channel 1, and the old one stays behind it. There the other
MERGE_NOW with the same SEQ still has no targets; it ends, and with it the one that was to run on. -/
theorem not_mergesMoveTheMergePosition : ¬ Obligations.MergesMoveTheMergePosition := by
  rintro ⟨claim, -⟩
  have admitted : admitting twinState 0 0 0x88 = some mergeFetched := by decide +kernel
  have reserved : reservedOk mergeFetched.word = true := by decide +kernel
  have sees : seesIndex twinState 0 (cIndex mergeFetched.word) = true := by decide +kernel
  have named : indexAt twinState (cIndex mergeFetched.word) = some unmergedIndex := by decide +kernel
  obtain ⟨-, waits⟩ := claim twinState 0 0 mergeFetched unmergedIndex (by decide) admitted reserved sees named
  obtain ⟨t, answer, running, -⟩ := waits (by decide +kernel)
  injection (exec_mergeNow_of_admitted admitted reserved sees named).symm.trans answer with after
  rw [← after] at running
  have ended : (outCmd (mergesEnded twinState 0 0 (cIndex mergeFetched.word) unmergedIndex) 0 0).map (·.stage)
      = some (.done { status := .ok }) := by decide +kernel
  rw [running] at ended
  cases ended

/-! ### Merge batches (R143-R145) -/

/-- A chain whose walk holds contexts of a core. -/
def withContexts (epoch core ctx g : Nat) (c : Chain) : Chain :=
  { c with walk := some { epoch := epoch, core := some core, ctx := ctx, g := g } }

/-- A partition whose chain on a stack is changed. -/
def changeChain (stack : Nat) (f : Chain → Chain) (p : Part) : Part := setChain p stack (f (chainOf p stack))

@[simp] theorem chainOf_changeChain (stack : Nat) (f : Chain → Chain) (p : Part) :
    chainOf (changeChain stack f p) stack = f (chainOf p stack) := chainOf_setChain_same ..

/-- The partition in which the entries of a batch are linked and the merge position has moved, with the walk's counts. -/
def mergedPart (s : State) (x : Index) (pn stack pos epoch : Nat) (p : Part) : Part × Tally :=
  let es := entriesInFlight (chainOf p stack)
  let m := es.foldl (mergeEntry x pn (ctl s 0x680004) epoch) (p, {})
  let q := changeChain stack (fun c => { c with batch := none, walk := none, merged := pos }) m.1
  ({ q with repair := (unlinkedOf x p es).foldl (fun l n => keep n.1 ((batchNow s x).epoch, n.2) l) q.repair }, m.2)

theorem chainOf_mergedPart (s : State) (x : Index) (pn stack pos epoch : Nat) (p : Part) :
    (chainOf (mergedPart s x pn stack pos epoch p).1 stack).batch = none
    ∧ (chainOf (mergedPart s x pn stack pos epoch p).1 stack).walk = none
    ∧ (chainOf (mergedPart s x pn stack pos epoch p).1 stack).merged = pos := by
  have chain : ∀ q : Part, ∀ l, chainOf { q with repair := l } stack = chainOf q stack := fun _ _ => rfl
  simp only [mergedPart, chain, chainOf_changeChain, and_self]

section
variable {s : State} {i pn stack core a : Nat} {x : Index} {p : Part} (at_ : indexAt s i = some x) (part : partAt x pn = some p)
include at_ part

section
variable (place : placeLuthier s p.mask (luthierWidth x.cfg.format (ctl s 0x680004)) core = some a)
include place

theorem execMergeBatchStart_of_batch {e : SideEntry} (may : luthierMay x = true) (none_ : (chainOf p stack).batch = none)
    (still : (chainOf p stack).walk = none) (marks : marksOf x pn stack (chainOf p stack) < 16)
    (last : (batchEntries x (chainOf p stack) (ctl s 0x680003)).getLast? = some e) :
    execMergeBatchStart i pn stack core s = .next (withPart
      (withPart s i pn (changeChain stack (fun c => { c with batch := some (e.pos + 1) }))) i pn
      (changeChain stack (withContexts x.current core a (luthierWidth x.cfg.format (ctl s 0x680004))))) := by
  have some_ : (batchEntries x (chainOf p stack) (ctl s 0x680003) == []) = false := by
    cases es : batchEntries x (chainOf p stack) (ctl s 0x680003) with
    | nil => simp [es] at last
    | cons => rfl
  simp only [execMergeBatchStart, at_, part, place, still, none_, may, some_, Nat.not_le.2 marks, last, Bool.not_true,
    Option.isSome_none, decide_false, Bool.or_false, Bool.false_eq_true, if_false]
  rfl

theorem execMergeBatchStart_of_fenced {w : LuthierWalk} (walk : (chainOf p stack).walk = some w) (fenced : w.core = none)
    (live : x.dropping = none) : execMergeBatchStart i pn stack core s = .next (withPart s i pn
      (changeChain stack (withContexts w.epoch core a (luthierWidth x.cfg.format (ctl s 0x680004))))) := by
  simp only [execMergeBatchStart, at_, part, place, walk, fenced, live, Option.isSome_none, Bool.or_false, Bool.false_eq_true,
    if_false]
  rfl

end

theorem execMergeBatchDone_of_batch {pos : Nat} {w : LuthierWalk} (batch : (chainOf p stack).batch = some pos)
    (walk : (chainOf p stack).walk = some w) (placed : w.core ≠ none) (live : x.dropping = none) (left : epochsLeft x = true) :
    execMergeBatchDone i pn stack s = .next (joinBatch
      (noteTally (withPart s i pn (fun _ => (mergedPart s x pn stack pos w.epoch p).1))
        (mergedPart s x pn stack pos w.epoch p).2) i
      (.mark pn stack pos)) := by
  have core_ : w.core.isNone = false := Option.isNone_eq_false_iff.2 (Option.isSome_iff_ne_none.2 placed)
  simp only [execMergeBatchDone, at_, part, batch, walk, core_, live, left, Option.isSome_none, Bool.or_false, Bool.not_true,
    Bool.false_eq_true, if_false]
  rfl

end

/-- The other claim of O25 holds as it stands. -/
theorem mergeBatchesMoveTheMergePosition : Claims.MergeBatchesMoveTheMergePosition := by
  intro s i pn stack core a x p at_ part
  refine ⟨fun e may none_ still marks last place => ?_, fun w walk fenced live place => ?_,
    fun pos w batch walk placed live left => ?_⟩
  · have begun := indexAt_withPart at_ pn (changeChain stack (fun c => { c with batch := some (e.pos + 1) }))
    refine ⟨_, _, _, execMergeBatchStart_of_batch at_ part place may none_ still marks last, indexAt_withPart begun pn _,
      partAt_changePart_same (partAt_changePart_same part _) _, ?_, ?_, ?_, rfl, fun j other => ?_, rfl⟩
    · simp [withContexts]
    · simp [withContexts]
    · simp [withContexts]
    · rw [indexAt_withPart_other _ _ _ other, indexAt_withPart_other _ _ _ other]
  · refine ⟨_, _, _, execMergeBatchStart_of_fenced at_ part place walk fenced live, indexAt_withPart at_ pn _,
      partAt_changePart_same part _, ?_, ?_, rfl⟩
    · simp [withContexts]
    · simp [withContexts]
  · have merged := indexAt_withPart at_ pn (fun _ => (mergedPart s x pn stack pos w.epoch p).1)
    obtain ⟨ended, freed, moved⟩ := chainOf_mergedPart s x pn stack pos w.epoch p
    exact ⟨_, _, _, _, execMergeBatchDone_of_batch at_ part batch walk placed live left, indexAt_joinBatch merged _,
      partAt_changePart_same part _, ended, freed, moved, rfl, by simp, rfl,
      fun j other => (indexAt_joinBatch_other _ _ other).trans (indexAt_withPart_other s pn _ other), rfl⟩

end Sys2Proof.Machine
end

section
/-!
The retune: RETUNE_START and RETUNE_COMMIT at their admission, and the steps of the state table that the
luthier takes (R181-R188).
-/
namespace Sys2Proof.Machine

/-! ### A command that begins to wait -/

theorem SameButCmd.withCmd {s t : State} {slot seq : Nat} (h : SameButCmd s t slot seq) {f : OutCmd → OutCmd}
    (named : ∀ o, (f o).seq = o.seq) : SameButCmd s (withCmd t slot seq f) slot seq := by
  obtain ⟨only, others, fields, rest⟩ := h
  refine ⟨?_, fun n other => ?_, ?_, fun q other => ?_⟩
  · rw [only]; rfl
  · rw [chan_withCmd, if_neg other, others n other]
  · rw [chan_withCmd, if_pos rfl, fields]
  · rw [outCmd_withCmd named, if_neg (fun here => other here.2), rest q other]

theorem sameButCmd_nowWaiting {s : State} {slot seq : Nat} {o : OutCmd} (out : outCmd s slot seq = some o) :
    SameButCmd s (nowWaiting s slot seq) slot seq :=
  (setStage_spec .waiting out).2.withCmd fun _ => rfl

/-- A command goes on to run after a change that is none of the channels'. -/
theorem outCmd_setStage_of_chans {s t : State} {slot seq : Nat} {o : OutCmd} (st : Stage) (same : t.chans = s.chans)
    (out : outCmd s slot seq = some o) : outCmd (setStage t slot seq st) slot seq = some { o with stage := st } :=
  (setStage_spec st ((outCmd_congr same slot seq).trans out)).1

theorem indexAt_withIndex_some {s : State} {i : Nat} {x : Index} (at_ : indexAt s i = some x) (f : Index → Index) :
    indexAt (withIndex s i f) i = some (f x) := by
  rw [indexAt_withIndex_same, at_, Option.map_some]

/-! ### RETUNE_START (R181, R183) -/

section
variable {s : State} {slot seq : Nat} {o : OutCmd} {x : Index} (admitted : admitting s slot seq 0x89 = some o)
  (reserved : reservedOk o.word = true) (sees : seesIndex s slot (cIndex o.word) = true)
  (at_ : indexAt s (cIndex o.word) = some x)

/-- A sampled retune begins, named after its command. -/
def sampleFrom (s : State) (slot seq : Nat) (x y : Index) : Index :=
  { y with retune := beginRetune s x (some (slot, seq)) none }

include sees at_

theorem retuneStartEnd_of_sampled (free : retuneFree x = true) (mode : rsMode o.word = 0)
    (fits : retuneFits s x true = true) :
    retuneStartEnd s slot seq o.word []
      = setStage (withIndex s (cIndex o.word) (sampleFrom s slot seq x)) slot seq .running := by
  simp [retuneStartEnd, at_, sees, free, mode, fits]
  rfl

theorem retuneStartEnd_of_full (free : retuneFree x = true) (mode : rsMode o.word = 0) (full : retuneFits s x true = false) :
    retuneStartEnd s slot seq o.word [] = finishWith s slot seq .capacity := by
  simp [retuneStartEnd, at_, sees, free, mode, full]

include admitted reserved

theorem execRetuneStart_of_sampled (free : retuneFree x = true) (mode : rsMode o.word = 0) :
    execRetuneStart slot seq s = .next (retuneStartEnd s slot seq o.word []) := by
  simp [execRetuneStart, admitted, reserved, sees, at_, free, mode]

theorem execRetuneStart_of_supplied (free : retuneFree x = true) (mode : rsMode o.word = 1) :
    execRetuneStart slot seq s = .next (nowWaiting s slot seq) := by
  simp [execRetuneStart, admitted, reserved, sees, at_, free, mode]

theorem execRetuneStart_of_busy (busy : retuneFree x = false) (mode : rsMode o.word ≤ 1) :
    execRetuneStart slot seq s = .next (finishWith s slot seq .invalid) := by
  simp [execRetuneStart, admitted, reserved, sees, at_, busy, Nat.not_lt.2 mode]

end

theorem retuneStartsFromIdle : Claims.RetuneStartsFromIdle := by
  intro s slot seq o x admitted reserved sees at_ mode
  obtain ⟨out, -⟩ := admitting_spec admitted
  refine ⟨fun free sampled fits => ?_, fun free sampled full => ?_, fun free supplied => ?_, fun busy => ?_⟩
  · have answer := execRetuneStart_of_sampled admitted reserved sees at_ free sampled
    rw [retuneStartEnd_of_sampled sees at_ free sampled fits] at answer
    exact ⟨_, _, answer, indexAt_withIndex_some at_ (sampleFrom s slot seq x), rfl, rfl, rfl, rfl, rfl,
      outCmd_setStage_of_chans .running rfl out,
      fun j other => indexAt_withIndex_other s _ other, rfl⟩
  · have answer := execRetuneStart_of_sampled admitted reserved sees at_ free sampled
    rw [retuneStartEnd_of_full sees at_ free sampled full] at answer
    exact ⟨_, answer, finishWith_spec .capacity out⟩
  · exact ⟨_, execRetuneStart_of_supplied admitted reserved sees at_ free supplied, outCmd_nowWaiting out,
      sameButCmd_nowWaiting out⟩
  · exact ⟨_, execRetuneStart_of_busy admitted reserved sees at_ busy mode, finishWith_spec .invalid out⟩

/-! ### RETUNE_COMMIT (R182, R183) -/

/-- A RETUNE_COMMIT goes behind those that wait for the retune of an index. -/
def addWaiter (slot seq : Nat) (x : Index) : Index :=
  { x with retune := { x.retune with waiters := x.retune.waiters ++ [(slot, seq)] } }

/-- It waits there, and runs. -/
def commitWaits (s : State) (i slot seq : Nat) : State := setStage (withIndex s i (addWaiter slot seq)) slot seq .running

theorem indexAt_commitWaits {s : State} {i : Nat} {x : Index} (at_ : indexAt s i = some x) (slot seq : Nat) :
    indexAt (commitWaits s i slot seq) i = some (addWaiter slot seq x) := indexAt_withIndex_some at_ (addWaiter slot seq)

theorem outCmd_commitWaits {s t : State} {i slot seq : Nat} {o : OutCmd} (same : t.chans = s.chans)
    (out : outCmd s slot seq = some o) : outCmd (commitWaits t i slot seq) slot seq = some { o with stage := .running } :=
  outCmd_setStage_of_chans (t := withIndex t i (addWaiter slot seq)) .running same out

/-- The retune under way is marked as switching. -/
def markSwitching (x : Index) : Index := { x with retune := { x.retune with switching := true } }

theorem indexAt_joinSwitch {s : State} {i : Nat} {x : Index} (at_ : indexAt s i = some x) :
    indexAt (joinSwitch s i) i
      = some { markSwitching x with open_ := some { batchNow s x with works := (batchNow s x).works ++ [.switch] } } :=
  indexAt_joinBatch (indexAt_withIndex_some at_ markSwitching) .switch

/-- The retune of an index is over. -/
def retuneOver (x : Index) : Index := { x with retune := idleRetune x.retune }

/-- With no command that waits for it, the end of a retune is that of the index's retune alone. -/
theorem endRetune_of_unwatched {s : State} {i : Nat} {x : Index} (at_ : indexAt s i = some x) (start : x.retune.start = none)
    (waiters : x.retune.waiters = []) (k : Compl) : endRetune s i k = withIndex s i retuneOver := by
  simp only [endRetune, at_, start, waiters, List.foldl_nil]
  rfl

section
variable {s : State} {slot seq : Nat} {o : OutCmd} {x : Index} (admitted : admitting s slot seq 0x8A = some o)
  (reserved : reservedOk o.word = true) (sees : seesIndex s slot (cIndex o.word) = true)
  (at_ : indexAt s (cIndex o.word) = some x)
include admitted reserved sees at_

theorem execRetuneCommit_of_idle (state : x.retune.state = .idle) :
    execRetuneCommit slot seq s = .next (finishWith s slot seq .invalid) := by
  simp [execRetuneCommit, admitted, reserved, sees, at_, state]

theorem execRetuneCommit_of_switched (keeps : cDiscard o.word = false) (state : x.retune.state = .switched) :
    execRetuneCommit slot seq s = .next (finishWith s slot seq .ok) := by
  simp [execRetuneCommit, admitted, reserved, sees, at_, keeps, state]

theorem execRetuneCommit_of_ready (keeps : cDiscard o.word = false) (state : x.retune.state = .ready)
    (first : x.retune.switching = false) (left : epochsLeft x = true) :
    execRetuneCommit slot seq s = .next (commitWaits (joinSwitch s (cIndex o.word)) (cIndex o.word) slot seq) := by
  simp [execRetuneCommit, admitted, reserved, sees, at_, keeps, state, first, left]
  rfl

theorem execRetuneCommit_of_early (keeps : cDiscard o.word = false)
    (state : x.retune.state = .armed ∨ x.retune.state = .pass1 ∨ x.retune.state = .pass2) :
    execRetuneCommit slot seq s = .next (commitWaits s (cIndex o.word) slot seq) := by
  rcases state with state | state | state
  all_goals
    simp [execRetuneCommit, admitted, reserved, sees, at_, keeps, state]
    rfl

theorem execRetuneCommit_of_discard (discards : cDiscard o.word = true)
    (state : x.retune.state = .sample ∨ x.retune.state = .fit) :
    execRetuneCommit slot seq s = .next (finishWith
      (endRetune (withIndex s (cIndex o.word) dropVersion) (cIndex o.word) { status := .aborted }) slot seq .ok) := by
  rcases state with state | state
  all_goals simp [execRetuneCommit, admitted, reserved, sees, at_, discards, state]

end

theorem indexAt_finishWith (s : State) (slot seq : Nat) (st : Status) (i : Nat) :
    indexAt (finishWith s slot seq st) i = indexAt s i := indexAt_congr (by simp [finishWith]) i

theorem retuneCommitByState : Claims.RetuneCommitByState := by
  intro s slot seq o x admitted reserved sees at_
  obtain ⟨out, -⟩ := admitting_spec admitted
  refine ⟨fun state => ?_, fun keeps state => ?_, fun keeps state first left => ?_, fun keeps state => ?_,
    fun discards state start waiters => ?_⟩
  · exact ⟨_, execRetuneCommit_of_idle admitted reserved sees at_ state, finishWith_spec .invalid out⟩
  · exact ⟨_, execRetuneCommit_of_switched admitted reserved sees at_ keeps state, finishWith_spec .ok out⟩
  · exact ⟨_, _, _, execRetuneCommit_of_ready admitted reserved sees at_ keeps state first left,
      indexAt_commitWaits (indexAt_joinSwitch at_) slot seq, rfl, rfl, by simp, rfl, outCmd_commitWaits rfl out, rfl⟩
  · exact ⟨_, _, execRetuneCommit_of_early admitted reserved sees at_ keeps state, indexAt_commitWaits at_ slot seq, rfl,
      outCmd_commitWaits rfl out, rfl⟩
  · have answer := execRetuneCommit_of_discard admitted reserved sees at_ discards state
    have dropped := indexAt_withIndex_some at_ dropVersion
    rw [endRetune_of_unwatched dropped start waiters] at answer
    obtain ⟨ended, frame, -⟩ := finishWith_spec .ok
      (s := withIndex (withIndex s (cIndex o.word) dropVersion) (cIndex o.word) retuneOver) out
    refine ⟨_, retuneOver (dropVersion x), answer, ?_, rfl, rfl, ended, by rw [frame]; rfl⟩
    rw [indexAt_finishWith, indexAt_withIndex_some dropped retuneOver]

/-! ### The steps of the state table (R183-R188) -/

/-- Samples are complete, and the fit begins. -/
def beginFit (samples : List Sample) (x : Index) : Index :=
  { x with retune := { x.retune with state := .fit, samples := samples } }

/-- The shadow version is set. -/
def setShadow (v : CodeVer) (x : Index) : Index := { x with retune := { x.retune with shadow := some v } }

/-- Pass 1 begins. -/
def beginPassOne (tick : Nat) (x : Index) : Index :=
  { x with retune := { x.retune with state := .pass1, since := tick, passed := 0 } }

/-- Pass 1 is over, and pass 2 begins. -/
def beginPassTwo (tick : Nat) (table : List SketchEntry) (x : Index) : Index :=
  { x with retune := { x.retune with state := .pass2, table := table, since := tick, passed := 0 } }

/-- Pass 2 is over. -/
def endPassTwo (parts : List Part) (passed : Nat) (x : Index) : Index :=
  { x with parts := parts, retune := { x.retune with state := .ready, passed := passed } }

/-- The retune is over, and the oldest version is gone. -/
def retireVersion (x : Index) : Index := { x with vers := x.vers.drop 1, retune := idleRetune x.retune }

theorem indexAt_joinVersion {s : State} {i : Nat} {x : Index} (at_ : indexAt s i = some x) (v : CodeVer) :
    indexAt (joinVersion s i v) i
      = some { setShadow v x with open_ := some { batchNow s x with works := (batchNow s x).works ++ [.version] } } :=
  indexAt_joinBatch (indexAt_withIndex_some at_ (setShadow v)) .version

section
variable {s : State} {i : Nat} {x : Index} (at_ : indexAt s i = some x)
include at_

theorem execRetuneSampleTimeout_of_due (awake : x.luthier ≠ .quiet) (state : x.retune.state = .sample)
    (due : x.retune.since + x.retune.par.time * 1000000 ≤ s.time.tick) (some_ : occupants x ≠ []) :
    ∃ samples, execRetuneSampleTimeout i s = .next (withIndex s i (beginFit samples)) := by
  simp only [execRetuneSampleTimeout, at_, state, awake, Nat.not_lt.2 due, some_, ne_eq, not_true_eq_false,
    or_self, false_and, if_false]
  exact ⟨_, rfl⟩

theorem execRetuneSampleTimeout_of_early (early : s.time.tick < x.retune.since + x.retune.par.time * 1000000) :
    execRetuneSampleTimeout i s = .next s := by
  simp only [execRetuneSampleTimeout, at_, early, or_true, if_true, idle]

theorem execRetuneFitDone_of_supplied {v : CodeVer} (awake : x.luthier ≠ .quiet) (state : x.retune.state = .fit)
    (first : versionJoined x = false) (left : epochsLeft x = true) (supplied : x.retune.supplied = true)
    (shadow : x.retune.shadow = some v) : execRetuneFitDone i s = .next (joinVersion s i v) := by
  simp [execRetuneFitDone, at_, state, first, awake, left, supplied, shadow]

theorem execRetuneArm_of_reached (awake : x.luthier ≠ .quiet) (state : x.retune.state = .armed) (left : epochsLeft x = true)
    (reached : x.retune.shadowEpoch ≤ x.lowWater) : execRetuneArm i s = .next (withIndex s i (beginPassOne s.time.tick)) := by
  simp [execRetuneArm, at_, state, awake, left, Nat.not_lt.2 reached]
  rfl

theorem execRetuneArm_of_below (below : x.lowWater < x.retune.shadowEpoch) : execRetuneArm i s = .next s := by
  simp [execRetuneArm, at_, below, idle]

theorem execRetuneArm_of_spent (spent : epochsLeft x = false) : execRetuneArm i s = .next s := by
  simp [execRetuneArm, at_, spent, idle]

theorem execRetunePassDone_of_spent (spent : epochsLeft x = false) : execRetunePassDone i s = .next s := by
  cases shadow : x.retune.shadow with
  | none => simp [execRetunePassDone, at_, shadow, idle]
  | some b => simp [execRetunePassDone, at_, shadow, spent, idle]

theorem execRetunePassDone_of_passOne {b : CodeVer} (awake : x.luthier ≠ .quiet) (state : x.retune.state = .pass1)
    (left : epochsLeft x = true) (shadow : x.retune.shadow = some b) (elapsed : passElapsed s x = true) :
    ∃ table, execRetunePassDone i s = .next (withIndex s i (beginPassTwo s.time.tick table)) := by
  simp only [execRetunePassDone, at_, shadow, awake, left, elapsed, state, Bool.not_true, Bool.false_eq_true,
    Bool.true_eq_false,
    or_self, if_false]
  exact ⟨_, rfl⟩

/-- With AUTO, or with a RETUNE_COMMIT that waits, the switch joins the open batch at once (R183). -/
theorem execRetunePassDone_of_passTwo {b : CodeVer} (awake : x.luthier ≠ .quiet) (state : x.retune.state = .pass2)
    (left : epochsLeft x = true) (shadow : x.retune.shadow = some b) (elapsed : passElapsed s x = true) :
    ∃ parts passed, parts.length = x.parts.length
      ∧ (execRetunePassDone i s = .next (joinSwitch (withIndex s i (endPassTwo parts passed)) i)
        ∨ execRetunePassDone i s = .next (withIndex s i (endPassTwo parts passed))) := by
  refine ⟨x.parts.zipIdx.map (fun p => passTwo x b (fun _ => true) p.2 p.1), indexSlots x * 1000000000, by simp, ?_⟩
  simp only [execRetunePassDone, at_, shadow, awake, left, elapsed, state, Bool.not_true, Bool.false_eq_true,
    Bool.true_eq_false,
    or_self, if_false]
  split
  · exact .inl rfl
  · exact .inr rfl

theorem execRetuneRetire_of_reached (state : x.retune.state = .switched) (reached : x.retune.switchEpoch ≤ x.lowWater) :
    ∃ bridges, execRetuneRetire i s = .next { withIndex s i retireVersion with bridges := bridges } := by
  simp only [execRetuneRetire, at_, state, Nat.not_lt.2 reached, ne_eq, not_true_eq_false, or_self, if_false]
  exact ⟨_, rfl⟩

theorem execRetuneRetire_of_below (below : x.lowWater < x.retune.switchEpoch) : execRetuneRetire i s = .next s := by
  simp [execRetuneRetire, at_, below, idle]

end

theorem retuneAdvancesStateByState : Claims.RetuneAdvancesStateByState := by
  intro s i x at_ awake
  refine ⟨fun state due some_ => ?_, fun _ early => execRetuneSampleTimeout_of_early at_ early,
    fun v state first left supplied shadow => ?_, fun state left reached => ?_,
    fun _ below => execRetuneArm_of_below at_ below, fun b state left shadow elapsed => ?_,
    fun b state left shadow elapsed => ?_,
    fun spent => ⟨execRetuneArm_of_spent at_ spent, execRetunePassDone_of_spent at_ spent⟩, fun state reached => ?_,
    fun _ below => execRetuneRetire_of_below at_ below⟩
  · obtain ⟨samples, answer⟩ := execRetuneSampleTimeout_of_due at_ awake state due some_
    exact ⟨_, _, answer, indexAt_withIndex_some at_ _, rfl, rfl, rfl, rfl⟩
  · exact ⟨_, _, _, execRetuneFitDone_of_supplied at_ awake state first left supplied shadow,
    indexAt_joinVersion at_ v, rfl, rfl,
      by simp, rfl, rfl, rfl⟩
  · exact ⟨_, _, execRetuneArm_of_reached at_ awake state left reached, indexAt_withIndex_some at_ _, rfl, rfl, rfl, rfl, rfl⟩
  · obtain ⟨table, answer⟩ := execRetunePassDone_of_passOne at_ awake state left shadow elapsed
    exact ⟨_, _, answer, indexAt_withIndex_some at_ _, rfl, rfl, rfl⟩
  · obtain ⟨parts, passed, length, answer | answer⟩ := execRetunePassDone_of_passTwo at_ awake state left shadow elapsed
    · exact ⟨_, _, answer, indexAt_joinSwitch (indexAt_withIndex_some at_ _), rfl, length, rfl⟩
    · exact ⟨_, _, answer, indexAt_withIndex_some at_ _, rfl, length, rfl⟩
  · obtain ⟨bridges, answer⟩ := execRetuneRetire_of_reached at_ state reached
    exact ⟨_, _, answer, indexAt_withIndex_some at_ retireVersion, rfl, rfl, rfl, rfl⟩

/-- Settles O27: both commands at their admission, and every step of the state table. -/
theorem retuneRunsStateByState : Obligations.RetuneRunsStateByState :=
  ⟨retuneStartsFromIdle, retuneCommitByState, retuneAdvancesStateByState⟩

end Sys2Proof.Machine
end


section
/-!
Soundness of an answer, and the rules by which the answer of a command is taken apart.
-/
namespace Sys2Proof.Machine

/-! ### Further rules of `Sound` -/

namespace Sound
variable {s0 s t : State}

theorem either {c : Prop} [Decidable c] (h : Sound s0 s) (g : Sound s0 t) : Sound s0 (if c then s else t) :=
  .ite (fun _ => h) (fun _ => g)

/-- An operation that is done or left out. -/
theorem when {f : State → State} {c : Prop} [Decidable c] (keeps : ∀ y, Sound s0 y → Sound s0 (f y)) (h : Sound s0 s) :
    Sound s0 (if c then f s else s) :=
  either (keeps s h) h

/-- An update of the pins that brings no auxiliary power and leaves the sampled straps. -/
theorem repin {pins : Pins} (h : Sound s0 s) (aux : s.pins.aux = false → pins.aux = false)
    (sampled : pins.sampled = s.pins.sampled) (modId : pins.modId = s.pins.modId) (split : pins.split = s.pins.split) :
    Sound s0 { s with pins := pins } :=
  h.trans ⟨rfl, id, id, Nat.le_refl _, Nat.le_refl _, id, aux, fun no => sampled.trans no,
    fun yes => .inr ⟨sampled.trans yes, modId, split⟩⟩

/-- An update of the TAP that keeps its rule. -/
theorem retap {tap : Tap} (h : Sound s0 s) (ok : TapOk s.tap → TapOk tap) : Sound s0 { s with tap := tap } :=
  h.trans ⟨rfl, ok, id, Nat.le_refl _, Nat.le_refl _, id, id, id, fun yes => .inr ⟨yes, rfl, rfl⟩⟩

theorem raised {code sev kind source handle index : Nat} {args : List Nat} (h : Sound s0 s) :
    Sound s0 (raise s code sev kind source handle index args) :=
  raise_sound h _ _ _ _ _ _ _

end Sound

/-! ### Answers -/

/-- Whatever state a command answers with is sound from `s0`. -/
def Keeps (s0 : State) (r : Result) : Prop := ∀ t, r = .next t → Sound s0 t

namespace Keeps
variable {s0 s : State} {a b : Result}

theorem next (h : Sound s0 s) : Keeps s0 (.next s) := fun _ e => Host.Outcome.next.inj e ▸ h

theorem idle (h : Sound s0 s) : Keeps s0 (idle s) := next h

theorem fault (r : Fault) : Keeps s0 (.fault r) := fun _ e => by cases e

theorem ite {c : Prop} [Decidable c] (h : Keeps s0 a) (g : Keeps s0 b) : Keeps s0 (if c then a else b) := by
  split
  · exact h
  · exact g

end Keeps

end Sys2Proof.Machine
end

section
/-!
Every command answers soundly, part by part: writes, indexes, the luthier and the retune.
-/
namespace Sys2Proof.Machine

variable {s0 s : State} (hs : Sound s0 s)
include hs

theorem admitWrite_sound (slot seq op : Nat) : Keeps s0 (admitWrite s slot seq op) := by
  unfold admitWrite
  split
  · exact .idle hs
  · split
    · exact .next (finishWith_sound _ _ _ _ hs)
    · exact .next (nowWaiting_sound _ _ _ hs)

theorem execWriteAccept_sound (slot seq lag : Nat) : Keeps s0 (execWriteAccept slot seq lag s) := by
  unfold execWriteAccept
  split
  · exact .idle hs
  · dsimp only
    split
    · exact .idle hs
    · refine .ite (.idle hs) (.ite (.next (finishWith_sound _ _ _ _ hs)) ?_)
      split
      · exact .next (finishWith_sound _ _ _ _ hs)
      · split
        · exact .next (finishWith_sound _ _ _ _ hs)
        · refine .ite (.ite (.idle hs) (.next (bump_sound _ _ _ (withCmd_sound _ _ _ _ hs)))) ?_
          split
          · exact .idle hs
          · exact .next (accept_sound _ _ _ _ _ _ _ _ hs)

theorem execWriteApply_sound (i stack pick : Nat) (payloadOk : Bool) :
    Keeps s0 (execWriteApply i stack pick payloadOk s) := by
  have moved := headMoves_sound s i hs
  have failed {e : JEntry} {st : Status} := retire_sound _ i (failWrite_sound _ e st moved)
  unfold execWriteApply
  split
  · next e _ _ =>
    refine .ite (.idle hs) ?_
    refine .ite (.next (noteApplied_sound _ _ _ (withEntries_sound _ _ _ _ (applyDelete_sound _ _ _ _ _ hs)))) ?_
    refine .ite (.next failed) (.ite (.next failed) ?_)
    split
    · exact .idle hs
    · refine .ite (.ite (.idle hs) (.next (withIndex_sound _ _ _ (.raised (bump_sound _ _ _ hs))))) (.ite (.idle hs) ?_)
      have freed {c : Prop} [Decidable c] {x : Index} := Sound.either (c := c) (applyDelete_sound _ i x e false moved) moved
      exact .next (noteApplied_sound _ _ _ (withEntries_sound _ _ _ _ (applyInsert_sound _ _ _ _ _ _ _ freed)))
  · exact .idle hs

theorem execBatchClose_sound (i : Nat) : Keeps s0 (execBatchClose i s) := by
  unfold execBatchClose
  split
  · exact .idle hs
  · split
    · exact .idle hs
    · exact .ite (.next (closeBatch_sound _ _ hs)) (.idle hs)

/-- The end of a published write. -/
theorem endWrite_sound (epoch : Nat) (e : JEntry) : Sound s0 (endWrite epoch s e) := by
  have open_ := unlock_sound s e hs
  unfold endWrite
  split
  · exact .either (finish_sound _ _ _ _ open_) open_
  · exact open_

/-- The batch's records are published, then its works, then its writes, and then MERGE_NOWs may end. -/
theorem execEpochPublish_sound (i lag : Nat) : Keeps s0 (execEpochPublish i lag s) := by
  unfold execEpochPublish
  split
  · exact .idle hs
  · split
    · exact .idle hs
    · refine .ite (.idle hs) (.next (mergeNowDone_sound _ _ (retire_sound _ _ ?_)))
      refine .foldl _ (fun _ _ h => endWrite_sound h _ _) (.foldl _ (fun _ _ h => publishWork_sound _ _ _ _ h) ?_)
      refine withEntries_sound _ _ _ _ (withIndex_sound _ _ _ (bump_sound _ _ _ (bump_sound _ _ _ ?_)))
      exact withIndex_sound _ _ _ hs

theorem execFetch_sound (slot seq : Nat) : Keeps s0 (execFetch slot seq s) := by
  unfold execFetch
  split
  · exact .idle hs
  · split
    · exact .next (finishWith_sound _ _ _ _ hs)
    · exact .next (finishWith_sound _ _ _ _ hs)
    · exact .ite (.next (bump_sound _ _ _ (setStage_sound _ _ _ _ hs))) (.next (runFetch_sound _ _ _ _ hs))

theorem execFetchAdmit_sound (slot seq : Nat) : Keeps s0 (execFetchAdmit slot seq s) := by
  unfold execFetchAdmit
  split
  · exact .idle hs
  · refine .ite (.idle hs) ?_
    split
    · exact .next (finishWith_sound _ _ _ _ hs)
    · exact .next (finishWith_sound _ _ _ _ hs)
    · exact .next (runFetch_sound _ _ _ _ hs)

theorem execSnapshotPin_sound (slot seq pick : Nat) : Keeps s0 (execSnapshotPin slot seq pick s) := by
  unfold execSnapshotPin
  split
  · exact .idle hs
  · refine .ite (.next (finishWith_sound _ _ _ _ hs)) (.ite (.next (finishWith_sound _ _ _ _ hs)) ?_)
    split
    · exact .next (finishWith_sound _ _ _ _ hs)
    · exact .ite (.next (finishWith_sound _ _ _ _ hs)) (.ite (.idle hs) (.next (finish_sound _ _ _ _ (hs.upd rfl))))

theorem execSnapshotRelease_sound (slot seq : Nat) : Keeps s0 (execSnapshotRelease slot seq s) := by
  unfold execSnapshotRelease
  split
  · exact .idle hs
  · refine .ite (.next (finishWith_sound _ _ _ _ hs)) ?_
    split
    · exact .next (finishWith_sound _ _ _ _ hs)
    · exact .next (finishWith_sound _ _ _ _ (hs.upd rfl))

theorem execPinExpire_sound (n : Nat) : Keeps s0 (execPinExpire n s) := by
  unfold execPinExpire
  split
  · exact .idle hs
  · exact .ite (.idle hs) (.next (.raised (bump_sound _ _ _ (hs.upd rfl))))

theorem execCreateIndex_sound (slot seq : Nat) : Keeps s0 (execCreateIndex slot seq s) := by
  unfold execCreateIndex
  split
  · exact .idle hs
  · exact .ite (.next (finishWith_sound _ _ _ _ hs)) (.next (nowWaiting_sound _ _ _ hs))

theorem execDropIndex_sound (slot seq : Nat) : Keeps s0 (execDropIndex slot seq s) := by
  unfold execDropIndex
  split
  · exact .idle hs
  · refine .ite (.next (finishWith_sound _ _ _ _ hs)) ?_
    exact .ite (.next (finishWith_sound _ _ _ _ hs)) (.next (beginDrop_sound _ _ _ _ (setStage_sound _ _ _ _ hs)))

theorem execDropIndexFinish_sound (i : Nat) : Keeps s0 (execDropIndexFinish i s) := by
  unfold execDropIndexFinish
  split
  · exact .idle hs
  · refine .ite (.idle hs) (.next (finishOp_sound _ _ _ _ _ (.foldl _ (fun _ _ h => pressCheck_sound _ _ h) ?_)))
    exact .foldl _ (fun _ _ h => setCtl_sound _ _ _ _ h) (hs.upd rfl)

theorem execMergeNow_sound (slot seq : Nat) : Keeps s0 (execMergeNow slot seq s) := by
  unfold execMergeNow
  split
  · exact .idle hs
  · refine .ite (.next (finishWith_sound _ _ _ _ hs)) (.ite (.next (finishWith_sound _ _ _ _ hs)) ?_)
    split
    · exact .next (finishWith_sound _ _ _ _ hs)
    · exact .next (mergeNowDone_sound _ _ (withCmd_sound _ _ _ _ hs))

theorem execMergeBatchStart_sound (i pn stack core : Nat) : Keeps s0 (execMergeBatchStart i pn stack core s) := by
  unfold execMergeBatchStart
  split
  · exact .idle hs
  · split
    · exact .idle hs
    · dsimp only
      split
      · exact .idle hs
      · exact .ite (.idle hs) (.next (takeContexts_sound _ _ _ _ _ _ _ _ hs))
      · exact .ite (.idle hs) (.next (takeContexts_sound _ _ _ _ _ _ _ _ (withPart_sound _ _ _ _ hs)))

theorem execMergeBatchDone_sound (i pn stack : Nat) : Keeps s0 (execMergeBatchDone i pn stack s) := by
  unfold execMergeBatchDone
  split
  · exact .idle hs
  · split
    · exact .idle hs
    · dsimp only
      split
      · exact .ite (.idle hs) (.next (joinBatch_sound _ _ _ (noteTally_sound _ _ (withPart_sound _ _ _ _ hs))))
      · exact .idle hs

theorem execRepairScanStart_sound (i pn : Nat) : Keeps s0 (execRepairScanStart i pn s) := by
  unfold execRepairScanStart
  split
  · exact .idle hs
  · split
    · exact .idle hs
    · exact .ite (.idle hs) (.next (withPart_sound _ _ _ _ hs))

theorem execRepairScanDone_sound (i pn pick : Nat) : Keeps s0 (execRepairScanDone i pn pick s) := by
  unfold execRepairScanDone
  split
  · exact .idle hs
  · split
    · exact .idle hs
    · split
      · exact .idle hs
      · exact .ite (.idle hs) (.next (joinBatch_sound _ _ _ (bump_sound _ _ _ (withPart_sound _ _ _ _ hs))))

theorem execLowWaterUpdate_sound (i : Nat) : Keeps s0 (execLowWaterUpdate i s) := by
  unfold execLowWaterUpdate
  split
  · exact .idle hs
  · exact .next (withIndex_sound _ _ _ hs)

theorem execEntryRelease_sound (i pn stack : Nat) : Keeps s0 (execEntryRelease i pn stack s) := by
  unfold execEntryRelease
  split
  · exact .idle hs
  · split
    · exact .idle hs
    · dsimp only
      split
      · exact .idle hs
      · exact .ite (.idle hs) (.next (pressCheck_sound _ _ (withPart_sound _ _ _ _ hs)))

theorem execSlotReclaim_sound (i pn slot : Nat) : Keeps s0 (execSlotReclaim i pn slot s) := by
  unfold execSlotReclaim
  split
  · exact .idle hs
  · split
    · exact .idle hs
    · dsimp only
      split
      · exact .idle hs
      · exact .ite (.idle hs) (.next (bump_sound _ _ _ (withPart_sound _ _ _ _ hs)))

theorem execRecordRebuild_sound (i pn slot : Nat) : Keeps s0 (execRecordRebuild i pn slot s) := by
  unfold execRecordRebuild
  split
  · exact .idle hs
  · split
    · exact .idle hs
    · refine .ite (.idle hs) (.next (.when (joinBatch_sound · i (.rebuild pn slot)) ?_))
      exact noteTally_sound _ _ (withPart_sound _ _ _ _ hs)

theorem execRetuneStart_sound (slot seq : Nat) : Keeps s0 (execRetuneStart slot seq s) := by
  unfold execRetuneStart
  split
  · exact .idle hs
  · refine .ite (.next (finishWith_sound _ _ _ _ hs)) ?_
    refine .ite (.next (finishWith_sound _ _ _ _ hs)) ?_
    refine .ite (.next (finishWith_sound _ _ _ _ hs)) ?_
    refine .ite (.next (finishWith_sound _ _ _ _ hs)) ?_
    exact .ite (.next (nowWaiting_sound _ _ _ hs)) (.next (retuneStartEnd_sound _ _ _ _ _ hs))

theorem execRetuneCommit_sound (slot seq : Nat) : Keeps s0 (execRetuneCommit slot seq s) := by
  have ended {st : Status} := finishWith_sound s slot seq st hs
  unfold execRetuneCommit
  split
  · exact .idle hs
  · refine .ite (.next ended) (.ite (.next ended) ?_)
    split
    · exact .next ended
    · refine .ite (.next ended) (.ite (.ite (.next (finishWith_sound _ _ _ _ ?_)) (.next ended)) (.ite (.next ended) ?_))
      · exact endRetune_sound _ _ _ (withIndex_sound _ _ _ hs)
      · refine .ite (.next (setStage_sound _ _ _ _ (withIndex_sound _ _ _ (joinSwitch_sound _ _ hs)))) ?_
        exact .next (setStage_sound _ _ _ _ (withIndex_sound _ _ _ hs))

theorem execRetuneSampleTimeout_sound (i : Nat) : Keeps s0 (execRetuneSampleTimeout i s) := by
  unfold execRetuneSampleTimeout
  split
  · exact .idle hs
  · exact .ite (.idle hs) (.ite (.next (endRetune_sound _ _ _ hs)) (.next (withIndex_sound _ _ _ hs)))

theorem execRetuneFitDone_sound (i : Nat) : Keeps s0 (execRetuneFitDone i s) := by
  unfold execRetuneFitDone
  split
  · exact .idle hs
  · refine .ite (.idle hs) ?_
    split
    · exact .next (joinVersion_sound _ _ _ hs)
    · refine .ite (.next (joinVersion_sound _ _ _ (withIndex_sound _ _ _ (.either (.raised hs) hs)))) ?_
      exact .next (endRetune_sound _ _ _ (.raised (withIndex_sound _ _ _ (.either (.raised hs) hs))))
    · exact .idle hs

theorem execRetuneArm_sound (i : Nat) : Keeps s0 (execRetuneArm i s) := by
  unfold execRetuneArm
  split
  · exact .idle hs
  · exact .ite (.idle hs) (.next (withIndex_sound _ _ _ hs))

theorem execRetunePassDone_sound (i : Nat) : Keeps s0 (execRetunePassDone i s) := by
  unfold execRetunePassDone
  split
  · exact .idle hs
  · split
    · exact .idle hs
    · refine .ite (.idle hs) ?_
      split
      · exact .next (withIndex_sound _ _ _ hs)
      · exact .ite (.next (joinSwitch_sound _ _ (withIndex_sound _ _ _ hs))) (.next (withIndex_sound _ _ _ hs))
      · exact .idle hs

theorem execRetuneRetire_sound (i : Nat) : Keeps s0 (execRetuneRetire i s) := by
  unfold execRetuneRetire
  split
  · exact .idle hs
  · exact .ite (.idle hs) (.next (Sound.upd (withIndex_sound _ _ _ hs) rfl))

end Sys2Proof.Machine
end

section
/-!
Searches, strums and sweeps, and the frames of sharded searches answer soundly.
-/
namespace Sys2Proof.Machine

variable {s0 s : State} (hs : Sound s0 s)
include hs

theorem admitSearch_sound (slot seq op lag : Nat) (exact : Bool) : Keeps s0 (admitSearch slot seq op lag exact s) := by
  unfold admitSearch
  split
  · exact .idle hs
  · dsimp only
    split
    · exact .next (finishWith_sound _ _ _ _ hs)
    · exact .next (admitQuery_sound _ _ _ _ _ _ _ hs)

theorem execSearchStart_sound (tag core lag : Nat) : Keeps s0 (execSearchStart tag core lag s) := by
  unfold execSearchStart
  split
  · exact .idle hs
  · refine .ite (.idle hs) ?_
    split
    · exact .idle hs
    · next started =>
      obtain ⟨x, -, started⟩ := Option.bind_eq_some_iff.1 started
      exact .next (.when drawToken_sound (startQuery_sound _ _ _ _ hs started))

theorem execQueryRegistrationDone_sound (tag : Nat) : Keeps s0 (execQueryRegistrationDone tag s) := by
  unfold execQueryRegistrationDone
  split
  · exact .idle hs
  · split
    · exact .idle hs
    · exact .ite (.idle hs) (.next (withQuery_sound _ _ _ (.foldl _ (fun _ _ h => setBridge_sound _ _ _ h) hs)))

theorem execWalkPlace_sound (tag part core : Nat) : Keeps s0 (execWalkPlace tag part core s) := by
  unfold execWalkPlace
  split
  · exact .idle hs
  · split
    · exact .idle hs
    · refine .ite (.idle hs) ?_
      split
      · exact .idle hs
      · exact .next (sealStages_sound _ _ (withQuery_sound _ _ _ hs))

theorem execWalkDescent_sound (tag part : Nat) : Keeps s0 (execWalkDescent tag part s) := by
  unfold execWalkDescent
  split
  · exact .idle hs
  · split
    · refine .ite (.idle hs) ?_
      split
      · exact .next (endWalk_sound _ _ _ _ hs)
      · exact .next (driveWalk_sound _ _ _ _ (withWalk_sound _ _ _ _ hs))
    · exact .idle hs

theorem execExpandRequest_sound (stack : Nat) (outcome : ReadOutcome) : Keeps s0 (execExpandRequest stack outcome s) := by
  unfold execExpandRequest
  dsimp only
  split
  · exact .idle hs
  · split
    · exact .next (setBridge_sound _ _ _ hs)
    · refine .next (retryHeld_sound _ _ (withWalk_sound _ _ _ _ (.when (fun _ => .raised) ?_)))
      exact .either (recordBad_sound _ _ _ _ _ (setBridge_sound _ _ _ hs)) (setBridge_sound _ _ _ hs)

theorem execExpandResponse_sound (tag part pick lag : Nat) : Keeps s0 (execExpandResponse tag part pick lag s) := by
  unfold execExpandResponse
  split
  · exact .idle hs
  · split
    · exact .idle hs
    · split
      · exact .idle hs
      · have taken := withWalk_sound s tag part (fun w => { w with inbox := w.inbox.eraseIdx pick }) hs
        have missed {c : Prop} [Decidable c] := Sound.when (c := c) (bump_sound · 0x24 1) taken
        refine .ite (.next missed) (.next (retryHeld_sound _ _ (driveWalk_sound _ _ _ _ ?_)))
        split
        · exact missed
        · refine withWalk_sound _ _ _ _ (.when (markCause_sound · tag setWon) ?_)
          exact .when (markCause_sound · tag setPoison) missed

theorem execStrumClose_sound (i : Nat) : Keeps s0 (execStrumClose i s) := by
  unfold execStrumClose
  split
  · exact .idle hs
  · exact .ite (.next (closeStrum_sound _ _ hs)) (.idle hs)

theorem execSweepStart_sound (stack : Nat) : Keeps s0 (execSweepStart stack s) := by
  unfold execSweepStart
  dsimp only
  split
  · split
    · exact .idle hs
    · exact .ite (.idle hs) (.next (setBridge_sound _ _ _ hs))
  · exact .idle hs

/-- The list of one member of a sweep. -/
theorem deliverList_sound (x : Index) (w : Sweep) (stack : Nat) (m : Nat × Nat) : Sound s0 (deliverList x w stack s m) := by
  unfold deliverList
  split
  · exact hs
  · exact .either (withQuery_sound _ _ _ (handOff_sound _ _ _ _ hs)) hs

theorem execSweepDone_sound (stack : Nat) : Keeps s0 (execSweepDone stack s) := by
  unfold execSweepDone
  split
  · exact .idle hs
  · split
    · exact .idle hs
    · exact .next (.foldl _ (fun _ _ h => deliverList_sound h _ _ _ _) (setBridge_sound _ _ _ (bump_sound _ _ _ hs)))

theorem execExactSweepDone_sound (tag stack : Nat) (bad : List Nat) : Keeps s0 (execExactSweepDone tag stack bad s) := by
  unfold execExactSweepDone
  split
  · exact .idle hs
  · split
    · split
      · exact .idle hs
      · refine .ite (.idle hs) (.next (exactDeliver_sound _ _ _ _ _ _ _ _ _ (.foldl _ (fun _ _ h => ?_) hs)))
        exact .either h (.either (recordBad_sound _ _ _ _ _ h) (rerankLost_sound _ _ _ _ h))
    · exact .idle hs

theorem execMergeListArrival_sound (tag pick lag : Nat) (headerOk : Bool) :
    Keeps s0 (execMergeListArrival tag pick lag headerOk s) := by
  have taken := withQuery_sound s tag (fun q => { q with transit := q.transit.eraseIdx pick }) hs
  have bad {i n : Nat} := badList__sound _ i tag n taken
  unfold execMergeListArrival
  split
  · exact .ite (.next (badList__sound _ _ _ _ (hs.upd rfl))) (.idle hs)
  · split
    · exact .idle hs
    · dsimp only
      split
      · exact .ite (.next taken) (.ite (.next (localDone_sound _ _ _ taken)) (.next (localDone_sound _ _ _ bad)))
      · refine .ite (.next (.either (setStageAt_sound _ _ _ _ bad) bad)) ?_
        refine .ite (.next (markLate_sound _ _ (bump_sound _ _ _ taken))) (.ite (.next bad) ?_)
        exact .next (checkStage_sound _ _ _
          (.when (markCause_sound · tag setWon) (setStageAt_sound _ _ _ _ (bump_sound _ _ _ taken))))

theorem execDieLastAccept_sound (tag die lag : Nat) : Keeps s0 (execDieLastAccept tag die lag s) := by
  unfold execDieLastAccept
  split
  · exact .idle hs
  · split
    · exact .idle hs
    · exact .ite (.idle hs) (.next (dieForward_sound _ _ _ _ hs))

theorem execHubLastAccept_sound (tag lag : Nat) : Keeps s0 (execHubLastAccept tag lag s) := by
  unfold execHubLastAccept
  split
  · exact .idle hs
  · exact .ite (.idle hs) (.next (hubForward_sound _ _ _ hs))

theorem execRerankDone_sound (tag : Nat) (bad : List Nat) : Keeps s0 (execRerankDone tag bad s) := by
  unfold execRerankDone
  split
  · exact .idle hs
  · split
    · exact .idle hs
    · exact .ite (.idle hs) (.ite (.next (retireReqs_sound _ _ _ hs)) (.next (rerankEnd_sound _ _ _ _ hs)))

theorem execSearchCut_sound (tag lag : Nat) : Keeps s0 (execSearchCut tag lag s) := by
  unfold execSearchCut
  split
  · exact .idle hs
  · split
    · exact .idle hs
    · exact .ite (.idle hs) (.next (retryHeld_sound _ _ (cutQuery_sound _ _ hs)))

theorem execSearchDeadline_sound (tag lag : Nat) : Keeps s0 (execSearchDeadline tag lag s) := by
  unfold execSearchDeadline
  split
  · exact .idle hs
  · exact .ite (.idle hs) (.next (completeQuery_sound _ _ _ hs))

theorem execSearchMeterToken_sound : Keeps s0 (execSearchMeterToken s) :=
  .ite (.next (gainToken_sound _ hs)) (.idle hs)

/-- What a frame does once it is received must be sound as well. -/
theorem onFrame_sound {act : State → Frame → Bool → State} (keeps : ∀ y f bad, Sound s0 y → Sound s0 (act y f bad))
    (i typ : Nat) (rx : RxFrame) : Keeps s0 (onFrame s i typ rx act) := by
  unfold onFrame
  refine .ite (.idle hs) ?_
  dsimp only
  split
  · exact .next (fabReceive_sound _ _ _ hs)
  · exact .next (keeps _ _ _ (passIngress_sound _ _ _ (fabReceive_sound _ _ _ hs)))

theorem execFabricLastAccept_sound (tag lag : Nat) : Keeps s0 (execFabricLastAccept tag lag s) := by
  unfold execFabricLastAccept
  split
  · exact .idle hs
  · split
    · exact .idle hs
    · exact .ite (.idle hs) (.next (completeQuery_sound _ _ _ (Sound.upd (bump_sound _ _ _ hs) rfl)))

theorem execRowList_sound (i : Nat) (rx : RxFrame) : Keeps s0 (execRowList i rx s) := by
  unfold execRowList
  refine .ite (.idle hs) ?_
  dsimp only
  split
  · exact .next (fabReceive_sound _ _ _ hs)
  · exact .next (rowArrives_sound _ _ _ _ (fabReceive_sound _ _ _ hs))

theorem execBadFrame_sound (i : Nat) (rx : RxFrame) : Keeps s0 (execBadFrame i rx s) :=
  .ite (.next (fabReceive_sound _ _ _ hs)) (.idle hs)

end Sys2Proof.Machine
end

section
/-!
Doorbells, channels and completions answer soundly.
-/
namespace Sys2Proof.Machine

variable {s0 s : State} (hs : Sound s0 s)
include hs

theorem execSqDoorbell_sound (p : Port) (slot value : Nat) : Keeps s0 (execSqDoorbell p slot value s) :=
  .ite (.next (ringDoorbell_sound _ _ _ _ _ hs)) (.idle hs)

theorem execCqDoorbell_sound (p : Port) (slot value : Nat) : Keeps s0 (execCqDoorbell p slot value s) :=
  .ite (.next (ringDoorbell_sound _ _ _ _ _ hs)) (.idle hs)

theorem execAdminCtrlWrite_sound (p : Port) (value : Nat) : Keeps s0 (execAdminCtrlWrite p value s) :=
  .ite (.next (adminCtrl_sound _ _ _ hs)) (.idle hs)

theorem execAdminChannelEnable_sound (p : Port) : Keeps s0 (execAdminChannelEnable p s) :=
  .ite (.idle hs) (.ite (.next (setPort_sound _ _ _ hs)) (.next (setPort_sound _ _ _ (setChan_sound _ _ _ hs))))

theorem execCreateChannel_sound (slot seq : Nat) : Keeps s0 (execCreateChannel slot seq s) := by
  unfold execCreateChannel
  split
  · exact .idle hs
  · refine .ite (.next (finishWith_sound _ _ _ _ hs)) ?_
    split
    · exact .next (finishWith_sound _ _ _ _ hs)
    · exact .next (finish_sound _ _ _ _ (setChan_sound _ _ _ hs))

theorem admitAbort_sound (slot seq op : Nat) : Keeps s0 (admitAbort slot seq op s) := by
  unfold admitAbort
  split
  · exact .idle hs
  · split
    · exact .next (finishWith_sound _ _ _ _ hs)
    · exact .ite (.next (finishWith_sound _ _ _ _ hs)) (.next (abortChan_sound _ _ _ _ (setStage_sound _ _ _ _ hs)))

theorem execAbortComplete_sound (slot : Nat) : Keeps s0 (execAbortComplete slot s) := by
  unfold execAbortComplete
  dsimp only
  split
  · exact .idle hs
  · refine .ite (.next (setPort_sound _ _ _ (setChan_sound _ _ _ hs))) (.next (.foldl _ (fun _ _ h => ?_) ?_))
    · split
      · exact finish_sound _ _ _ _ h
      · exact h
    · exact setChan_sound _ _ _ hs

theorem execChannelFreed_sound (slot : Nat) : Keeps s0 (execChannelFreed slot s) :=
  .ite (.idle hs) (.next (setChan_sound _ _ _ hs))

theorem execCommandFetchDone_sound (slot : Nat) (words : List CmdWord) : Keeps s0 (execCommandFetchDone slot words s) :=
  .ite (.idle hs) (.next (refuseDue_sound _ _ (setChan_sound _ _ _ hs)))

theorem execBarrier_sound (slot seq : Nat) : Keeps s0 (execBarrier slot seq s) := by
  unfold execBarrier
  dsimp only
  split
  · exact .idle hs
  · refine .ite (.next (finishWith_sound _ _ _ _ hs)) ?_
    exact .ite (.next (setStage_sound _ _ _ _ hs)) (.next (finishWith_sound _ _ _ _ hs))

theorem execIntCoalesceExpiry_sound (slot : Nat) : Keeps s0 (execIntCoalesceExpiry slot s) := by
  unfold execIntCoalesceExpiry
  dsimp only
  split
  · exact .idle hs
  · exact .ite (.idle hs) (.next (sendMsi_sound _ _ _ (setChan_sound _ _ _ hs)))

theorem execGetLog_sound (slot seq unread : Nat) : Keeps s0 (execGetLog slot seq unread s) := by
  unfold execGetLog
  split
  · exact .idle hs
  · exact .ite (.next (finishWith_sound _ _ _ _ hs)) (.next (finish_sound _ _ _ _ (withCmd_sound _ _ _ _ hs)))

end Sys2Proof.Machine
end

section
/-!
Dense compute and tablatures answer soundly.
-/
namespace Sys2Proof.Machine

variable {s0 s : State} (hs : Sound s0 s)
include hs

theorem execDenseStart_sound (slot seq : Nat) (args inDir outDir : Option (List Byte)) :
    Keeps s0 (execDenseStart slot seq args inDir outDir s) := by
  unfold execDenseStart
  split
  · exact .idle hs
  · refine .ite (.idle hs) (.ite (.next (denseEnd_sound _ _ _ _ (hs.upd rfl))) ?_)
    refine .ite (.next (denseEnd_sound _ _ _ _ (hs.upd rfl))) (.ite (.next (denseEnd_sound _ _ _ _ (hs.upd rfl))) ?_)
    split
    · refine .next (.when (fun _ h => writeFactors_sound _ _ (bump_sound _ _ _ h)) ?_)
      exact .foldl _ (fun _ _ h => noteShared_sound _ _ h) (Sound.upd (hs.upd rfl) rfl)
    · exact .next (denseEnd_sound _ _ _ _ (hs.upd rfl))

theorem execLineIssue_sound (die : Nat) : Keeps s0 (execLineIssue die s) := by
  unfold execLineIssue
  split
  · exact .idle hs
  · dsimp only
    split
    · exact .idle hs
    · exact .ite (.idle hs) (.next (noteReady_sound _ _ (issueLine_sound _ _ _ _ hs)))

theorem execMacroStart_sound (die core : Nat) (u : ExecUnit) : Keeps s0 (execMacroStart die core u s) := by
  unfold execMacroStart
  dsimp only
  split
  · exact .idle hs
  · exact .ite (.idle hs) (.next (noteReady_sound _ _ (pullAll_sound _ _ (withMacro_sound _ _ _ _ _ hs))))

theorem execMacroComplete_sound (die core : Nat) (u : ExecUnit) : Keeps s0 (execMacroComplete die core u s) := by
  unfold execMacroComplete
  dsimp only
  split
  · split
    · exact .idle hs
    · split
      · next done => exact .next (noteReady_sound _ _ (macroDone_sound _ _ _ _ _ _ _ hs done))
      · exact .idle hs
  · exact .idle hs

theorem execBarrierRelease_sound (slot seq : Nat) : Keeps s0 (execBarrierRelease slot seq s) := by
  unfold execBarrierRelease
  split
  · exact .idle hs
  · refine .ite (.idle hs) ?_
    dsimp only
    split
    · exact .idle hs
    · refine .ite (.next (abortRun_sound _ _ _ _ _ _ hs)) ?_
      exact .ite (.next (.foldl _ (fun _ _ h => noteReady_sound _ _ h) (releaseBarrier_sound _ _ hs))) (.idle hs)

theorem execRunComplete_sound (slot seq : Nat) : Keeps s0 (execRunComplete slot seq s) := by
  unfold execRunComplete
  split
  · exact .idle hs
  · next r _ =>
    have counted := bump_sound _ 0x62 (unusedPrefetch r)
      (Sound.foldl (r.dies.map Prod.fst) (fun d y => countWaits_sound y d) hs)
    have trained {c d : Prop} [Decidable c] [Decidable d] := Sound.either (c := c) (stepDone_sound _ r counted)
      (.either (c := d) (stepUndone_sound _ r counted) (stashKept_sound _ r counted))
    refine .ite (.idle hs) (.ite (.next (withRun_sound _ _ _ _ counted)) (.ite (.next (giveQuery_sound _ _ ?_)) (.next ?_)))
    · exact dropRun_sound _ _ _ (.when statEvents_sound trained)
    · exact denseEnd_sound _ _ _ _ (dropRun_sound _ _ _ (.when statEvents_sound trained))

theorem execDescriptorBurstDone_sound (die n : Nat) (data : Option (List Byte)) :
    Keeps s0 (execDescriptorBurstDone die n data s) := by
  have queued := takeQueues_sound s die hs
  unfold execDescriptorBurstDone
  split
  · exact .idle hs
  · refine .ite (.next queued) (.next (noteReady_sound _ _ (settle_sound _ _ ?_)))
    have taken := withDie_sound _ die (fun q => { q with bursts := q.bursts.filter (· != n), burstAt := forget q.burstAt n })
      queued
    split
    · exact badList_sound _ _ _ _ taken
    · refine .either (.either (badList_sound _ _ _ _ taken) ?_) (takeDescs_sound _ _ _ _ _ taken)
      exact takeDescs_sound _ _ _ _ _ (withStream_sound _ _ _ _ taken)

theorem execRegBucketRefill_sound (die : Nat) : Keeps s0 (execRegBucketRefill die s) := by
  unfold execRegBucketRefill
  split
  · exact .idle hs
  · exact .next (catchUp_sound _ _ hs)

theorem execBlockFetchDone_sound (die n : Nat) (data : List Byte) (bad : List Nat) (present : Bool) :
    Keeps s0 (execBlockFetchDone die n data bad present s) := by
  have caught := catchUp_sound s die hs
  unfold execBlockFetchDone
  split
  · exact .idle hs
  · refine .ite (.next caught) (.ite ?_ ?_)
    · split
      · exact .next (noteReady_sound _ _ (placeBlock_sound _ _ _ _ _ caught))
      · exact .next caught
    · split
      · exact .next caught
      · refine .ite (.next caught) (.ite (.next (streamPart_sound _ _ _ caught)) (.next (noteReady_sound _ _ ?_)))
        exact arrivedBlock_sound _ _ _ _ _ _ _ _ _ _ (.either (faultBlock_sound _ _ _ _ caught) caught)

theorem execBlockWriteDone_sound (die n : Nat) (present : Bool) : Keeps s0 (execBlockWriteDone die n present s) := by
  have caught := catchUp_sound s die hs
  unfold execBlockWriteDone
  split
  · exact .idle hs
  · refine .ite (.next caught) ?_
    split
    · exact .next caught
    · refine .ite (.next caught) (.ite (.next (streamPart_sound _ _ _ caught)) (.next (noteReady_sound _ _ ?_)))
      exact writtenBlock_sound _ _ _ _ _ _ _ _ _ caught

theorem execStallDetect_sound (die : Nat) : Keeps s0 (execStallDetect die s) := by
  unfold execStallDetect
  split
  · exact .idle hs
  · exact .ite (.idle hs) (.next (stallAbort_sound _ _ _ hs))

theorem execDieProgramAbort_sound (slot seq cause : Nat) : Keeps s0 (execDieProgramAbort slot seq cause s) := by
  unfold execDieProgramAbort
  split
  · exact .idle hs
  · refine .ite (.idle hs) (.ite ?_ (.next (abortRun_sound _ _ _ _ _ _ hs)))
    split
    · exact .next (stallAbort_sound _ _ _ hs)
    · exact .idle hs

theorem execDieAbortDone_sound (slot seq : Nat) : Keeps s0 (execDieAbortDone slot seq s) := by
  unfold execDieAbortDone
  split
  · exact .idle hs
  · split
    · exact .idle hs
    · have dropped {c : Prop} [Decidable c] := dropRun_sound _ slot seq (Sound.when (c := c) statEvents_sound hs)
      exact .ite (.next (dropCmd_sound _ _ _ (dropQueryOf_sound _ _ _ dropped))) (.next (denseEnd_sound _ _ _ _ dropped))

theorem execLoadTablature_sound (slot seq : Nat) : Keeps s0 (execLoadTablature slot seq s) := by
  unfold execLoadTablature
  split
  · exact .idle hs
  · exact .ite (.next (finishWith_sound _ _ _ _ hs)) (.next (nowWaiting_sound _ _ _ hs))

theorem admitDense_sound (slot seq op : Nat) : Keeps s0 (admitDense slot seq op s) := by
  unfold admitDense
  split
  · exact .idle hs
  · exact .ite (.next (enqueue_sound _ _ _ (setStage_sound _ _ _ _ hs))) (.next (finishWith_sound _ _ _ _ hs))

theorem execEncodeSearch_sound (slot seq lag : Nat) : Keeps s0 (execEncodeSearch slot seq lag s) := by
  unfold execEncodeSearch
  split
  · exact .idle hs
  · refine .ite (.next (finishWith_sound _ _ _ _ hs)) ?_
    split
    · exact .idle hs
    · exact .next (finishWith_sound _ _ _ _ hs)
    · dsimp only
      split
      · exact .next (finishWith_sound _ _ _ _ hs)
      · exact .next (enqueue_sound _ _ _ (withQuery_sound _ _ _ (admitQuery_sound _ _ _ _ _ _ _ hs)))

end Sys2Proof.Machine
end

section
/-!
Host accesses and faults of the hardware answer soundly.
-/
namespace Sys2Proof.Machine

variable {s0 s : State} (hs : Sound s0 s)
include hs

theorem execBufferReadDone_sound (slot seq : Nat) (k : BufKind) (d : Option (List Byte)) :
    Keeps s0 (execBufferReadDone slot seq k d s) :=
  .ite (.idle hs) (.ite (.next (retireReqs_sound _ _ _ hs)) (.next (readDone_sound _ _ _ _ _ hs)))

theorem execTranslationResponse_sound (slot seq : Nat) (acc : Access) (answer : XlatAnswer) :
    Keeps s0 (execTranslationResponse slot seq acc answer s) := by
  have settled := accSettled_sound s slot (accSeq acc seq) acc hs
  unfold execTranslationResponse
  refine .ite (.idle settled) ?_
  split
  · exact .next (accessPresent_sound _ _ _ _ settled)
  · exact .ite (.next (entriesPresent_sound _ _ _ _ settled)) (.idle settled)
  · exact .next (failAccess_sound _ _ _ _ _ settled)
  · refine .ite (.next (accessPresent_sound _ _ _ _ settled)) (.ite (.next (failAccess_sound _ _ _ _ _ settled)) ?_)
    exact .next (issuePages_sound _ (Sound.upd (.either (withCmd_sound _ _ _ _ settled) settled) rfl))

theorem execPageResponse_sound (slot seq : Nat) (acc : Access) (resolved : Bool) :
    Keeps s0 (execPageResponse slot seq acc resolved s) := by
  unfold execPageResponse
  split
  · exact .idle hs
  · split
    · exact .idle hs
    · exact .ite (.idle hs) (.ite (.next (pageEnds_sound _ _ hs)) (.next (pageFails_sound _ _ hs)))

theorem execPageRequestTimeout_sound (slot seq : Nat) (acc : Access) : Keeps s0 (execPageRequestTimeout slot seq acc s) := by
  unfold execPageRequestTimeout
  split
  · exact .idle hs
  · split
    · exact .idle hs
    · exact .ite (.next (pageFails_sound _ _ hs)) (.idle hs)

theorem execAtsInvalidation_sound (p : Port) (slot seq : Nat) : Keeps s0 (execAtsInvalidation p slot seq s) :=
  .ite (.idle hs) (.next (withCmd_sound _ _ _ _ hs))

/-- A packet that is hit. -/
theorem packetHit_sound (header : Bool) (p : Packet) : Sound s0 (packetHit s header p) := by
  unfold packetHit
  split
  · exact hs.upd rfl
  · split
    · exact hs
    · exact .either (withWalk_sound _ _ _ _ hs) (setBridge_sound _ _ _ (withWalk_sound _ _ _ _ hs))
  · exact packetReqs_sound _ _ _ _ hs
  · exact packetReqs_sound _ _ _ _ hs
  · exact packetReqs_sound _ _ _ _ hs
  · exact .either (poisonedRead_sound _ _ _ _ hs) hs
  · exact withQuery_sound _ _ _ hs
  · exact hs

theorem execParityError_sound (place : ParityPlace) (addr : Nat) (recovered : Bool) :
    Keeps s0 (execParityError place addr recovered s) := by
  have replayed {c : Prop} [Decidable c] := Sound.either (c := c) hs (bump_sound s 0x03 (linkReplays place recovered) hs)
  unfold execParityError
  refine .ite (.next ?_) ?_
  · split
    · exact addScore_sound _ _ _ (bump_sound _ _ _ replayed)
    · exact bump_sound _ _ _ replayed
  · dsimp only
    split
    · exact .idle replayed
    · exact .next (packetHit_sound (bump_sound _ _ _ replayed) _ _)
    · exact .next (.raised replayed)
    · exact .next (.raised (packetHit_sound (.raised (bump_sound _ _ _ replayed)) _ _))
    · exact .next (packetHit_sound (.raised (bump_sound _ _ _ replayed)) _ _)
    · refine .next ?_
      split
      · exact addScore_sound _ _ _ (parityHit_sound _ _ _ (.raised (bump_sound _ _ _ replayed)))
      · exact parityHit_sound _ _ _ (.raised (bump_sound _ _ _ replayed))

theorem execMemUncorrectable_sound (place : MemPlace) : Keeps s0 (execMemUncorrectable place s) := by
  unfold execMemUncorrectable
  split
  · exact .next (recordBad_sound _ _ _ _ _ hs)
  · exact .next (rerankLost_sound _ _ _ _ hs)
  · exact .next (memBad_sound _ _ _ _ (markArea_sound _ _ _ _ _ hs))
  · exact .next (memBad_sound _ _ _ _ (markArea_sound _ _ _ _ _ hs))
  · exact .next (memBad_sound _ _ _ _ hs)

theorem execHubReloadDone_sound (die : Nat) : Keeps s0 (execHubReloadDone die s) :=
  .ite (.next (withCores_sound _ _ _ hs)) (.idle hs)

theorem execFenceDecay_sound : Keeps s0 (execFenceDecay s) :=
  .ite (.idle hs) (.next (hs.upd rfl))

theorem execReqTimeout_sound (kind : ReqKind) : Keeps s0 (execReqTimeout kind s) := by
  have noted (kind unit : Nat) := noteTimeout_sound s kind unit hs
  have retired (o : ReqOwner) (unit : Nat) := retireReqs_sound _ o true (noted 1 unit)
  unfold execReqTimeout
  dsimp only
  split
  · split
    · exact .idle hs
    · split
      · exact .idle hs
      · exact .next (retryHeld_sound _ _ (withWalk_sound _ _ _ _ (noteTimeout_sound _ _ _ (setBridge_sound _ _ _ hs))))
  · split
    · exact .idle hs
    · refine .ite (.idle hs) (.ite (.next (retired _ _)) (.ite (execBlockWriteDone_sound (retired _ _) _ _ _) ?_))
      exact execBlockFetchDone_sound (freshFill_sound _ (retired _ _)) _ _ _ _ _
  · exact .ite (.idle hs) (.ite (.next (retired _ _)) (execRerankDone_sound (retired _ _) _ _))
  · split
    · exact .idle hs
    · exact .ite (.idle hs) (execDescriptorBurstDone_sound (noted _ _) _ _ _)
  · split
    · exact .idle hs
    · exact .ite (.idle hs) (.next (poisonedRead_sound _ _ _ _ (noted _ _)))
  · exact .ite (.idle hs) (.next (withCores_sound _ _ _ (noted _ _)))

end Sys2Proof.Machine
end

section
/-!
Power, start-up, resets and limits answer soundly.
-/
namespace Sys2Proof.Machine

variable {s0 s : State} (hs : Sound s0 s)
include hs

theorem execAuxPowerLoss_sound : Keeps s0 (execAuxPowerLoss s) :=
  .ite (.next (unpowered_sound _ hs)) (.idle hs)

theorem execAuxStartupDone_sound : Keeps s0 (execAuxStartupDone s) := by
  unfold execAuxStartupDone
  refine .ite (.idle hs) ?_
  dsimp only
  split
  · exact .next (bootImage_sound _ _ (extend_sound _ _ _ (.either hs (hs.secure (Nat.le_refl _) (Nat.le_refl _) id))))
  · exact .next (bootRecovery_sound _ (extend_sound _ _ _ (.either hs (hs.secure (Nat.le_refl _) (Nat.le_refl _) id))))

theorem execPwrEnRise_sound (stable : Nat) : Keeps s0 (execPwrEnRise stable s) :=
  .ite (.idle hs) (.next (.either (startMain_sound _ (hs.repin id rfl rfl rfl)) (hs.repin id rfl rfl rfl)))

theorem execPwrEnFall_sound (stable : Nat) : Keeps s0 (execPwrEnFall stable s) := by
  have undone := undoEntry_sound _ (tripFirst_sound s hs)
  unfold execPwrEnFall
  refine .ite (.idle hs) (.ite (.next (hs.repin id rfl rfl rfl)) ?_)
  refine .ite (.next (noteStop_sound _ (mainStop_sound _ _ _ (undone.repin id rfl rfl rfl)))) ?_
  exact .ite (.next (setPwr_sound _ _ (undone.repin id rfl rfl rfl))) (.next (endTrip_sound _ (undone.repin id rfl rfl rfl)))

theorem execMainStartStepDone_sound (failedCores : List Nat) : Keeps s0 (execMainStartStepDone failedCores s) := by
  unfold execMainStartStepDone
  refine .ite (.idle hs) ?_
  dsimp only
  split
  · exact .next (measureDies_sound _ (hs.upd rfl))
  · exact .next (Sound.upd (hs.upd rfl) rfl)
  · exact .next (selfTest_sound _ _ (hs.upd rfl))
  · exact .next (readyRing_sound _ (hs.near rfl rfl rfl rfl rfl (Nat.le_refl _) (Nat.le_succ _) id))
  · exact .ite (.next (enterA0_sound _ (hs.upd rfl))) (.fault _)
  · exact .next (hs.upd rfl)

theorem execStartupFailed_sound (unit stackOk farOk : Nat) : Keeps s0 (execStartupFailed unit stackOk farOk s) := by
  unfold execStartupFailed
  refine .ite (.idle hs) ?_
  refine .ite (.next (tripFirst_sound _ hs)) ?_
  exact .next (noteStop_sound _ (Sound.upd (mainStop_sound _ _ _ (.raised (loseRing_sound _ hs))) rfl))

theorem execPerstNAssert_sound (stable : Nat) : Keeps s0 (execPerstNAssert stable s) := by
  unfold execPerstNAssert
  refine .ite (.idle hs) ?_
  refine .ite (.next (hs.repin id rfl rfl rfl)) ?_
  refine .ite (.next (Sound.secure (hs.repin id rfl rfl rfl) (Nat.le_refl _) (Nat.le_refl _) id)) ?_
  refine .ite (.next (warmRestart_sound _ _ (hs.repin id rfl rfl rfl))) ?_
  refine .ite (.next (resetPorts_sound _ _ _ (hs.repin id rfl rfl rfl))) ?_
  exact .next (Sound.upd (hs.repin id rfl rfl rfl) rfl)

theorem execPerstNRelease_sound (stable : Nat) : Keeps s0 (execPerstNRelease stable s) := by
  unfold execPerstNRelease
  refine .ite (.idle hs) ?_
  split
  · exact .fault _
  · exact .ite (.fault _) (.ite (.next (hs.repin id rfl rfl rfl)) (.next (Sound.upd (hs.repin id rfl rfl rfl) rfl)))

theorem execPortReset_sound (p : Port) (cause : Nat) : Keeps s0 (execPortReset p cause s) :=
  .ite (.next (portResetOp_sound _ _ _ _ hs)) (.idle hs)

theorem execLinkUp_sound (p : Port) : Keeps s0 (execLinkUp p s) :=
  .ite (.idle hs) (.next (setPort_sound _ _ _ hs))

theorem execSetPowerState_sound (slot seq : Nat) : Keeps s0 (execSetPowerState slot seq s) := by
  unfold execSetPowerState
  split
  · exact .idle hs
  · split
    · exact .next (finishWith_sound _ _ _ _ hs)
    · refine .ite (.next (finishWith_sound _ _ _ _ hs)) ?_
      refine .ite (.ite (.next (finishWith_sound _ _ _ _ hs)) (.next (beginEntry_sound _ _ _ _ hs))) ?_
      refine .ite ?_ (.idle hs)
      split
      · exact .ite (.next (beginReturn_sound _ _ _ hs)) (.idle hs)
      · exact .idle hs
      · refine .ite (.next (beginReturn_sound _ _ _ hs)) ?_
        exact .ite (.next (finishWith_sound _ _ _ _ hs)) (.next (beginEntry_sound _ _ _ _ hs))

theorem execPowerCommitPoint_sound : Keeps s0 (execPowerCommitPoint s) := by
  unfold execPowerCommitPoint
  split
  · exact .idle hs
  · exact .ite (.idle hs) (.next (goQuiet_sound _ (hs.upd rfl)))

theorem execPowerEntryAbandon_sound : Keeps s0 (execPowerEntryAbandon s) := by
  unfold execPowerEntryAbandon
  split
  · exact .idle hs
  · exact .ite (.idle hs) (.next (dropEntry_sound _ (finishWith_sound _ _ _ _ hs)))

theorem execPowerEntryComplete_sound (lag : Nat) : Keeps s0 (execPowerEntryComplete lag s) := by
  have left : Sound s0 { s with power := { s.power with entry := none } } := hs.upd rfl
  unfold execPowerEntryComplete
  split
  · exact .idle hs
  · refine .ite (.idle hs) ?_
    dsimp only
    split
    · split
      · next done => exact .next (enterOff_sound _ _ (completeNow_sound _ _ _ _ left done))
      · exact .idle hs
    · exact .next (finishWith_sound _ _ _ _ (noteReached_sound _ (setPwr_sound _ _ (darken_sound _ left))))
    · exact .next (finishWith_sound _ _ _ _ (noteReached_sound _ (setPwr_sound _ _ left)))

theorem execPowerReturnComplete_sound : Keeps s0 (execPowerReturnComplete s) := by
  unfold execPowerReturnComplete
  split
  · exact .idle hs
  · refine .ite (.idle hs) ?_
    dsimp only
    split
    · exact .next (finishWith_sound _ _ _ _ (leaveQuiet_sound _ (setPwr_sound _ _ (touch_sound _ (hs.upd rfl)))))
    · exact .next (leaveQuiet_sound _ (setPwr_sound _ _ (touch_sound _ (hs.upd rfl))))

theorem execPowerSample_sound (watts : Nat) : Keeps s0 (execPowerSample watts s) := by
  unfold execPowerSample
  refine .ite (.idle hs) (.ite (.next (.when capUnmet_sound (engage_sound _ ?_))) (.next (Sound.upd (hs.upd rfl) rfl)))
  exact setMeter_sound _ _ (setDuty_sound _ _ _ (Sound.upd (hs.upd rfl) rfl))

theorem execCapLoopStep_sound (dies memories : List Draw) : Keeps s0 (execCapLoopStep dies memories s) := by
  unfold execCapLoopStep
  refine .ite (.idle hs) ?_
  refine .ite (.next (Sound.upd (hs.upd rfl) rfl)) ?_
  refine .ite (.next (capUnmet_sound _ (Sound.upd (hs.upd rfl) rfl))) ?_
  refine .ite (.next (Sound.upd (hs.upd rfl) rfl)) ?_
  refine .ite (.next (engage_sound _ (backstop_sound _ (Sound.upd (hs.upd rfl) rfl)))) ?_
  exact .next (engage_sound _ (lowerOne_sound _ _ (Sound.upd (hs.upd rfl) rfl)))

theorem execCapRaise_sound : Keeps s0 (execCapRaise s) := by
  unfold execCapRaise
  refine .ite (.idle hs) ?_
  refine .ite (.next (.raised (setPwr_sound _ _ (Sound.upd (Sound.upd (.either hs (raiseOne_sound _ hs)) rfl) rfl)))) ?_
  exact .next (Sound.upd (.either hs (raiseOne_sound _ hs)) rfl)

theorem execThermalThrottle_sound : Keeps s0 (execThermalThrottle s) := by
  unfold execThermalThrottle
  refine .ite (.idle hs) ?_
  split
  · exact .next (.either (.raised (hs.upd rfl)) (hs.upd rfl))
  · exact .ite (.idle hs) (.next (hs.upd rfl))

theorem execThermalTrip_sound (sensor : Nat) : Keeps s0 (execThermalTrip sensor s) := by
  unfold execThermalTrip
  split
  · exact .idle hs
  · refine .ite (.idle hs) ?_
    exact .ite (.next (thermalTrip_sound _ _ hs)) (.ite (.next (Sound.upd (logTrip_sound _ _ hs) rfl)) (.idle hs))

theorem execOvercurrent_sound (mA : Nat) : Keeps s0 (execOvercurrent mA s) := by
  unfold execOvercurrent
  refine .ite (.idle hs) ?_
  refine .ite (.next (Sound.upd (mainStop_sound _ _ _ (.raised (loseRing_sound _ hs))) rfl)) ?_
  exact .ite (.next (Sound.upd (.raised hs) rfl)) (.idle hs)

theorem execPumpOkChange_sound (level : Bool) (stable : Nat) : Keeps s0 (execPumpOkChange level stable s) :=
  .ite (.idle hs) (.next (hs.repin id rfl rfl rfl))

theorem execPumpLost_sound : Keeps s0 (execPumpLost s) :=
  .ite (.idle hs) (.next (setMeter_sound _ _ (setDuty_sound _ _ _ (.raised (hs.upd rfl)))))

theorem execPumpRestored_sound : Keeps s0 (execPumpRestored s) := by
  unfold execPumpRestored
  refine .ite (.idle hs) ?_
  exact .next (.either (.raised (hs.upd rfl)) (setMeter_sound _ _ (setDuty_sound _ _ _ (.raised (hs.upd rfl)))))

end Sys2Proof.Machine
end

section
/-!
The object dictionary, its messages and the links of the row fabric answer soundly.
-/
namespace Sys2Proof.Machine

variable {s0 s : State} (hs : Sound s0 s)
include hs

theorem execCounterClear_sound (path entry value : Nat) : Keeps s0 (execCounterClear path entry value s) :=
  .ite (.next (writeOne_sound _ _ _ _ _ hs)) (.idle hs)

theorem execDbgChallenge_sound (path : Nat) (fresh : List Byte) : Keeps s0 (execDbgChallenge path fresh s) :=
  .ite (.idle hs) (.ite (.next (drawChallenge_sound _ _ hs)) (.next (countStatus_sound _ _ hs)))

theorem execMailboxGo_sound (p : Port) (value : Nat) : Keeps s0 (execMailboxGo p value s) :=
  .ite (.next (mailboxGo_sound _ _ _ hs)) (.idle hs)

theorem execMbStatusClear_sound (p : Port) (value : Nat) : Keeps s0 (execMbStatusClear p value s) :=
  .ite (.next (mbStatusClear_sound _ _ _ hs)) (.idle hs)

theorem runOp_sound (op : Nat) (src : MsgSrc) : Keeps s0 (runOp op src s) := by
  unfold runOp
  split
  · exact .idle hs
  · exact .ite (.idle hs) (.next (takeMessage_sound _ _ hs))

theorem execMalformedMessage_sound (src : MsgSrc) (queueFull : Bool) : Keeps s0 (execMalformedMessage src queueFull s) := by
  unfold execMalformedMessage
  split
  · exact .idle hs
  · split
    · exact .ite (.next (bump_sound _ _ _ hs)) (.idle hs)
    · exact .ite (.next (takeMessage_sound _ _ hs)) (.idle hs)

theorem execNeighbourDiscovery_sound (message : NdMessage) : Keeps s0 (execNeighbourDiscovery message s) := by
  unfold execNeighbourDiscovery
  refine .ite (.idle hs) ?_
  split
  · exact .ite (.idle hs) (.next (.raised (hs.upd rfl)))
  · exact .ite (.next (advertise_sound _ _ hs)) (.idle hs)
  · exact .ite (.next (sendIcmp_sound _ _ _ _ hs)) (.idle hs)

theorem execPlcaBeaconChange_sound (seen : Bool) : Keeps s0 (execPlcaBeaconChange seen s) :=
  .ite (.idle hs) (.next (hs.upd rfl))

theorem execDapPathRelease_sound (path : Nat) : Keeps s0 (execDapPathRelease path s) :=
  .ite (.next (withPath_sound _ _ _ hs)) (.idle hs)

theorem execExpertUnlockExpiry_sound (path : Nat) : Keeps s0 (execExpertUnlockExpiry path s) := by
  unfold execExpertUnlockExpiry
  split
  · exact .idle hs
  · exact .ite (.next (withPath_sound _ _ _ hs)) (.idle hs)

theorem execSaveDone_sound (good : Bool) : Keeps s0 (execSaveDone good s) := by
  unfold execSaveDone
  split
  · exact .idle hs
  · exact .ite (.next (hs.upd rfl)) (.ite (.idle hs) (.next (.raised (hs.upd rfl))))

theorem execPortTrainingDone_sound (i : Nat) : Keeps s0 (execPortTrainingDone i s) :=
  .ite (.next (setFabPort_sound _ _ _ hs)) (.idle hs)

theorem execPortTrainingTimeout_sound (i : Nat) : Keeps s0 (execPortTrainingTimeout i s) :=
  .ite (.next (.raised (setFabPort_sound _ _ _ hs))) (.idle hs)

theorem execFecLockLost_sound (i cause : Nat) : Keeps s0 (execFecLockLost i cause s) :=
  .ite (.next (portDown_sound _ _ _ _ hs)) (.idle hs)

theorem execAck_sound (i : Nat) (l : LinkControl) : Keeps s0 (execAck i l s) := by
  unfold execAck
  split
  · exact .idle hs
  · next taken =>
    have kept := takeLc_sound _ _ _ hs taken
    exact .ite (.next (pump_sound _ _ (setFabPort_sound _ _ _ kept))) (.next (pump_sound _ _ kept))

theorem execNak_sound (i : Nat) (l : LinkControl) : Keeps s0 (execNak i l s) := by
  unfold execNak
  split
  · exact .idle hs
  · next taken => exact .next (pump_sound _ _ (bump_sound _ _ _ (setFabPort_sound _ _ _ (takeLc_sound _ _ _ hs taken))))

theorem execCredit_sound (i : Nat) (l : LinkControl) : Keeps s0 (execCredit i l s) := by
  unfold execCredit
  split
  · exact .idle hs
  · next taken => exact .next (pump_sound _ _ (takeLc_sound _ _ _ hs taken))

theorem execLinkControlSend_sound (i : Nat) : Keeps s0 (execLinkControlSend i s) :=
  .ite (.next (sendLc_sound _ _ _ _ _ _ hs)) (.idle hs)

theorem execTimeExchangeStart_sound (lag : Nat) : Keeps s0 (execTimeExchangeStart lag s) :=
  .ite (.next (sendLc_sound _ _ _ _ _ _ (hs.upd rfl))) (.idle hs)

theorem execTimeReq_sound (i : Nat) (l : LinkControl) (lagIn lagOut : Nat) : Keeps s0 (execTimeReq i l lagIn lagOut s) := by
  unfold execTimeReq
  split
  · exact .idle hs
  · next taken => exact .next (sendLc_sound _ _ _ _ _ _ (pump_sound _ _ (takeLc_sound _ _ _ hs taken)))

theorem execTimeRsp_sound (i : Nat) (l : LinkControl) (lag : Nat) : Keeps s0 (execTimeRsp i l lag s) := by
  unfold execTimeRsp
  split
  · exact .idle hs
  · next taken =>
    have pumped := pump_sound _ i (takeLc_sound _ _ _ hs taken)
    dsimp only
    split
    · exact .next pumped
    · refine .ite (.next pumped) ?_
      split
      · exact .next (.raised (pumped.upd rfl))
      · exact .ite (.next (.raised (pumped.upd rfl))) (.next (pumped.upd rfl))
      · exact .next (pumped.upd rfl)
      · exact .next (pumped.upd rfl)
      · exact .next (pumped.upd rfl)

theorem execTimeExchangeTimeout_sound : Keeps s0 (execTimeExchangeTimeout s) := by
  unfold execTimeExchangeTimeout
  split
  · exact .idle hs
  · exact .ite (.ite (.next (.raised (hs.upd rfl))) (.next (hs.upd rfl))) (.idle hs)

theorem passTime_sound (t : TimeBase) : Sound s0 (passTime s t) := runPasses_sound _ _ (hs.upd rfl)

theorem execTimeSlew_sound : Keeps s0 (execTimeSlew s) :=
  .ite (.idle hs) (.ite (.next (passTime_sound hs _)) (.next (passTime_sound hs _)))

end Sys2Proof.Machine
end

section
/-!
Registers, security and the TAP answer soundly.
-/
namespace Sys2Proof.Machine

variable {s0 s : State} (hs : Sound s0 s)
include hs

theorem execRegisterWrite_sound (p : Port) (bar off width value : Nat) :
    Keeps s0 (execRegisterWrite p bar off width value s) := by
  unfold execRegisterWrite
  refine .ite (.idle hs) (.ite (.next (regAccess_sound _ (fun _ _ _ => writeBar0_sound _ _ _ _) _ _ _ _ hs)) (.ite ?_ ?_))
  · refine .ite (.ite (.next (writeReq_sound _ _ _ _ _ hs)) (.idle hs)) (.next ?_)
    exact regAccess_sound _ (fun _ _ _ => writeBar2_sound _ _ _ _) _ _ _ _ hs
  · exact .ite (.next (writeCap_sound _ _ _ _ hs)) (.idle hs)

theorem execFwCommitCheckDone_sound (image : FwImage) : Keeps s0 (execFwCommitCheckDone image s) :=
  .ite (.next (commitImage_sound _ _ hs)) (.idle hs)

theorem execQuoteReady_sound : Keeps s0 (execQuoteReady s) := by
  unfold execQuoteReady
  split
  · exact .ite (.idle hs) (.next (hs.secure (Nat.le_refl _) (Nat.le_refl _) id))
  · exact .idle hs

theorem execDbgChallengeLapse_sound : Keeps s0 (execDbgChallengeLapse s) :=
  .ite (.next (hs.secure (Nat.le_refl _) (Nat.le_refl _) id)) (.idle hs)

theorem execIdeKeyManagement_sound (p : Port) (secure : Bool) : Keeps s0 (execIdeKeyManagement p secure s) :=
  .ite (.idle hs) (.next (refreshReady_sound _ (setPort_sound _ _ _ hs)))

theorem execIdeFailed_sound (p : Port) : Keeps s0 (execIdeFailed p s) :=
  .ite (.next (.raised (portResetOp_sound _ _ _ _ hs))) (.idle hs)

theorem execSpdmRequest_sound (p : Port) (authentic : Bool) : Keeps s0 (execSpdmRequest p authentic s) :=
  .ite (.idle hs) (.next (setPort_sound _ _ _ hs))

/-- An instruction of a live TAP takes the pins only if it is one of the three that do. -/
theorem setTap_sound (live : tapLive s = true) {i : TapInstr} {taken : Bool}
    (takes : taken = true → i = .extest ∨ i = .clamp ∨ i = .highz) (captured : Nat) :
    Sound s0 (setTap s i captured taken) := by
  have out : s.tap.inReset = false := by
    unfold tapLive at live
    simpa using (Bool.and_eq_true_iff.1 live).2
  exact hs.retap fun _ => ⟨fun reset => by simp [out] at reset, takes⟩

theorem takePins_sound {i : TapInstr} (takes : i = .extest ∨ i = .clamp ∨ i = .highz) : Keeps s0 (takePins s i) := by
  unfold takePins
  split
  · exact .idle hs
  · next live => exact .ite (.fault _) (.next (setTap_sound hs (by simpa using live) (fun _ => takes) _))

theorem execBypass_sound : Keeps s0 (execBypass s) := by
  unfold execBypass
  split
  · next live => exact .next (setTap_sound hs live (fun no => by cases no) _)
  · exact .idle hs

theorem execIdcode_sound : Keeps s0 (execIdcode s) := by
  unfold execIdcode
  split
  · next live => exact .next (setTap_sound hs live (fun no => by cases no) _)
  · exact .idle hs

theorem execSamplePreload_sound (captured preload : Nat) : Keeps s0 (execSamplePreload captured preload s) := by
  unfold execSamplePreload
  split
  · exact .idle hs
  · next live => exact .next ((setTap_sound hs (by simpa using live) (fun no => by cases no) _).retap id)

theorem execTapReset_sound (asserted : Bool) : Keeps s0 (execTapReset asserted s) :=
  .ite (.next (hs.retap fun _ => ⟨fun _ => ⟨rfl, rfl⟩, (fun taken => by cases taken)⟩))
    (.next (hs.retap fun ok => ⟨(fun reset => by cases reset), ok.2⟩))

end Sys2Proof.Machine
end

section
/-!
The queue of waiting commands: a command leaves it to the step, which takes away its front; with none waiting one ACLK cycle
passes (R187).
-/
namespace Sys2Proof.Machine

/-! ### Every command -/

/-- The commands that change what no other command can: straps are sampled, auxiliary power comes, the debug port opens. -/
def isSpecial : Instr → Bool
  | .strapSample | .auxPowerOn _ _ | .debugErasureDone => true
  | _ => false

/-- Every other command answers soundly. -/
theorem exec_sound {s0 s : State} (hs : Sound s0 s) (c : Instr) (plain : isSpecial c = false) : Keeps s0 (exec c s) := by
  cases c with
  | search => exact admitSearch_sound hs _ _ _ _ _
  | searchExact => exact admitSearch_sound hs _ _ _ _ _
  | fetch slot seq => exact execFetch_sound hs slot seq
  | insert => exact admitWrite_sound hs _ _ _
  | delete => exact admitWrite_sound hs _ _ _
  | upsert => exact admitWrite_sound hs _ _ _
  | encode => exact admitDense_sound hs _ _ _
  | encodeSearch slot seq lag => exact execEncodeSearch_sound hs slot seq lag
  | run => exact admitDense_sound hs _ _ _
  | tuneStep => exact admitDense_sound hs _ _ _
  | barrier slot seq => exact execBarrier_sound hs slot seq
  | snapshotPin slot seq pick => exact execSnapshotPin_sound hs slot seq pick
  | snapshotRelease slot seq => exact execSnapshotRelease_sound hs slot seq
  | createChannel slot seq => exact execCreateChannel_sound hs slot seq
  | destroyChannel => exact admitAbort_sound hs _ _ _
  | abortChannel => exact admitAbort_sound hs _ _ _
  | createIndex slot seq => exact execCreateIndex_sound hs slot seq
  | dropIndex slot seq => exact execDropIndex_sound hs slot seq
  | loadTablature slot seq => exact execLoadTablature_sound hs slot seq
  | setPowerState slot seq => exact execSetPowerState_sound hs slot seq
  | getLog slot seq unread => exact execGetLog_sound hs slot seq unread
  | mergeNow slot seq => exact execMergeNow_sound hs slot seq
  | retuneStart slot seq => exact execRetuneStart_sound hs slot seq
  | retuneCommit slot seq => exact execRetuneCommit_sound hs slot seq
  | sqDoorbell port slot value => exact execSqDoorbell_sound hs port slot value
  | cqDoorbell port slot value => exact execCqDoorbell_sound hs port slot value
  | adminCtrlWrite port value => exact execAdminCtrlWrite_sound hs port value
  | adminChannelEnable port => exact execAdminChannelEnable_sound hs port
  | registerWrite port bar off width value => exact execRegisterWrite_sound hs port bar off width value
  | commandFetchDone slot words => exact execCommandFetchDone_sound hs slot words
  | writeAccept slot seq lag => exact execWriteAccept_sound hs slot seq lag
  | writeApply idx stack pick payloadOk => exact execWriteApply_sound hs idx stack pick payloadOk
  | fetchAdmit slot seq => exact execFetchAdmit_sound hs slot seq
  | batchClose idx => exact execBatchClose_sound hs idx
  | epochPublish idx lag => exact execEpochPublish_sound hs idx lag
  | strumClose idx => exact execStrumClose_sound hs idx
  | sweepStart stack => exact execSweepStart_sound hs stack
  | sweepDone stack => exact execSweepDone_sound hs stack
  | searchStart tag core lag => exact execSearchStart_sound hs tag core lag
  | queryRegistrationDone tag => exact execQueryRegistrationDone_sound hs tag
  | walkPlace tag part core => exact execWalkPlace_sound hs tag part core
  | walkDescent tag part => exact execWalkDescent_sound hs tag part
  | expandRequest stack outcome => exact execExpandRequest_sound hs stack outcome
  | recordRebuild idx part slot => exact execRecordRebuild_sound hs idx part slot
  | expandResponse tag part pick lag => exact execExpandResponse_sound hs tag part pick lag
  | mergeListArrival tag pick lag headerOk => exact execMergeListArrival_sound hs tag pick lag headerOk
  | dieLastAccept tag die lag => exact execDieLastAccept_sound hs tag die lag
  | hubLastAccept tag lag => exact execHubLastAccept_sound hs tag lag
  | rerankDone tag bad => exact execRerankDone_sound hs tag bad
  | searchCut tag lag => exact execSearchCut_sound hs tag lag
  | searchDeadline tag lag => exact execSearchDeadline_sound hs tag lag
  | completionWrite => exact fun _ => execCompletionWrite_sound _ _ _ _ hs
  | intCoalesceExpiry slot => exact execIntCoalesceExpiry_sound hs slot
  | abortComplete slot => exact execAbortComplete_sound hs slot
  | channelFreed slot => exact execChannelFreed_sound hs slot
  | dropIndexFinish idx => exact execDropIndexFinish_sound hs idx
  | translationResponse slot seq acc answer => exact execTranslationResponse_sound hs slot seq acc answer
  | pageResponse slot seq acc resolved => exact execPageResponse_sound hs slot seq acc resolved
  | pageRequestTimeout slot seq acc => exact execPageRequestTimeout_sound hs slot seq acc
  | atsInvalidation port slot seq => exact execAtsInvalidation_sound hs port slot seq
  | mergeBatchStart idx part stack core => exact execMergeBatchStart_sound hs idx part stack core
  | mergeBatchDone idx part stack => exact execMergeBatchDone_sound hs idx part stack
  | repairScanStart idx part => exact execRepairScanStart_sound hs idx part
  | repairScanDone idx part pick => exact execRepairScanDone_sound hs idx part pick
  | lowWaterUpdate idx => exact execLowWaterUpdate_sound hs idx
  | entryRelease idx part stack => exact execEntryRelease_sound hs idx part stack
  | slotReclaim idx part slot => exact execSlotReclaim_sound hs idx part slot
  | pinExpire pin => exact execPinExpire_sound hs pin
  | retuneSampleTimeout idx => exact execRetuneSampleTimeout_sound hs idx
  | retuneFitDone idx => exact execRetuneFitDone_sound hs idx
  | retuneArm idx => exact execRetuneArm_sound hs idx
  | retunePassDone idx => exact execRetunePassDone_sound hs idx
  | retuneRetire idx => exact execRetuneRetire_sound hs idx
  | denseStart slot seq args inDir outDir => exact execDenseStart_sound hs slot seq args inDir outDir
  | lineIssue die => exact execLineIssue_sound hs die
  | macroStart die core unit => exact execMacroStart_sound hs die core unit
  | macroComplete die core unit => exact execMacroComplete_sound hs die core unit
  | barrierRelease slot seq => exact execBarrierRelease_sound hs slot seq
  | runComplete slot seq => exact execRunComplete_sound hs slot seq
  | descriptorBurstDone die stream data => exact execDescriptorBurstDone_sound hs die stream data
  | blockFetchDone die stream data bad present => exact execBlockFetchDone_sound hs die stream data bad present
  | blockWriteDone die stream present => exact execBlockWriteDone_sound hs die stream present
  | stallDetect die => exact execStallDetect_sound hs die
  | dieProgramAbort slot seq cause => exact execDieProgramAbort_sound hs slot seq cause
  | dieAbortDone slot seq => exact execDieAbortDone_sound hs slot seq
  | parityError place addr recovered => exact execParityError_sound hs place addr recovered
  | memUncorrectable place => exact execMemUncorrectable_sound hs place
  | hubReloadDone die => exact execHubReloadDone_sound hs die
  | fenceDecay => exact execFenceDecay_sound hs
  | reqTimeout kind => exact execReqTimeout_sound hs kind
  | read => exact runOp_sound hs _ _
  | write => exact runOp_sound hs _ _
  | describe => exact runOp_sound hs _ _
  | segRead => exact runOp_sound hs _ _
  | segWrite => exact runOp_sound hs _ _
  | dapPathRelease path => exact execDapPathRelease_sound hs path
  | expertUnlock => exact .next (writeOne_sound _ _ _ _ _ hs)
  | expertUnlockExpiry path => exact execExpertUnlockExpiry_sound hs path
  | save => exact .next (writeOne_sound _ _ _ _ _ hs)
  | saveDone good => exact execSaveDone_sound hs good
  | restoreDefaults => exact .next (writeOne_sound _ _ _ _ _ hs)
  | counterClear path entry value => exact execCounterClear_sound hs path entry value
  | statClear => exact .next (writeOne_sound _ _ _ _ _ hs)
  | fenceCore => exact .next (writeOne_sound _ _ _ _ _ hs)
  | fenceClear => exact .next (writeOne_sound _ _ _ _ _ hs)
  | tabUnload => exact .next (writeOne_sound _ _ _ _ _ hs)
  | corePart => exact .next (writeOne_sound _ _ _ _ _ hs)
  | kernelCode => exact .next (writeOne_sound _ _ _ _ _ hs)
  | logAck => exact .next (writeOne_sound _ _ _ _ _ hs)
  | powerOn => exact .next (writeOne_sound _ _ _ _ _ hs)
  | resetRequest => exact .next (writeOne_sound _ _ _ _ _ hs)
  | portEnable => exact .next (writeOne_sound _ _ _ _ _ hs)
  | timeMaster => exact .next (writeOne_sound _ _ _ _ _ hs)
  | timeParentPort => exact .next (writeOne_sound _ _ _ _ _ hs)
  | fwUpdData => exact .next (writeOne_sound _ _ _ _ _ hs)
  | fwUpdCommit => exact .next (writeOne_sound _ _ _ _ _ hs)
  | fwCommitCheckDone image => exact execFwCommitCheckDone_sound hs image
  | attNonce => exact .next (writeOne_sound _ _ _ _ _ hs)
  | quoteReady => exact execQuoteReady_sound hs
  | dbgChallenge path fresh => exact execDbgChallenge_sound hs path fresh
  | dbgChallengeLapse => exact execDbgChallengeLapse_sound hs
  | dbgToken => exact .next (writeOne_sound _ _ _ _ _ hs)
  | debugErasureDone => cases plain
  | dbgClose => exact .next (writeOne_sound _ _ _ _ _ hs)
  | ideKeyManagement port secure => exact execIdeKeyManagement_sound hs port secure
  | ideFailed port => exact execIdeFailed_sound hs port
  | bypass => exact execBypass_sound hs
  | idcode => exact execIdcode_sound hs
  | samplePreload captured preload => exact execSamplePreload_sound hs captured preload
  | extest => exact takePins_sound hs (.inl rfl)
  | clamp => exact takePins_sound hs (.inr (.inl rfl))
  | highz => exact takePins_sound hs (.inr (.inr rfl))
  | portTrainingDone port => exact execPortTrainingDone_sound hs port
  | portTrainingTimeout port => exact execPortTrainingTimeout_sound hs port
  | fecLockLost port cause => exact execFecLockLost_sound hs port cause
  | query => exact onFrame_sound hs (queryArrives_sound _) _ _ _
  | list => exact onFrame_sound hs (listArrives_sound _) _ _ _
  | rowList port rx => exact execRowList_sound hs port rx
  | cancel => exact onFrame_sound hs cancelArrives_sound _ _ _
  | fabricLastAccept tag lag => exact execFabricLastAccept_sound hs tag lag
  | ack port lc => exact execAck_sound hs port lc
  | nak port lc => exact execNak_sound hs port lc
  | credit port lc => exact execCredit_sound hs port lc
  | linkControlSend port => exact execLinkControlSend_sound hs port
  | timeExchangeStart lag => exact execTimeExchangeStart_sound hs lag
  | timeReq port lc lagIn lagOut => exact execTimeReq_sound hs port lc lagIn lagOut
  | timeRsp port lc lag => exact execTimeRsp_sound hs port lc lag
  | timeExchangeTimeout => exact execTimeExchangeTimeout_sound hs
  | timeSlew => exact execTimeSlew_sound hs
  | auxPowerOn => cases plain
  | strapSample => cases plain
  | auxPowerLoss => exact execAuxPowerLoss_sound hs
  | pwrEnRise stable => exact execPwrEnRise_sound hs stable
  | pwrEnFall stable => exact execPwrEnFall_sound hs stable
  | mainStartStepDone failedCores => exact execMainStartStepDone_sound hs failedCores
  | startupFailed unit stackOk farOk => exact execStartupFailed_sound hs unit stackOk farOk
  | perstNAssert stable => exact execPerstNAssert_sound hs stable
  | perstNRelease stable => exact execPerstNRelease_sound hs stable
  | portReset port cause => exact execPortReset_sound hs port cause
  | linkUp port => exact execLinkUp_sound hs port
  | powerSample watts => exact execPowerSample_sound hs watts
  | capLoopStep dies memories => exact execCapLoopStep_sound hs dies memories
  | capRaise => exact execCapRaise_sound hs
  | thermalThrottle => exact execThermalThrottle_sound hs
  | thermalTrip sensor => exact execThermalTrip_sound hs sensor
  | overcurrent mA => exact execOvercurrent_sound hs mA
  | pumpOkChange level stable => exact execPumpOkChange_sound hs level stable
  | pumpLost => exact execPumpLost_sound hs
  | pumpRestored => exact execPumpRestored_sound hs
  | powerCommitPoint => exact execPowerCommitPoint_sound hs
  | powerEntryAbandon => exact execPowerEntryAbandon_sound hs
  | powerEntryComplete lag => exact execPowerEntryComplete_sound hs lag
  | powerReturnComplete => exact execPowerReturnComplete_sound hs
  | bufferReadDone slot seq buf data => exact execBufferReadDone_sound hs slot seq buf data
  | exactSweepDone tag stack bad => exact execExactSweepDone_sound hs tag stack bad
  | searchMeterToken => exact execSearchMeterToken_sound hs
  | regBucketRefill die => exact execRegBucketRefill_sound hs die
  | temperatureChange => exact .next (endTrip_sound _ (noteCool_sound _ (hs.upd rfl)))
  | auxStartupDone => exact execAuxStartupDone_sound hs
  | mailboxGo port value => exact execMailboxGo_sound hs port value
  | mbStatusClear port value => exact execMbStatusClear_sound hs port value
  | malformedMessage src queueFull => exact execMalformedMessage_sound hs src queueFull
  | neighbourDiscovery message => exact execNeighbourDiscovery_sound hs message
  | plcaBeaconChange seen => exact execPlcaBeaconChange_sound hs seen
  | badFrame port rx => exact execBadFrame_sound hs port rx
  | spdmRequest port authentic => exact execSpdmRequest_sound hs port authentic
  | tapReset asserted => exact execTapReset_sound hs asserted

/-! ### The three others leave the queue too -/

theorem pending_openDebug (s : State) : (openDebug s).pending = s.pending := by
  unfold openDebug
  dsimp only
  split
  · rfl
  · split
    · exact (warmRestart_sound _ _ (.refl _)).queue
    · exact (resetPorts_sound _ _ _ (.refl _)).queue

section
variable {s t : State}

theorem pending_of_execStrapSample (answer : execStrapSample s = .next t) : t.pending = s.pending := by
  unfold execStrapSample at answer
  split at answer
  · exact Host.Outcome.next.inj answer ▸ rfl
  · exact Host.Outcome.next.inj answer ▸ rfl

theorem pending_of_execAuxPowerOn {modId : Nat} {split : Bool} (answer : execAuxPowerOn modId split s = .next t) :
    t.pending = s.pending := by
  unfold execAuxPowerOn at answer
  split at answer
  · exact Host.Outcome.next.inj answer ▸ rfl
  · exact Host.Outcome.next.inj answer ▸ rfl

theorem pending_of_execDebugErasureDone (answer : execDebugErasureDone s = .next t) : t.pending = s.pending := by
  unfold execDebugErasureDone at answer
  split at answer
  · exact Host.Outcome.next.inj answer ▸ (pending_openDebug (erase s)).trans (erase_sound s (.refl s)).queue
  · exact Host.Outcome.next.inj answer ▸ rfl

theorem pending_of_special {c : Instr} (special : isSpecial c = true) (answer : exec c s = .next t) :
    t.pending = s.pending := by
  cases c with
  | strapSample => exact pending_of_execStrapSample answer
  | auxPowerOn => exact pending_of_execAuxPowerOn answer
  | debugErasureDone => exact pending_of_execDebugErasureDone answer
  | _ => cases special

theorem pending_of_exec {c : Instr} (answer : exec c s = .next t) : t.pending = s.pending := by
  cases special : isSpecial c with
  | false => exact (exec_sound (.refl s) c special t answer).queue
  | true => exact pending_of_special special answer

end

/-! ### One ACLK cycle (R20, R187) -/

/-- The time base and the tick one ACLK cycle later. -/
def nextCycle (t : TimeBase) : TimeBase := { t with base := t.base + 40, tick := t.tick + 40 }

theorem tickAclk_of_aux {s : State} (aux : s.pins.aux = true) : tickAclk s = passTime s (nextCycle s.time) := if_pos aux

theorem tickAclk_sound (s : State) : Sound s (tickAclk s) := .either (passTime_sound (.refl s) _) (.refl s)

theorem step_of_empty {s : State} (empty : s.pending = []) : step s = .next (tickAclk s) := by
  simp [step, empty]

theorem step_of_waiting {s : State} {c : Instr} {rest : List Instr} (waits : s.pending = c :: rest) :
    step s = exec c { s with pending := rest } := by
  simp [step, waits]

theorem commandsLeaveTheQueueToTheStep : Claims.CommandsLeaveTheQueueToTheStep := by
  refine ⟨fun c s t => pending_of_exec, fun s t answer => ?_⟩
  cases queue : s.pending with
  | nil =>
    rw [step_of_empty queue] at answer
    rw [← Host.Outcome.next.inj answer, (tickAclk_sound s).queue, queue]
    rfl
  | cons c rest =>
    rw [step_of_waiting queue] at answer
    exact pending_of_exec answer

theorem look_map (f : α → β) (l : List (Nat × α)) (k : Nat) :
    look (l.map fun x => (x.1, f x.2)) k = (look l k).map f := by
  induction l with
  | nil => rfl
  | cons p r ih =>
    rw [List.map_cons, look_cons, look_cons, ih]
    split <;> rfl

theorem indexAt_passTime (s : State) (t : TimeBase) (i : Nat) :
    indexAt (passTime s t) i = (indexAt s i).map (runPass s { s with time := t }) := look_map ..

/-- A pass under way changes the parts of an index or its sketch table, as it is the second or the first. -/
theorem passSlots_kept (x : Index) (b : CodeVer) (lo hi : Nat) :
    passSlots x b lo hi = { x with
      parts := (passSlots x b lo hi).parts, retune := { x.retune with table := (passSlots x b lo hi).retune.table } }
    ∧ (x.retune.state = .pass1 → (passSlots x b lo hi).parts = x.parts)
    ∧ (x.retune.state = .pass2 → (passSlots x b lo hi).retune = x.retune) := by
  unfold passSlots
  dsimp only
  split
  · next state => exact ⟨rfl, fun _ => rfl, fun other => by rw [state] at other; cases other⟩
  · next state => exact ⟨rfl, fun other => (by rw [state] at other; cases other), fun _ => rfl⟩
  · exact ⟨rfl, fun _ => rfl, fun _ => rfl⟩

theorem runPass_of_no_pass (s t : State) {x : Index} (none_ : inPass x.retune = false) : runPass s t x = x := by
  unfold runPass
  split
  · rfl
  · simp [none_]

theorem runPass_kept (s t : State) (x : Index) :
    runPass s t x = { x with
      parts := (runPass s t x).parts, retune := { x.retune with table := (runPass s t x).retune.table } }
    ∧ (x.retune.state = .pass1 → (runPass s t x).parts = x.parts)
    ∧ (x.retune.state = .pass2 → (runPass s t x).retune = x.retune) := by
  unfold runPass
  split
  · exact ⟨rfl, fun _ => rfl, fun _ => rfl⟩
  · split
    · exact passSlots_kept ..
    · exact ⟨rfl, fun _ => rfl, fun _ => rfl⟩

theorem emptyQueueLetsOneAclkCyclePass : Claims.EmptyQueueLetsOneAclkCyclePass := by
  intro s empty aux
  refine ⟨passTime s (nextCycle s.time), by rw [step_of_empty empty, tickAclk_of_aux aux], rfl, rfl, fun i x at_ => ?_⟩
  obtain ⟨kept, first, second⟩ := runPass_kept s { s with time := nextCycle s.time } x
  exact ⟨_, by rw [indexAt_passTime, at_, Option.map_some], kept, runPass_of_no_pass _ _, first, second⟩

/-- Settles O2: of the commands, all but three answer soundly, and those three leave the queue as it was. -/
theorem emptyQueueLetsACycleAndQueueIsFifo : Obligations.EmptyQueueLetsACycleAndQueueIsFifo :=
  ⟨emptyQueueLetsOneAclkCyclePass, commandsLeaveTheQueueToTheStep⟩

end Sys2Proof.Machine
end

section
/-!
What the operations of the dense unit leave of the runs: which parts of a sequencer the streams, the requests and the counts of
waits may change, and what every one of them keeps.
-/
namespace Sys2Proof.Machine

/-! ### The parts of a run that only its lines and its control change -/

/-- A run with every sequencer seen through `f`. -/
def onSeqs (f : DieSeq → DieSeq) (r : Run) : Run := { r with dies := r.dies.map fun d => (d.1, f d.2) }

/-- An operation without the progress of its transfer. -/
def plainMacro (m : Macro) : Macro := { m with got := 0, parts := [], read := [] }

/-- A sequencer without what its streams, its bucket and the counts of its waits hold. -/
def seqPart (q : DieSeq) : DieSeq :=
  { q with macros := q.macros.map plainMacro, streams := [], bursts := [], burstAt := [], turn := 0, bucket := 0, refilled := 0,
           poolSince := none, ready := none, stashFrom := 0, progress := 0, advanced := 0 }

/-- A sequencer without the time at which its next line could issue. -/
def unready (q : DieSeq) : DieSeq := { q with ready := none }

/-- A run as far as its streams do not change it. -/
def programOf (r : Run) : Run := { onSeqs seqPart r with poison := false }

/-- The programs of the runs that are under way. -/
def programs (s : State) : List Run := s.dense.runs.map programOf

/-! ### States as seen through what an operation keeps -/

/-- What the stream operations keep: all outside the dense unit, and the programs. -/
def shell (s : State) : State := { s with dense := { runs := programs s }, ctr := [] }

/-- What the counts of waits keep: all but the runs, and the programs. -/
def waitShell (s : State) : State := { s with dense := { s.dense with runs := programs s }, ctr := [] }

/-- What the slots of a line keep: all outside the dense unit, which dies the runs have, and the number of lines issued. -/
def slotShell (s : State) : State :=
  { s with dense := { runs := s.dense.runs.map (onSeqs fun _ => {}) }, ctr := [(0x50, counter s 0x50)], log := {} }

/-- What no line, transfer or count changes. -/
def beyondDense (s : State) : State := { s with dense := {}, ctr := [], log := {} }

/-- What is kept when a line is noted as ready: all but the times of readiness. -/
def readyShell (s : State) : State := { s with dense := { s.dense with runs := s.dense.runs.map (onSeqs unready) } }

theorem eq_of_shell {s t : State} (h : shell t = shell s) : t = { s with dense := t.dense, ctr := t.ctr } :=
  congrArg (fun u : State => { u with dense := t.dense, ctr := t.ctr }) h

theorem eq_of_beyondDense {s t : State} (h : beyondDense t = beyondDense s) :
    t = { s with dense := t.dense, ctr := t.ctr, log := t.log } :=
  congrArg (fun u : State => { u with dense := t.dense, ctr := t.ctr, log := t.log }) h

theorem beyondDense_of_slotShell {s t : State} (h : slotShell t = slotShell s) : beyondDense t = beyondDense s :=
  congrArg (fun u : State => { u with dense := {}, ctr := [], log := {} }) h

theorem eq_of_readyShell {s t : State} (h : readyShell t = readyShell s) :
    t = { s with dense := { s.dense with runs := t.dense.runs } } :=
  congrArg (fun u : State => { u with dense := { u.dense with runs := t.dense.runs } }) h

theorem programs_of_shell {s t : State} (h : shell t = shell s) : programs t = programs s := congrArg (·.dense.runs) h

theorem programs_of_waitShell {s t : State} (h : waitShell t = waitShell s) : programs t = programs s :=
  congrArg (·.dense.runs) h

/-- What every step of a fold keeps, the fold keeps. -/
theorem foldl_kept {α β σ : Type} {g : σ → β} {f : σ → α → σ} {l : List α} {s : σ} (h : ∀ s a, g (f s a) = g s) :
    g (l.foldl f s) = g s := by
  induction l generalizing s with
  | nil => rfl
  | cons a r ih => exact ih.trans (h s a)

/-! ### Changes of runs and of sequencers -/

theorem onSeqs_alter {f g : DieSeq → DieSeq} (h : ∀ q, f (g q) = f q) (r : Run) (die : Nat) :
    onSeqs f { r with dies := alter r.dies die g } = onSeqs f r := by
  simp only [onSeqs, alter, List.map_map, Run.mk.injEq, true_and, and_true]
  refine List.map_congr_left fun d _ => ?_
  dsimp only [Function.comp]
  split <;> simp [h]

theorem map_runs_withRunOf {v : Run → Run} {g : Run → Run} (h : ∀ r, v (g r) = v r) (s : State) (die : Nat) :
    (withRunOf s die g).dense.runs.map v = s.dense.runs.map v := by
  simp only [withRunOf, List.map_map]
  refine List.map_congr_left fun r _ => ?_
  dsimp only [Function.comp]
  split <;> simp [h]

theorem programOf_alter {g : DieSeq → DieSeq} (h : ∀ q, seqPart (g q) = seqPart q) (r : Run) (die : Nat) :
    programOf { r with dies := alter r.dies die g } = programOf r :=
  congrArg (fun r : Run => { r with poison := false }) (onSeqs_alter h r die)

theorem shell_withRunOf {s : State} {die : Nat} {g : Run → Run} (h : ∀ r, programOf (g r) = programOf r) :
    shell (withRunOf s die g) = shell s :=
  congrArg (fun l => { s with dense := { runs := l }, ctr := [] }) (map_runs_withRunOf h s die)

theorem shell_withDie {s : State} {die : Nat} {g : DieSeq → DieSeq} (h : ∀ q, seqPart (g q) = seqPart q) :
    shell (withDie s die g) = shell s := shell_withRunOf (programOf_alter h · die)

theorem waitShell_withDie {s : State} {die : Nat} {g : DieSeq → DieSeq} (h : ∀ q, seqPart (g q) = seqPart q) :
    waitShell (withDie s die g) = waitShell s :=
  congrArg (fun l => { s with dense := { s.dense with runs := l }, ctr := [] }) (map_runs_withRunOf (programOf_alter h · die) s die)

theorem readyShell_withDie {s : State} {die : Nat} {g : DieSeq → DieSeq} (h : ∀ q, unready (g q) = unready q) :
    readyShell (withDie s die g) = readyShell s :=
  congrArg (fun l => { s with dense := { s.dense with runs := l } }) (map_runs_withRunOf (onSeqs_alter h · die) s die)

@[simp] theorem slotShell_withDie (s : State) (die : Nat) (g : DieSeq → DieSeq) :
    slotShell (withDie s die g) = slotShell s :=
  congrArg (fun l => { s with dense := { runs := l }, ctr := [(0x50, counter s 0x50)], log := {} })
    (map_runs_withRunOf (onSeqs_alter (f := fun _ => {}) (g := g) (fun _ => rfl) · die) s die)

/-! ### Runs and sequencers as the shells show them -/

theorem find_programs_die (s : State) (die : Nat) :
    (programs s).find? (fun r => r.dies.any (fun p => p.1 == die)) = (runOfDie s die).map programOf := by
  rw [programs, List.find?_map]
  refine congrArg (Option.map programOf) (congrArg (List.find? · s.dense.runs) (funext fun r => ?_))
  exact List.any_map

/-- A run that is seen through `v` is found there under its command. -/
theorem runOf_of_map {v : Run → Run} (names : ∀ r, (v r).slot = r.slot ∧ (v r).seq = r.seq) {s t : State}
    (h : t.dense.runs.map v = s.dense.runs.map v) {slot seq : Nat} {r : Run} (run : runOf s slot seq = some r) :
    ∃ r', runOf t slot seq = some r' ∧ v r' = v r := by
  have found (u : State) : (u.dense.runs.map v).find? (fun r => r.slot == slot && r.seq == seq) = (runOf u slot seq).map v := by
    rw [List.find?_map, runOf]
    exact congrArg (fun p => (u.dense.runs.find? p).map v) (funext fun r => by simp [names])
  have same := found t
  rw [h, found, run, Option.map_some] at same
  exact Option.map_eq_some_iff.1 same.symm

/-- The run of a command is still there, with its program. -/
theorem runOf_of_programs {s t : State} (h : programs t = programs s) {slot seq : Nat} {r : Run}
    (run : runOf s slot seq = some r) : ∃ r', runOf t slot seq = some r' ∧ programOf r' = programOf r :=
  runOf_of_map (v := programOf) (fun _ => ⟨rfl, rfl⟩) h run

theorem runOf_names {s : State} {slot seq : Nat} {r : Run} (run : runOf s slot seq = some r) : r.slot = slot ∧ r.seq = seq := by
  have is := List.find?_some run
  simpa using is

theorem seqPart_dieSeq_eq (s : State) (die : Nat) : seqPart (dieSeq s die)
    = (((runOfDie s die).map programOf).bind fun r => look r.dies die).getD {} := by
  unfold dieSeq
  cases runOfDie s die with
  | none => rfl
  | some r =>
    simp only [Option.bind_some, Option.map_some, programOf, onSeqs, look_map]
    cases look r.dies die <;> rfl

theorem seqPart_dieSeq {s t : State} (h : programs t = programs s) (die : Nat) :
    seqPart (dieSeq t die) = seqPart (dieSeq s die) := by
  rw [seqPart_dieSeq_eq, seqPart_dieSeq_eq, ← find_programs_die, ← find_programs_die, h]

theorem macroOn_seqPart (q : DieSeq) (c : Nat) (u : ExecUnit) :
    macroOn (seqPart q) c u = (macroOn q c u).map plainMacro := List.find?_map

theorem macroOn_plain {s t : State} (h : programs t = programs s) (die c : Nat) (u : ExecUnit) :
    (macroOn (dieSeq t die) c u).map plainMacro = (macroOn (dieSeq s die) c u).map plainMacro := by
  rw [← macroOn_seqPart, ← macroOn_seqPart, seqPart_dieSeq h]

theorem macroOn_none {s t : State} (h : programs t = programs s) {die c : Nat} {u : ExecUnit}
    (free : macroOn (dieSeq s die) c u = none) : macroOn (dieSeq t die) c u = none := by
  have same := macroOn_plain h die c u
  rw [free, Option.map_none] at same
  exact Option.map_eq_none_iff.1 same

/-- The first element of a kind, once all of that kind have changed and stayed of it. -/
theorem find_map_ite {α : Type} {p : α → Bool} {g : α → α} (h : ∀ x, p x = true → p (g x) = true) (l : List α) :
    (l.map fun x => if p x = true then g x else x).find? p = (l.find? p).map g := by
  induction l with
  | nil => rfl
  | cons x r ih =>
    cases has : p x with
    | true => simp [has, h x has]
    | false => simpa [has] using ih

theorem runOf_withRun {g : Run → Run} (h : ∀ r, (g r).slot = r.slot ∧ (g r).seq = r.seq) (s : State) (slot seq : Nat) :
    runOf (withRun s slot seq g) slot seq = (runOf s slot seq).map g :=
  find_map_ite (fun r is => by rw [(h r).1, (h r).2]; exact is) _

theorem runOfDie_withDie (s : State) (die : Nat) (g : DieSeq → DieSeq) :
    runOfDie (withDie s die g) die = (runOfDie s die).map fun r => { r with dies := alter r.dies die g } :=
  find_map_ite (p := fun r : Run => r.dies.any (fun p => p.1 == die)) (fun r is => by
    simp only [alter, List.any_map, List.any_eq_true] at is ⊢
    obtain ⟨d, member, key⟩ := is
    exact ⟨d, member, by simpa [Function.comp, apply_ite] using key⟩) _

/-- A die that runs has the changed sequencer. -/
theorem dieSeq_withDie {s : State} {die : Nat} {r : Run} (run : runOfDie s die = some r) (g : DieSeq → DieSeq) :
    dieSeq (withDie s die g) die = g (dieSeq s die) := by
  have has : (look r.dies die).isSome := by
    have is := List.find?_some run
    rw [look, Option.isSome_map, List.find?_isSome]
    exact List.any_eq_true.1 is
  obtain ⟨q, at_⟩ := Option.isSome_iff_exists.1 has
  simp [dieSeq, runOfDie_withDie, run, at_]

theorem find_filter_not {α : Type} {p : α → Bool} (l : List α) : (l.filter fun x => !(p x)).find? p = none := by
  rw [List.find?_eq_none]
  intro x left is
  have gone := (List.mem_filter.1 left).2
  rw [is] at gone
  cases gone

/-- A unit whose operation is taken away is free, whether its die runs or not. -/
theorem macroOn_dropMacro (s : State) (die c : Nat) (u : ExecUnit) :
    macroOn (dieSeq (dropMacro s die c u) die) c u = none := by
  cases run : runOfDie s die with
  | none => simp [dieSeq, dropMacro, runOfDie_withDie, run, macroOn]
  | some r =>
    rw [dropMacro, dieSeq_withDie run]
    exact find_filter_not _

end Sys2Proof.Machine
end
section
/-!
What the streams, the requests and the transfers of a die leave: the state outside the dense unit, and every program.
-/
namespace Sys2Proof.Machine

/-! ### Updates of one part -/

@[simp] theorem shell_bump (s : State) (sub n : Nat) : shell (bump s sub n) = shell s := rfl
@[simp] theorem shell_setCore (s : State) (die c : Nat) (k : Core) : shell (setCore s die c k) = shell s := rfl
@[simp] theorem shell_noteShared (s : State) (die : Nat) : shell (noteShared s die) = shell s := rfl

@[simp] theorem shell_withStash (s : State) (die n : Nat) (f : StashState → StashState) :
    shell (withStash s die n f) = shell s := by
  unfold withStash withTabOfDie
  split <;> rfl

@[simp] theorem shell_withStream (s : State) (die n : Nat) (f : StreamSt → StreamSt) :
    shell (withStream s die n f) = shell s := shell_withDie fun _ => rfl

theorem shell_withMacro {f : Macro → Macro} {s : State} {die c : Nat} {u : ExecUnit}
    (h : ∀ m, plainMacro (f m) = plainMacro m) :
    shell (withMacro s die c u f) = shell s := by
  refine shell_withDie fun q => ?_
  simp only [seqPart, List.map_map, DieSeq.mk.injEq, true_and, and_true]
  refine List.map_congr_left fun m _ => ?_
  dsimp only [Function.comp]
  split <;> simp [h]

/-! ### Requests (R321, R322) -/

@[simp] theorem shell_noteLimit (s : State) (core : Nat) : shell (noteLimit s core) = shell s := by
  unfold noteLimit
  split <;> rfl

@[simp] theorem shell_putBucket (s : State) (die : Nat) (b : Int) : shell (putBucket s die b) = shell s := by
  unfold putBucket
  split
  · rfl
  · exact shell_withDie fun _ => rfl

@[simp] theorem shell_withReqs (s : State) (l : List Reqs) : shell { s with dense := { s.dense with reqs := l } } = shell s := rfl

@[simp] theorem shell_issueReqs (s : State) (core : Nat) : shell (issueReqs s core) = shell s := by simp [issueReqs]

@[simp] theorem shell_beginReqs (s : State) (core : Nat) (o : ReqOwner) (todo : List (Nat × Nat)) :
    shell (beginReqs s core o todo) = shell s := by
  unfold beginReqs
  split
  · rfl
  · simp

@[simp] theorem shell_endReqs (s : State) (o : ReqOwner) : shell (endReqs s o) = shell s := by
  unfold endReqs
  split
  · rfl
  · simp

@[simp] theorem shell_dropReqs (s : State) (die : Nat) : shell (dropReqs s die) = shell s := by
  refine foldl_kept fun u r => ?_
  split
  · split
    · exact shell_endReqs ..
    · rfl
  · rfl

/-! ### Blocks (R313-R318) -/

@[simp] theorem shell_releaseBlock (s : State) (die n : Nat) (b : Block) : shell (releaseBlock s die n b) = shell s := by
  unfold releaseBlock
  dsimp only
  split <;> simp

@[simp] theorem shell_freeTags (s : State) (die n : Nat) : shell (freeTags s die n) = shell s := by
  unfold freeTags
  dsimp only
  rw [shell_withStream]
  exact foldl_kept fun u w => shell_withStash ..

@[simp] theorem shell_takeBytes (s : State) (die n : Nat) (b : Block) (reader k : Nat) :
    shell (takeBytes s die n b reader k) = shell s := by
  unfold takeBytes
  dsimp only
  split <;> simp

/-- What every step of a fold that may fail keeps, the fold keeps. -/
theorem foldl_bind_kept {α β σ : Type} {g : σ → β} {c : β} {f : σ → α → Option σ} (h : ∀ s a t, f s a = some t → g t = g s)
    (l : List α) {o : Option σ} (start : ∀ s, o = some s → g s = c) {t : σ}
    (e : l.foldl (fun o a => o.bind fun s => f s a) o = some t) : g t = c := by
  induction l generalizing o with
  | nil => exact start t e
  | cons a r ih =>
    refine ih (fun u step => ?_) e
    obtain ⟨s, reached, taken⟩ := Option.bind_eq_some_iff.1 step
    exact (h s a u taken).trans (start s reached)

theorem shell_outBuffer {s t : State} {die n no : Nat} (e : outBuffer s die n no = some t) : shell t = shell s := by
  refine foldl_bind_kept (fun u x v f => ?_) _ (fun u same => congrArg shell (Option.some.inj same).symm) e
  obtain ⟨sh, -, rfl⟩ := Option.map_eq_some_iff.1 f
  simp

@[simp] theorem shell_assignXfers (s : State) (die n : Nat) : shell (assignXfers s die n) = shell s := by
  unfold assignXfers
  dsimp only
  refine (foldl_kept fun u p => ?_).trans (shell_withStream ..)
  split
  · rfl
  · exact shell_withMacro fun _ => rfl

@[simp] theorem shell_pullMacro (fuel : Nat) (s : State) (die core : Nat) : shell (pullMacro fuel s die core) = shell s := by
  induction fuel generalizing s with
  | zero => rfl
  | succ k ih =>
    unfold pullMacro
    split
    · rfl
    · dsimp only
      split
      · rfl
      · split
        · split
          · rfl
          · split
            · rfl
            · next filled =>
              rw [ih, shell_withMacro, shell_withStream, shell_outBuffer filled]
              exact fun _ => rfl
        · split
          · rfl
          · split
            · rfl
            · rw [ih, shell_withMacro, shell_takeBytes, shell_setCore]
              exact fun _ => rfl

@[simp] theorem shell_linkPush (fuel : Nat) (s : State) (die from_ n : Nat) : shell (linkPush fuel s die from_ n) = shell s := by
  induction fuel generalizing s with
  | zero => rfl
  | succ k ih =>
    unfold linkPush
    split
    · rfl
    · dsimp only
      rw [ih]
      split
      · simp
      · rw [shell_withRunOf, shell_withStream, shell_withStream]
        exact fun _ => rfl

@[simp] theorem shell_linkAll (s : State) (die : Nat) : shell (linkAll s die) = shell s :=
  foldl_kept fun _ _ => shell_linkPush ..

@[simp] theorem shell_beginMove (s : State) (die n len ver : Nat) (v : Move) : shell (beginMove s die n len ver v) = shell s := by
  simp [beginMove]

@[simp] theorem shell_beginBlocks (s : State) (die : Nat) : shell (beginBlocks s die) = shell s := by
  refine foldl_kept fun u n => ?_
  dsimp only
  split
  · rfl
  · split <;> split <;> simp

@[simp] theorem seqPart_beginBursts (now : Nat) (t : Tablature) (q : DieSeq) : seqPart (beginBursts now t q) = seqPart q := by
  refine foldl_kept fun q n => ?_
  split <;> rfl

@[simp] theorem shell_notePool (s : State) (die : Nat) : shell (notePool s die) = shell s := by
  unfold notePool
  split
  · exact shell_withDie fun _ => rfl
  · rw [shell_bump]
    exact shell_withDie fun _ => rfl
  · rfl

@[simp] theorem shell_settle (s : State) (die : Nat) : shell (settle s die) = shell s := by
  simp [settle, shell_withDie (seqPart_beginBursts _ _)]

@[simp] theorem shell_pullAll (s : State) (die : Nat) : shell (pullAll s die) = shell s := by
  unfold pullAll
  dsimp only
  rw [shell_settle, foldl_kept (fun _ _ => shell_pullMacro ..), foldl_kept (fun _ _ => shell_assignXfers ..)]

/-! ### Readiness and waits (R236, R301, R318, R322) -/

/-- Noting a line as ready changes the time of readiness of its die, or nothing. -/
theorem noteReady_eq (s : State) (die : Nat) :
    noteReady s die = s ∨ noteReady s die = withDie s die (fun q => { q with ready := some (dieClock s die) }) := by
  unfold noteReady
  split
  · exact .inl rfl
  · split
    · exact .inr rfl
    · exact .inl rfl

@[simp] theorem shell_noteReady (s : State) (die : Nat) : shell (noteReady s die) = shell s := by
  obtain eq | eq := noteReady_eq s die <;> rw [eq]
  exact shell_withDie fun _ => rfl

@[simp] theorem readyShell_noteReady (s : State) (die : Nat) : readyShell (noteReady s die) = readyShell s := by
  obtain eq | eq := noteReady_eq s die <;> rw [eq]
  exact readyShell_withDie fun _ => rfl

@[simp] theorem slotShell_noteReady (s : State) (die : Nat) : slotShell (noteReady s die) = slotShell s := by
  obtain eq | eq := noteReady_eq s die <;> rw [eq]
  exact slotShell_withDie ..

@[simp] theorem waitShell_bump (s : State) (sub n : Nat) : waitShell (bump s sub n) = waitShell s := rfl

@[simp] theorem waitShell_countTagWait (s : State) (die : Nat) : waitShell (countTagWait s die) = waitShell s := by
  unfold countTagWait
  split
  · rfl
  · split
    · dsimp only
      rw [waitShell_bump]
      exact waitShell_withDie fun _ => rfl
    · rfl

theorem waitShell_refillDie (s : State) (die : Nat) : waitShell (refillDie s die) = waitShell s := by
  rw [refillDie, waitShell_bump]
  exact waitShell_withDie fun _ => rfl

@[simp] theorem waitShell_countWaits (s : State) (die : Nat) : waitShell (countWaits s die) = waitShell s := by
  unfold countWaits
  dsimp only
  rw [waitShell_refillDie, waitShell_withDie, waitShell_bump, waitShell_bump, waitShell_countTagWait]
  exact fun _ => rfl

@[simp] theorem dieSeq_bump (s : State) (sub n die : Nat) : dieSeq (bump s sub n) die = dieSeq s die := rfl

/-- Counting a wait for a tag leaves the operations under way. -/
theorem macroOn_countTagWait (s : State) (die c : Nat) (u : ExecUnit) :
    macroOn (dieSeq (countTagWait s die) die) c u = macroOn (dieSeq s die) c u := by
  unfold countTagWait
  split
  · rfl
  · next run =>
    split
    · dsimp only
      rw [dieSeq_bump, dieSeq_withDie run]
      rfl
    · rfl

end Sys2Proof.Machine
end
section
/-!
LINE_ISSUE: what the slots of a line leave as they issue, and what the control field makes of the sequencer (R235, R236, R239,
R294).
-/
namespace Sys2Proof.Machine

/-! ### The slots of a line -/

theorem counter_bump_other {sub k : Nat} (other : k ≠ sub) (s : State) (n : Nat) : counter (bump s sub n) k = counter s k := by
  unfold bump counter
  dsimp only
  generalize (if isWide sub = true then _ else _ : Nat) = w
  by_cases zero : w = 0 <;> simp [zero, look_forget_other, look_keep_other, other]

theorem slotShell_bump {sub : Nat} (other : 0x50 ≠ sub) (s : State) (n : Nat) : slotShell (bump s sub n) = slotShell s :=
  congrArg (fun c => { slotShell s with ctr := [(0x50, c)] }) (counter_bump_other other s n)

@[simp] theorem slotShell_raise (s : State) (code sev kind source handle index : Nat) (args : List Nat) :
    slotShell (raise s code sev kind source handle index args) = slotShell s := rfl

@[simp] theorem slotShell_withStream (s : State) (die n : Nat) (f : StreamSt → StreamSt) :
    slotShell (withStream s die n f) = slotShell s := slotShell_withDie ..

@[simp] theorem slotShell_withStash (s : State) (die n : Nat) (f : StashState → StashState) :
    slotShell (withStash s die n f) = slotShell s := by
  unfold withStash withTabOfDie
  split <;> rfl

@[simp] theorem slotShell_issueStream (s : State) (die k x : Nat) : slotShell (issueStream s die k x) = slotShell s := by
  unfold issueStream
  split
  · rfl
  · dsimp only
    rw [slotShell_withDie]
    split
    · rw [slotShell_raise, slotShell_bump (by decide)]
      split <;> simp
    · split <;> simp

@[simp] theorem slotShell_claimBytes (s : State) (die n reader k : Nat) :
    slotShell (claimBytes s die n reader k).1 = slotShell s := slotShell_withDie ..

@[simp] theorem slotShell_addMacro (s : State) (die : Nat) (m : Macro) : slotShell (addMacro s die m) = slotShell s :=
  slotShell_withDie ..

@[simp] theorem slotShell_issueRow (s : State) (die x : Nat) (cnt : List Nat) : slotShell (issueRow s die x cnt) = slotShell s := by
  unfold issueRow
  split
  · rfl
  · dsimp only
    split <;> simp

@[simp] theorem slotShell_issueCore (s : State) (die c x wide : Nat) (span : Option Nat) (rung : Nat) (cnt : List Nat) :
    slotShell (issueCore s die c x wide span rung cnt) = slotShell s := by
  unfold issueCore
  split
  · rfl
  · dsimp only
    split
    · split <;> simp
    · simp

theorem log_issueRow (s : State) (die x : Nat) (cnt : List Nat) : (issueRow s die x cnt).log = s.log := by
  unfold issueRow
  split
  · rfl
  · dsimp only
    split <;> rfl

theorem log_issueCore (s : State) (die c x wide : Nat) (span : Option Nat) (rung : Nat) (cnt : List Nat) :
    (issueCore s die c x wide span rung cnt).log = s.log := by
  unfold issueCore
  split
  · rfl
  · dsimp only
    split
    · split <;> rfl
    · rfl

/-- A line without stream slots issues none. -/
theorem lineSlots_none (r : Run) (t : Tablature) (die : Nat) {l : Nat} (q : DieSeq) (no : ∀ k, k < 4 → stOp (lnStream l k) = 0) :
    lineSlots r t die l q = [0, 0, 0, 0] := by
  simp [lineSlots, List.range_succ, no]

/-! ### The sequencer after its line -/

/-- A sequencer whose line `line` has issued, before its control field acts. -/
def lineDone (line hold now tick : Nat) (q : DieSeq) : DieSeq :=
  { q with last := line, hold := hold, issued := now, any := true, ready := none, stashFrom := 0, wait := .none,
           progress := tick, advanced := now }

/-- A line issues: its slots do, and its control field chooses the next one. -/
theorem issueLine_eq (s : State) (r : Run) (die l : Nat) : ∃ u n, slotShell u = slotShell s
    ∧ ((∀ k, k < 4 → stOp (lnStream l k) = 0) → u.log = s.log)
    ∧ issueLine s r die l = withDie (bump (bump u 0x50 1) 0x51 n) die (fun q =>
        control r (tabNo s r.tab) (lnControl l) (dieSeq s die).line
          (lineDone (dieSeq s die).line (ctHold (lnControl l)) (dieClock s die) u.time.tick q)) := by
  refine ⟨_, _, ?_, fun no => ?_, rfl⟩
  · rw [foldl_kept (fun _ _ => slotShell_issueCore ..), slotShell_issueRow, foldl_kept (fun _ _ => slotShell_issueStream ..),
      slotShell_withDie]
  · rw [foldl_kept (g := State.log) (fun _ _ => log_issueCore ..), log_issueRow, lineSlots_none r _ die _ no]
    rfl

theorem control_kept (r : Run) (t : Tablature) (k line : Nat) (q : DieSeq) :
    control r t k line q = { q with
      line := (control r t k line q).line, cnt := (control r t k line q).cnt, wait := (control r t k line q).wait } := by
  unfold control
  split <;> dsimp only

theorem control_next {k : Nat} (op : ctOp k = 0) (r : Run) (t : Tablature) (line : Nat) (q : DieSeq) :
    control r t k line q = { q with line := line + 1 } := by
  simp only [control, op]

theorem control_jump {k : Nat} (op : ctOp k = 1) (r : Run) (t : Tablature) (line : Nat) (q : DieSeq) :
    control r t k line q = { q with line := ctTarget k } := by
  simp only [control, op]

theorem control_barrier {k : Nat} (op : ctOp k = 4) (r : Run) (t : Tablature) (line : Nat) (q : DieSeq) :
    control r t k line q = { q with line := line + 1, wait := .barrier (ctImm k % 16) } := by
  simp only [control, op]

theorem control_halt {k : Nat} (op : ctOp k = 6) (r : Run) (t : Tablature) (line : Nat) (q : DieSeq) :
    control r t k line q = { q with line := line + 1, wait := .halted } := by
  simp only [control, op]

theorem counter_of_slotShell {s t : State} (h : slotShell t = slotShell s) : counter t 0x50 = counter s 0x50 := by
  have same : [(0x50, counter t 0x50)] = [(0x50, counter s 0x50)] := congrArg State.ctr h
  simpa using same

theorem runOfDie_isSome_of_slotShell {s t : State} (h : slotShell t = slotShell s) (die : Nat) :
    (runOfDie t die).isSome = (runOfDie s die).isSome := by
  have found : ∀ u : State, (runOfDie u die).isSome
      = ((slotShell u).dense.runs.any fun r => r.dies.any fun p => p.1 == die) := fun u => by
    simp only [runOfDie, slotShell, onSeqs, List.any_map, Function.comp_def]
    rw [Bool.eq_iff_iff, List.find?_isSome, List.any_eq_true]
  rw [found, found, h]

theorem execLineIssue_of_ready {s : State} {die l : Nat} {r : Run} (run : runOfDie s die = some r) (going : r.ending = none)
    (line : ((look (tabNo s r.tab).dies die).getD {}).lines[(dieSeq s die).line]? = some l)
    (hold : holdElapsed s die (dieSeq s die) = true) (waited : waitOver s die (dieSeq s die) = true)
    (fits : lineFits (dieSeq s die) l = true) (tags : waitsForTag s r die = false) :
    exec (.lineIssue die) s = .next (noteReady (issueLine s r die l) die) := by
  simp [exec, execLineIssue, run, line, going, hold, waited, fits, tags]

theorem execLineIssue_of_held {s : State} {die l : Nat} {r : Run} (run : runOfDie s die = some r)
    (line : ((look (tabNo s r.tab).dies die).getD {}).lines[(dieSeq s die).line]? = some l)
    (held : lineFits (dieSeq s die) l = false ∨ waitsForTag s r die = true) : exec (.lineIssue die) s = .next s := by
  simp only [exec, execLineIssue, run, line, idle]
  rcases held with unfit | waits
  · simp [unfit]
  · simp [waits]

/-- The die whose line has issued, as far as noting its next line as ready leaves it. -/
theorem seqPart_issued {s u : State} {die l n : Nat} {r : Run} {q : DieSeq → DieSeq} (run : runOfDie s die = some r)
    (kept : slotShell u = slotShell s) (issued : issueLine s r die l = withDie (bump (bump u 0x50 1) 0x51 n) die q) :
    seqPart (dieSeq (noteReady (issueLine s r die l) die) die) = seqPart (q (dieSeq u die)) := by
  have runs : (runOfDie u die).isSome = true := by rw [runOfDie_isSome_of_slotShell kept, run]; rfl
  obtain ⟨r', run'⟩ := Option.isSome_iff_exists.1 runs
  rw [seqPart_dieSeq (programs_of_shell (shell_noteReady ..)), issued]
  exact congrArg seqPart (dieSeq_withDie (s := bump (bump u 0x50 1) 0x51 n) run' q)

theorem counter_issued {s u : State} {die l n : Nat} {r : Run} {q : DieSeq → DieSeq} (kept : slotShell u = slotShell s)
    (issued : issueLine s r die l = withDie (bump (bump u 0x50 1) 0x51 n) die q) :
    counter (noteReady (issueLine s r die l) die) 0x50 = (counter s 0x50 + 1) % 2 ^ 64 := by
  rw [counter_of_slotShell (slotShell_noteReady ..), issued]
  change counter (bump (bump u 0x50 1) 0x51 n) 0x50 = _
  rw [counter_bump_other (by decide), counter_bump_wide rfl, counter_of_slotShell kept]

theorem beyondDense_bump (s : State) (sub n : Nat) : beyondDense (bump s sub n) = beyondDense s := rfl

theorem beyondDense_withDie (s : State) (die : Nat) (g : DieSeq → DieSeq) : beyondDense (withDie s die g) = beyondDense s := rfl

theorem beyondDense_issued {s u : State} {die l n : Nat} {r : Run} {q : DieSeq → DieSeq} (kept : slotShell u = slotShell s)
    (issued : issueLine s r die l = withDie (bump (bump u 0x50 1) 0x51 n) die q) :
    beyondDense (noteReady (issueLine s r die l) die) = beyondDense s := by
  rw [beyondDense_of_slotShell (slotShell_noteReady ..), issued, beyondDense_withDie, beyondDense_bump, beyondDense_bump,
    beyondDense_of_slotShell kept]

theorem log_noteReady (s : State) (die : Nat) : (noteReady s die).log = s.log := by
  rw [eq_of_shell (shell_noteReady s die)]

theorem fields_of_seqPart {p q : DieSeq} (h : seqPart p = seqPart q) :
    p.last = q.last ∧ p.any = q.any ∧ p.issued = q.issued ∧ p.hold = q.hold ∧ p.line = q.line ∧ p.wait = q.wait := by
  have last : (seqPart p).last = (seqPart q).last := by rw [h]
  have any : (seqPart p).any = (seqPart q).any := by rw [h]
  have issued : (seqPart p).issued = (seqPart q).issued := by rw [h]
  have hold : (seqPart p).hold = (seqPart q).hold := by rw [h]
  have line : (seqPart p).line = (seqPart q).line := by rw [h]
  have wait : (seqPart p).wait = (seqPart q).wait := by rw [h]
  exact ⟨last, any, issued, hold, line, wait⟩

theorem fields_of_control_lineDone (r : Run) (t : Tablature) (k line next hold now tick : Nat) (q : DieSeq) :
    (control r t k next (lineDone line hold now tick q)).last = line
    ∧ (control r t k next (lineDone line hold now tick q)).any = true
    ∧ (control r t k next (lineDone line hold now tick q)).issued = now
    ∧ (control r t k next (lineDone line hold now tick q)).hold = hold := by
  rw [control_kept]
  exact ⟨rfl, rfl, rfl, rfl⟩

theorem linesIssueInControlOrder : Claims.LinesIssueInControlOrder := by
  intro s die l r run going line
  refine ⟨fun hold waited fits tags => ?_, execLineIssue_of_held run line⟩
  obtain ⟨u, n, kept, quiet, issued⟩ := issueLine_eq s r die l
  obtain ⟨last, any, at_, held, next, wait⟩ := fields_of_seqPart (seqPart_issued run kept issued)
  obtain ⟨last', any', at_', held'⟩ := fields_of_control_lineDone r (tabNo s r.tab) (lnControl l) (dieSeq s die).line
    (dieSeq s die).line (ctHold (lnControl l)) (dieClock s die) u.time.tick (dieSeq u die)
  refine ⟨_, execLineIssue_of_ready run going line hold waited fits tags, last.trans last', any.trans any', at_.trans at_',
    held.trans held', fun op => ?_, fun op => ?_, fun op => ?_, fun op => ?_, counter_issued kept issued,
    eq_of_beyondDense (beyondDense_issued kept issued), fun no => ?_⟩
  · rw [next, wait, control_next op]
    exact ⟨rfl, rfl⟩
  · rw [next, wait, control_jump op]
    exact ⟨rfl, rfl⟩
  · rw [wait, control_barrier op]
  · rw [wait, control_halt op]
  · rw [log_noteReady, issued]
    exact quiet no

end Sys2Proof.Machine
end
section
/-!
Aborted runs and withdrawn page requests: the run stays where it was and has the ending that aborted it (R325, R399).
-/
namespace Sys2Proof.Machine

theorem issuePages_kept (s : State) : (issuePages s).dense = s.dense ∧ (issuePages s).chans = s.chans
    ∧ (issuePages s).queries = s.queries := by
  refine ⟨?_, ?_, ?_⟩
  · exact foldl_kept (g := fun x : State × List PageReq => x.1.dense) fun _ _ => rfl
  · exact foldl_kept (g := fun x : State × List PageReq => x.1.chans) fun _ _ => rfl
  · exact foldl_kept (g := fun x : State × List PageReq => x.1.queries) fun _ _ => rfl

theorem withdraw_kept (s : State) (p : PageReq → Bool) :
    (withdraw s p).dense = s.dense ∧ (withdraw s p).chans = s.chans ∧ (withdraw s p).queries = s.queries :=
  issuePages_kept { s with pageReqs := s.pageReqs.filter fun r => !(p r) }

theorem runOf_withdraw (s : State) (p : PageReq → Bool) (slot seq : Nat) :
    runOf (withdraw s p) slot seq = runOf s slot seq := by
  rw [runOf, (withdraw_kept s p).1, runOf]

theorem programs_fabSend (s : State) (f : Frame) (home : Option (Nat × Nat)) : programs (fabSend s f home) = programs s := by
  unfold fabSend
  dsimp only
  split
  · rfl
  · split
    · rfl
    · split <;> rfl

theorem programs_scramble (s : State) (r : Run) : programs (scramble s r) = programs s := by
  refine foldl_kept fun u d => ?_
  exact foldl_kept (g := programs) (s := u) fun _ _ => rfl

theorem programs_undone (s : State) (r : Run) (c : Prop) [Decidable c] :
    programs (if c then stepUndone s r else stashKept s r) = programs s := by
  split <;> rfl

/-- A run whose program is kept takes the ending that it is given. -/
theorem runOf_ended {s t : State} {slot seq : Nat} {r : Run} {st : Status} {g : Run → Run} {p : PageReq → Bool}
    (kept : programs t = programs s) (run : runOf s slot seq = some r) (same : ∀ r, (g r).slot = r.slot ∧ (g r).seq = r.seq)
    (ends : ∀ r, (g r).ending = some st) :
    ∃ r', runOf (withdraw (withRun t slot seq g) p) slot seq = some r' ∧ r'.ending = some st := by
  obtain ⟨r', run', -⟩ := runOf_of_programs kept run
  rw [runOf_withdraw, runOf_withRun same, run']
  exact ⟨g r', rfl, ends r'⟩

theorem runOf_abortRun {s : State} {slot seq : Nat} {r : Run} (run : runOf s slot seq = some r) (going : r.ending = none)
    (cause : Nat) (st : Status) (reported : Bool) :
    ∃ r', runOf (abortRun s slot seq cause st reported) slot seq = some r' ∧ r'.ending = some st := by
  simp only [abortRun, run, going, Option.isSome_none, Bool.false_eq_true, if_false]
  refine runOf_ended ?_ run (fun _ => ⟨rfl, rfl⟩) (fun _ => rfl)
  have stopped (u : State) (d : Nat) : programs (dropReqs (countWaits u d) d) = programs u :=
    (programs_of_shell (shell_dropReqs ..)).trans (programs_of_waitShell (waitShell_countWaits ..))
  rw [programs_undone, programs_scramble, foldl_kept stopped]
  split
  · split
    · exact foldl_kept fun _ _ => programs_fabSend ..
    · rfl
  · rfl

end Sys2Proof.Machine
end
section
/-!
MACRO_START and MACRO_COMPLETE: what starts stands as started, and what completes leaves its unit free (R235, R252, R254, R262).
-/
namespace Sys2Proof.Machine

theorem core_of_macroOn {q : DieSeq} {c : Nat} {u : ExecUnit} {m : Macro} (on : macroOn q c u = some m) : m.core = c := by
  have is := List.find?_some on
  simp only [Bool.and_eq_true, beq_iff_eq] at is
  exact is.1

theorem exists_run_of_macroOn {s : State} {die c : Nat} {u : ExecUnit} {m : Macro} (on : macroOn (dieSeq s die) c u = some m) :
    ∃ r, runOfDie s die = some r := by
  cases run : runOfDie s die with
  | none => simp [dieSeq, run, macroOn] at on
  | some r => exact ⟨r, rfl⟩

theorem macroOn_withMacro {s : State} {die c : Nat} {u : ExecUnit} {m : Macro} {f : Macro → Macro}
    (on : macroOn (dieSeq s die) c u = some m) (same : ∀ m, (f m).core = m.core ∧ (f m).unit = m.unit) :
    macroOn (dieSeq (withMacro s die c u f) die) c u = some (f m) := by
  obtain ⟨r, run⟩ := exists_run_of_macroOn on
  rw [withMacro, dieSeq_withDie run]
  have found := find_map_ite (p := fun m : Macro => m.core == c && m.unit == u) (g := f)
    (fun m is => by rw [(same m).1, (same m).2]; exact is) (dieSeq s die).macros
  exact found.trans (congrArg (Option.map f) on)

/-! ### The start -/

/-- An operation that starts. -/
def startAt (now : Nat) (m : Macro) : Macro := { m with started := some now }

theorem execMacroStart_of_free {s : State} {die core : Nat} {u : ExecUnit} {m : Macro}
    (on : macroOn (dieSeq s die) (macroCore core u) u = some m) (fresh : m.started = none)
    (may : mayStart ((dieSeq s die).macros.takeWhile (fun e => !(e.core == macroCore core u && e.unit == u)))
      (dieSeq s die).macros m = true) :
    exec (.macroStart die core u) s = .next (noteReady (pullAll
      (withMacro s die (macroCore core u) u (startAt (dieClock s die))) die) die) := by
  simp only [exec, execMacroStart, on]
  refine if_neg ?_
  rw [fresh, may]
  decide

theorem fields_of_plainMacro {a b : Macro} (h : plainMacro a = plainMacro b) :
    a.started = b.started ∧ a.op = b.op ∧ a.desc = b.desc := by
  rw [plainMacro, plainMacro, Macro.mk.injEq] at h
  simp [h]

theorem macrosStart {s : State} {die core : Nat} {u : ExecUnit} {m : Macro}
    (on : macroOn (dieSeq s die) (macroCore core u) u = some m) (fresh : m.started = none)
    (may : mayStart ((dieSeq s die).macros.takeWhile (fun e => !(e.core == macroCore core u && e.unit == u)))
      (dieSeq s die).macros m = true) :
    ∃ t m', exec (.macroStart die core u) s = .next t ∧ macroOn (dieSeq t die) (macroCore core u) u = some m'
      ∧ m'.started = some (dieClock s die) ∧ m'.op = m.op ∧ m'.desc = m.desc ∧ t = { s with dense := t.dense, ctr := t.ctr } := by
  have begun := macroOn_withMacro on (f := startAt (dieClock s die)) (fun _ => ⟨rfl, rfl⟩)
  have kept := (shell_noteReady (pullAll
    (withMacro s die (macroCore core u) u (startAt (dieClock s die))) die) die).trans
    (shell_pullAll ..)
  have plain := macroOn_plain (programs_of_shell kept) die (macroCore core u) u
  rw [begun, Option.map_some] at plain
  obtain ⟨m', on', same⟩ := Option.map_eq_some_iff.1 plain
  have frame := eq_of_shell kept
  obtain ⟨started, op, desc⟩ := fields_of_plainMacro same
  exact ⟨_, m', execMacroStart_of_free on fresh may, on', started, op, desc, frame⟩

/-! ### What an operation leaves that completes -/

theorem pullMacro_of_full {s : State} {die c : Nat} {m : Macro} (on : macroOn (dieSeq s die) c .t = some m)
    (full : tBytes m.desc ≤ m.got) (fuel : Nat) : pullMacro fuel s die c = s := by
  cases fuel <;> simp [pullMacro, on, full]

theorem saveRows_of_full {m : Macro} (full : 8 * reRows m.slot ≤ m.got) (fuel : Nat) (s : State) (die : Nat) :
    saveRows fuel s die m = s := by
  cases fuel <;> simp [saveRows, full]

theorem loadRows_of_full {m : Macro} (full : 8 * reRows m.slot ≤ m.got) (fuel : Nat) (s : State) (die : Nat) :
    loadRows fuel s die m = s := by
  cases fuel <;> simp [loadRows, full]

theorem macroOn_freeTags {s : State} {die c n : Nat} {u : ExecUnit} (free : macroOn (dieSeq s die) c u = none) :
    macroOn (dieSeq (freeTags s die n) die) c u = none := macroOn_none (programs_of_shell (shell_freeTags ..)) free

theorem macroOn_noteReady {s : State} {die c : Nat} {u : ExecUnit} (free : macroOn (dieSeq s die) c u = none) :
    macroOn (dieSeq (noteReady s die) die) c u = none := macroOn_none (programs_of_shell (shell_noteReady ..)) free

/-- A row-engine operation that needs no stream, or whose bytes have all moved, leaves the row engine free. -/
theorem macroOn_rowEngineDone {s : State} {die : Nat} {m : Macro} (on : macroOn (dieSeq s die) 0 .rowEngine = some m)
    (ends : m.op ∈ [1, 2, 3, 6] ∨ (m.op ∈ [4, 5] ∧ 8 * reRows m.slot ≤ m.got)) :
    macroOn (dieSeq (rowEngineDone s die m) die) 0 .rowEngine = none := by
  simp only [List.mem_cons, List.not_mem_nil, or_false] at ends
  obtain still | ⟨op | op, full⟩ := ends
  · obtain op | op | op | op := still <;>
    · simp only [rowEngineDone, op]
      exact macroOn_dropMacro ..
  · simp only [rowEngineDone, op, saveRows_of_full full, on, full, if_true]
    exact macroOn_dropMacro ..
  · simp only [rowEngineDone, op, loadRows_of_full full, on, full, if_true]
    exact macroOn_freeTags (macroOn_dropMacro ..)

/-! ### The completion -/

section
variable {s : State} {die core since : Nat} {u : ExecUnit} {m : Macro} {r : Run} (run : runOfDie s die = some r)
  (on : macroOn (dieSeq s die) (macroCore core u) u = some m) (began : m.started = some since)
include run on began

theorem execMacroComplete_of_done {t : State}
    (done : macroDone s r die (macroCore core u) u m (decide (macroCycles s die m ≤ dieCycles s die since)) = some t) :
    exec (.macroComplete die core u) s = .next (noteReady t die) := by
  simp [exec, execMacroComplete, run, on, began, done]

theorem execMacroComplete_of_waiting
    (done : macroDone s r die (macroCore core u) u m (decide (macroCycles s die m ≤ dieCycles s die since)) = none) :
    exec (.macroComplete die core u) s = .next s := by
  simp [exec, execMacroComplete, run, on, began, done, idle]

/-- A completion whose work leaves the unit free. -/
theorem macroComplete_frees {t : State}
    (done : macroDone s r die (macroCore core u) u m (decide (macroCycles s die m ≤ dieCycles s die since)) = some t)
    (free : macroOn (dieSeq t die) (macroCore core u) u = none) :
    ∃ t, exec (.macroComplete die core u) s = .next t ∧ macroOn (dieSeq t die) (macroCore core u) u = none :=
  ⟨_, execMacroComplete_of_done run on began done, macroOn_noteReady free⟩

theorem productsComplete (passed : macroCycles s die m ≤ dieCycles s die since) (unit : u = .f ∨ u = .g)
    (valid : productDone s r die m ≠ none) :
    ∃ t, exec (.macroComplete die core u) s = .next t ∧ macroOn (dieSeq t die) (macroCore core u) u = none := by
  obtain ⟨s', product⟩ := Option.ne_none_iff_exists'.1 valid
  refine macroComplete_frees run on began (t := dropMacro s' die (macroCore core u) u) ?_ (macroOn_dropMacro ..)
  obtain rfl | rfl := unit <;> simp [macroDone, passed, product]

theorem epiloguesComplete (passed : macroCycles s die m ≤ dieCycles s die since) (unit : u = .e)
    (valid : epilogueDone s r die m ≠ none) :
    ∃ t, exec (.macroComplete die core u) s = .next t ∧ macroOn (dieSeq t die) (macroCore core u) u = none := by
  obtain ⟨s', epilogue⟩ := Option.ne_none_iff_exists'.1 valid
  refine macroComplete_frees run on began (t := dropMacro s' die (macroCore core u) u) ?_ (macroOn_dropMacro ..)
  subst unit
  simp [macroDone, passed, epilogue]

theorem transfersComplete (passed : macroCycles s die m ≤ dieCycles s die since) (unit : u = .t) (full : tBytes m.desc ≤ m.got) :
    ∃ t, exec (.macroComplete die core u) s = .next t ∧ macroOn (dieSeq t die) (macroCore core u) u = none := by
  subst unit
  refine macroComplete_frees run on began (t := freeTags (dropMacro (countTagWait s die) die (macroCore core .t) .t) die m.stream)
    ?_ (macroOn_freeTags (macroOn_dropMacro ..))
  simp [macroDone, passed, pullMacro_of_full on full, on, full]

theorem selectionsComplete (passed : macroCycles s die m ≤ dieCycles s die since) (unit : u = .s) (first : m.got = 0)
    (dest : rDest m.desc = 0) :
    ∃ t, exec (.macroComplete die core u) s = .next t ∧ macroOn (dieSeq t die) (macroCore core u) u = none := by
  subst unit
  refine macroComplete_frees run on began (t := selectDone s die m) (by simp [macroDone, passed]) ?_
  rw [← core_of_macroOn on]
  simp only [selectDone, first, dest, if_true]
  exact macroOn_dropMacro ..

theorem rowEnginesComplete (unit : u = .rowEngine)
    (ends : m.op ∈ [1, 2, 3, 6] ∨ (m.op ∈ [4, 5] ∧ 8 * reRows m.slot ≤ m.got)) :
    ∃ t, exec (.macroComplete die core u) s = .next t ∧ macroOn (dieSeq t die) (macroCore core u) u = none := by
  subst unit
  refine macroComplete_frees run on began (t := rowEngineDone (countTagWait s die) die m) rfl ?_
  exact macroOn_rowEngineDone ((macroOn_countTagWait ..).trans on) ends

theorem invalidProductsEndTheRun (passed : macroCycles s die m ≤ dieCycles s die since) (unit : u = .f ∨ u = .g)
    (invalid : productDone s r die m = none) (going : r.ending = none) (own : runOf s r.slot r.seq = some r) :
    ∃ t r', exec (.macroComplete die core u) s = .next t ∧ runOf t r.slot r.seq = some r' ∧ r'.ending = some .invalid := by
  have done : macroDone s r die (macroCore core u) u m (decide (macroCycles s die m ≤ dieCycles s die since))
      = some (abortRun s r.slot r.seq 4 .invalid) := by
    obtain rfl | rfl := unit <;> simp [macroDone, passed, invalid, invalidate, run]
  obtain ⟨r1, run1, ends⟩ := runOf_abortRun own going 4 .invalid true
  obtain ⟨r', run', same⟩ := runOf_of_programs (programs_of_shell (shell_noteReady _ die)) run1
  exact ⟨_, r', execMacroComplete_of_done run on began done, run', (congrArg Run.ending same).trans ends⟩

theorem macrosStay (early : dieCycles s die since < macroCycles s die m) (unit : u = .f ∨ u = .g ∨ u = .e ∨ u = .s) :
    exec (.macroComplete die core u) s = .next s := by
  refine execMacroComplete_of_waiting run on began ?_
  rw [decide_eq_false (Nat.not_le.2 early)]
  obtain rfl | rfl | rfl | rfl := unit <;> rfl

end

theorem macrosStartAndComplete : Claims.MacrosStartAndComplete :=
  ⟨fun _ _ _ _ _ on fresh may => macrosStart on fresh may,
    fun _ _ _ _ _ _ _ run on began =>
      ⟨fun passed => ⟨productsComplete run on began passed, epiloguesComplete run on began passed,
          transfersComplete run on began passed, selectionsComplete run on began passed,
          invalidProductsEndTheRun run on began passed⟩,
        rowEnginesComplete run on began, macrosStay run on began⟩⟩

end Sys2Proof.Machine
end
section
/-!
BARRIER_RELEASE and RUN_COMPLETE: agreement at a barrier, the end of a run and the next sequence of an ENCODE (R204, R240, R269,
R271).
-/
namespace Sys2Proof.Machine

/-! ### Barriers (R240) -/

/-- A sequencer that a barrier lets go on; that its stall period starts again is the model's choice (log entries 119
and 130). -/
def goOn (s : State) (die : Nat) (q : DieSeq) : DieSeq :=
  { q with wait := .none, progress := s.time.tick, advanced := dieClock s die, stashFrom := dieClock s die }

/-- A run whose dies a barrier lets go on. -/
def goneOn (s : State) (r : Run) : Run := { r with dies := r.dies.map fun d => (d.1, goOn s d.1 d.2) }

theorem releaseBarrier_of_open {s : State} {r : Run} (noSpan : closingPass (tabNo s r.tab) r = none) :
    releaseBarrier s r = withRun s r.slot r.seq (goneOn s) := by
  simp only [releaseBarrier, noSpan]
  rfl

section
variable {s : State} {slot seq : Nat} {r : Run} (run : runOf s slot seq = some r) (going : r.ending = none)
include run going

theorem execBarrierRelease_of_agreed {n : Nat} (some_ : r.dies ≠ [])
    (agreed : ∀ d, d ∈ r.dies → arrivedAt s (tabNo s r.tab) d.1 d.2 = some n ∧ hasHalted s d.1 d.2 = false) :
    exec (.barrierRelease slot seq) s = .next ((r.dies.map Prod.fst).foldl noteReady (releaseBarrier s r)) := by
  obtain ⟨d, ds, dies⟩ := List.exists_cons_of_ne_nil some_
  have at_ : r.dies.map (fun d => arrivedAt s (tabNo s r.tab) d.1 d.2) = some n :: List.replicate ds.length (some n) := by
    rw [List.map_congr_left fun d member => (agreed d member).1, List.map_const', dies]
    rfl
  have numbers : (some n :: List.replicate ds.length (some n)).filterMap id = n :: List.replicate ds.length n := by simp
  have moving : r.dies.any (fun d => hasHalted s d.1 d.2) = false :=
    List.any_eq_false.2 fun d member => by simp [(agreed d member).2]
  simp only [exec, execBarrierRelease, run, going, at_, numbers, moving]
  simp

theorem execBarrierRelease_of_mixed {n m : Nat} {d e : Nat × DieSeq} (hd : d ∈ r.dies) (he : e ∈ r.dies)
    (atD : arrivedAt s (tabNo s r.tab) d.1 d.2 = some n) (atE : arrivedAt s (tabNo s r.tab) e.1 e.2 = some m) (differ : n ≠ m) :
    exec (.barrierRelease slot seq) s = .next (abortRun s slot seq 4 .invalid) := by
  have named {k : Nat} {x : Nat × DieSeq} (member : x ∈ r.dies) (arrived : arrivedAt s (tabNo s r.tab) x.1 x.2 = some k) :
      k ∈ (r.dies.map fun d => arrivedAt s (tabNo s r.tab) d.1 d.2).filterMap id :=
    List.mem_filterMap.2 ⟨some k, List.mem_map.2 ⟨x, member, arrived⟩, rfl⟩
  have hn := named hd atD
  have hm := named he atE
  simp only [exec, execBarrierRelease, run, going, Option.isSome_none, Bool.false_eq_true, if_false]
  split
  · next none_ => rw [none_] at hn; cases hn
  · next k rest some_ =>
    rw [some_] at hn hm
    have other : rest.any (fun m => m != k) = true := by
      cases same : rest.any fun m => m != k with
      | true => rfl
      | false =>
        have all_ : ∀ x, x ∈ k :: rest → x = k := by simpa using same
        exact absurd ((all_ n hn).trans (all_ m hm).symm) differ
    simp [other]

theorem agreedBarriersRelease {n : Nat} (some_ : r.dies ≠ [])
    (agreed : ∀ d, d ∈ r.dies → arrivedAt s (tabNo s r.tab) d.1 d.2 = some n ∧ hasHalted s d.1 d.2 = false)
    (noSpan : closingPass (tabNo s r.tab) r = none) :
    ∃ t r', exec (.barrierRelease slot seq) s = .next t ∧ runOf t slot seq = some r' ∧ r' = { r with dies := r'.dies }
      ∧ r'.dies.map (fun d => (d.1, { d.2 with ready := none })) = r.dies.map (fun d =>
          (d.1, { d.2 with wait := .none, progress := s.time.tick, advanced := dieClock s d.1, stashFrom := dieClock s d.1,
                           ready := none }))
      ∧ t = { s with dense := { s.dense with runs := t.dense.runs } } := by
  obtain ⟨rfl, rfl⟩ := runOf_names run
  have kept : readyShell ((r.dies.map Prod.fst).foldl noteReady (releaseBarrier s r))
      = readyShell (withRun s r.slot r.seq (goneOn s)) := by
    rw [foldl_kept readyShell_noteReady, releaseBarrier_of_open noSpan]
  have gone : runOf (withRun s r.slot r.seq (goneOn s)) r.slot r.seq = some (goneOn s r) := by
    rw [runOf_withRun (g := goneOn s) (fun _ => ⟨rfl, rfl⟩), run, Option.map_some]
  obtain ⟨r', run', same⟩ := runOf_of_map (v := onSeqs unready) (fun _ => ⟨rfl, rfl⟩) (congrArg (·.dense.runs) kept) gone
  have dies := congrArg Run.dies same
  simp only [onSeqs, goneOn, List.map_map] at dies
  have frame := eq_of_readyShell kept
  exact ⟨_, r', execBarrierRelease_of_agreed run going some_ agreed, run',
    congrArg (fun x : Run => { x with dies := r'.dies }) same, dies, frame⟩

theorem mixedBarriersEndTheRun {n m : Nat} {d e : Nat × DieSeq} (hd : d ∈ r.dies) (he : e ∈ r.dies)
    (atD : arrivedAt s (tabNo s r.tab) d.1 d.2 = some n) (atE : arrivedAt s (tabNo s r.tab) e.1 e.2 = some m) (differ : n ≠ m) :
    ∃ t r', exec (.barrierRelease slot seq) s = .next t ∧ runOf t slot seq = some r' ∧ r'.ending = some .invalid := by
  obtain ⟨r', run', ends⟩ := runOf_abortRun run going 4 .invalid true
  exact ⟨_, r', execBarrierRelease_of_mixed run going hd he atD atE differ, run', ends⟩

end

/-! ### The end of a sequence (R204, R269, R271) -/

/-- The waits of a run's dies are counted, and the blocks that no slot has used. -/
def waitsCounted (s : State) (r : Run) : State := bump ((r.dies.map Prod.fst).foldl countWaits s) 0x62 (unusedPrefetch r)

theorem waitShell_waitsCounted (s : State) (r : Run) : waitShell (waitsCounted s r) = waitShell s :=
  (waitShell_bump ..).trans (foldl_kept waitShell_countWaits)

/-- What the last sequence leaves before its command ends. -/
def lastEnded (s : State) (r : Run) : State :=
  let s := waitsCounted s r
  let s := if isTune r ∧ (runStatus r = .ok ∨ runStatus r = .partialPoison) then stepDone s r
           else if isTune r then stepUndone s r else stashKept s r
  let s := if cOpcode r.word = 0x30 ∨ cOpcode r.word = 0x31 then statEvents s else s
  dropRun s r.slot r.seq

/-- A run in its next sequence. -/
def nextSequenceOf (s : State) (t : Tablature) (r : Run) : Run :=
  { noteVector r with
    seqNo := r.seqNo + 1,
    dies := r.dies.map (fun d => (d.1, nextSequence s d.1 (keptStreams t r d.1 d.2) d.2)) }

/-- What channels and searches see. -/
def hostSide (s : State) : List (Nat × Channel) × List Query := (s.chans, s.queries)

theorem hostSide_of_waitShell {s t : State} (h : waitShell t = waitShell s) : hostSide t = hostSide s := by
  have same := congrArg hostSide h
  exact same

theorem hostSide_stepDone (s : State) (r : Run) : hostSide (stepDone s r) = hostSide s :=
  foldl_kept (g := hostSide) fun _ _ => rfl

theorem hostSide_statEvents (s : State) : hostSide (statEvents s) = hostSide s := by
  refine foldl_kept (g := hostSide) fun u p => ?_
  split <;> rfl

theorem hostSide_dropRun (s : State) (slot seq : Nat) : hostSide (dropRun s slot seq) = hostSide s :=
  Prod.ext (withdraw_kept ..).2.1 (withdraw_kept ..).2.2

theorem hostSide_lastEnded (s : State) (r : Run) : hostSide (lastEnded s r) = hostSide s := by
  have counted : hostSide (waitsCounted s r) = hostSide s := hostSide_of_waitShell (waitShell_waitsCounted s r)
  have stepEnded (u : State) (c d : Prop) [Decidable c] [Decidable d] :
      hostSide (if c then stepDone u r else if d then stepUndone u r else stashKept u r) = hostSide u := by
    split
    · exact hostSide_stepDone ..
    · split <;> rfl
  unfold lastEnded
  dsimp only
  rw [hostSide_dropRun]
  split
  · rw [hostSide_statEvents, stepEnded, counted]
  · rw [stepEnded, counted]

theorem runOf_dropRun (s : State) (slot seq : Nat) : runOf (dropRun s slot seq) slot seq = none := by
  rw [dropRun, runOf_withdraw]
  exact find_filter_not _

theorem dense_finish (s : State) (slot seq : Nat) (k : Compl) : (finish s slot seq k).dense = s.dense := by
  have same := congrArg State.dense (finish_kept s slot seq k).1
  exact same

theorem runOf_denseEnd (s : State) (slot seq : Nat) (k : Compl) : runOf (denseEnd s slot seq k) slot seq = runOf s slot seq := by
  rw [denseEnd, runOf, dense_finish]
  rfl

/-- The command of a dense run ends; only the epoch of its completion may be that of its search. -/
theorem finished_denseEnd {s : State} {slot seq : Nat} {o : OutCmd} (out : outCmd s slot seq = some o) (k : Compl) :
    ∃ e, Finished (denseEnd s slot seq k) slot seq { k with epoch := e } :=
  ⟨_, (finish_spec _ (s := dropQueryOf s slot seq) out).1⟩

/-- A query as the encoder of a run leaves it: its own search takes the vector. -/
def vectorGiven (r : Run) (q : Query) : Query :=
  if q.origin = .host r.slot r.seq ∧ q.vectorFrom = false ∧ q.qvec = none then
    { q with qvec := some r.query, cause := { q.cause with poison := q.cause.poison || r.poison } }
  else q

theorem vectorGiven_tag (r : Run) (q : Query) : (vectorGiven r q).tag = q.tag := by
  unfold vectorGiven
  split <;> rfl

theorem queryOf_giveQuery (s : State) (r : Run) (tag : Nat) :
    queryOf (giveQuery s r) tag = (queryOf s tag).map (vectorGiven r) := by
  have sameTag : (fun q : Query => q.tag == tag) ∘ vectorGiven r = fun q => q.tag == tag :=
    funext fun q => by rw [Function.comp, vectorGiven_tag]
  change (s.queries.map (vectorGiven r)).find? _ = _
  rw [List.find?_map, sameTag, queryOf]

theorem runOf_lastEnded (s : State) (r : Run) : runOf (lastEnded s r) r.slot r.seq = none := runOf_dropRun ..

theorem all_halted {s : State} {r : Run} (halted : ∀ d, d ∈ r.dies → hasHalted s d.1 d.2 = true ∧ drained s d.1 = true) :
    r.dies.all (fun d => hasHalted s d.1 d.2 && drained s d.1) = true :=
  List.all_eq_true.2 fun d member => by simp [halted d member]

theorem fields_of_programOf {a b : Run} (h : programOf a = programOf b) : a.seqNo = b.seqNo ∧ a.vectors = b.vectors
    ∧ a.lost = b.lost ∧ a.dies.map (fun d => d.2.cnt) = b.dies.map (fun d => d.2.cnt) := by
  have seqNo : (programOf a).seqNo = (programOf b).seqNo := by rw [h]
  have vectors : (programOf a).vectors = (programOf b).vectors := by rw [h]
  have lost : (programOf a).lost = (programOf b).lost := by rw [h]
  have counters (x : Run) : x.dies.map (fun d => d.2.cnt) = (programOf x).dies.map (fun d => d.2.cnt) := by
    simp [programOf, onSeqs, seqPart]
  exact ⟨seqNo, vectors, lost, by rw [counters a, counters b, h]⟩

theorem eq_of_waits {s u : State} (kept : waitShell u = waitShell s) (slot seq : Nat) (g : Run → Run) :
    withRun u slot seq g = { s with dense := { s.dense with runs := (withRun u slot seq g).dense.runs },
                                    ctr := (withRun u slot seq g).ctr } :=
  congrArg (fun v : State => { v with dense := { v.dense with runs := (withRun u slot seq g).dense.runs },
                                      ctr := (withRun u slot seq g).ctr }) kept

section
variable {s : State} {slot seq : Nat} {r : Run} (run : runOf s slot seq = some r) (going : r.ending = none)
  (halted : ∀ d, d ∈ r.dies → hasHalted s d.1 d.2 = true ∧ drained s d.1 = true) (still : runInFlight s r = false)
  (noRows : r.rows = [])
include run going halted still noRows

theorem execRunComplete_of_last (last : r.seqs ≤ r.seqNo + 1) : exec (.runComplete slot seq) s =
    if cOpcode r.word = 0x21 ∧ runStatus r ≠ .pageFault then .next (giveQuery (lastEnded s r) r)
    else .next (denseEnd (lastEnded s r) slot seq
      { status := runStatus r, cause := { poison := r.poison }, result := denseResult (noteVector r) }) := by
  obtain ⟨rfl, rfl⟩ := runOf_names run
  simp only [exec, execRunComplete, run, going, all_halted halted, still, noRows]
  exact if_neg (Nat.not_lt.2 last)

theorem execRunComplete_of_further (further : r.seqNo + 1 < r.seqs) : exec (.runComplete slot seq) s =
    .next (withRun (waitsCounted s r) slot seq (nextSequenceOf (waitsCounted s r) (tabNo s r.tab))) := by
  simp only [exec, execRunComplete, run, going, all_halted halted, still, noRows]
  exact if_pos further

theorem lastSequenceEndsTheCommand {o : OutCmd} (last : r.seqs ≤ r.seqNo + 1) (out : outCmd s slot seq = some o)
    (plain : cOpcode r.word ≠ 0x21 ∨ runStatus r = .pageFault) :
    ∃ t k, exec (.runComplete slot seq) s = .next t ∧ runOf t slot seq = none ∧ Finished t slot seq k
      ∧ k.status = runStatus r ∧ k.cause.poison = r.poison
      ∧ k.result = (if cOpcode r.word = 0x20 then r.vectors + (if r.lost then 0 else 1) else 0) := by
  have answer := execRunComplete_of_last run going halted still noRows last
  rw [if_neg fun both => plain.elim (· both.1) both.2] at answer
  obtain ⟨rfl, rfl⟩ := runOf_names run
  have out' := (outCmd_congr (congrArg Prod.fst (hostSide_lastEnded s r)) r.slot r.seq).trans out
  obtain ⟨e, finished⟩ := finished_denseEnd out'
    { status := runStatus r, cause := { poison := r.poison }, result := denseResult (noteVector r) }
  exact ⟨_, _, answer, (runOf_denseEnd ..).trans (runOf_lastEnded s r), finished, rfl, rfl, rfl⟩

theorem lastSequenceGivesTheVector (last : r.seqs ≤ r.seqNo + 1) (search : cOpcode r.word = 0x21)
    (present : runStatus r ≠ .pageFault) :
    ∃ t, exec (.runComplete slot seq) s = .next t ∧ runOf t slot seq = none
      ∧ (∀ q, queryOf s (hostTag slot seq) = some q → q.origin = .host slot seq → q.vectorFrom = false → q.qvec = none →
        ∃ q', queryOf t (hostTag slot seq) = some q' ∧ q'.qvec = some r.query
          ∧ q'.cause.poison = (q.cause.poison || r.poison)) := by
  have answer := execRunComplete_of_last run going halted still noRows last
  rw [if_pos ⟨search, present⟩] at answer
  obtain ⟨rfl, rfl⟩ := runOf_names run
  refine ⟨_, answer, runOf_lastEnded s r, fun q query own encoder first => ?_⟩
  have queries : (lastEnded s r).queries = s.queries := congrArg Prod.snd (hostSide_lastEnded s r)
  rw [queryOf_giveQuery, queryOf, queries]
  change ∃ q', (queryOf s (hostTag r.slot r.seq)).map (vectorGiven r) = some q' ∧ _
  rw [query, Option.map_some, vectorGiven, if_pos ⟨own, encoder, first⟩]
  exact ⟨_, rfl, rfl, rfl⟩

theorem earlierSequenceGivesWay (further : r.seqNo + 1 < r.seqs) :
    ∃ t r', exec (.runComplete slot seq) s = .next t ∧ runOf t slot seq = some r' ∧ r'.seqNo = r.seqNo + 1
      ∧ r'.vectors = r.vectors + (if r.lost then 0 else 1) ∧ r'.dies.map (fun d => d.2.cnt) = r.dies.map (fun d => d.2.cnt)
      ∧ (∀ d, d ∈ r'.dies → d.2.line = 0) ∧ t = { s with dense := { s.dense with runs := t.dense.runs }, ctr := t.ctr } := by
  have kept := waitShell_waitsCounted s r
  obtain ⟨r1, run1, same⟩ := runOf_of_programs (programs_of_waitShell kept) run
  have runAfter : runOf (withRun (waitsCounted s r) slot seq (nextSequenceOf (waitsCounted s r) (tabNo s r.tab))) slot seq
      = some (nextSequenceOf (waitsCounted s r) (tabNo s r.tab) r1) := by
    rw [runOf_withRun (g := nextSequenceOf _ _) (fun _ => ⟨rfl, rfl⟩), run1, Option.map_some]
  obtain ⟨seqNo, vectors, lost, counters⟩ := fields_of_programOf same
  refine ⟨_, _, execRunComplete_of_further run going halted still noRows further, runAfter, ?_, ?_, ?_, ?_,
    eq_of_waits kept slot seq _⟩
  · rw [← seqNo]
    rfl
  · rw [← vectors, ← lost]
    rfl
  · rw [← counters]
    simp [nextSequenceOf, nextSequence]
  · intro d member
    obtain ⟨d', -, rfl⟩ := List.mem_map.1 member
    rfl

end

theorem barriersAndEndsOfRuns : Claims.BarriersAndEndsOfRuns :=
  fun _ _ _ _ run going => ⟨fun _ some_ agreed noSpan => agreedBarriersRelease run going some_ agreed noSpan,
    fun _ _ _ _ hd he atD atE differ => mixedBarriersEndTheRun run going hd he atD atE differ,
    fun _ halted still noRows last out => ⟨lastSequenceEndsTheCommand run going halted still noRows last out,
      lastSequenceGivesTheVector run going halted still noRows last⟩,
    earlierSequenceGivesWay run going⟩

/-- Settles O29, claim by claim: a line's issue, the start and completion of operations, and the ends of barriers and runs. -/
theorem dieProgramsRunLineByLine : Obligations.DieProgramsRunLineByLine :=
  ⟨linesIssueInControlOrder, macrosStartAndComplete, barriersAndEndsOfRuns⟩

end Sys2Proof.Machine
end

section
/-!
What the operations of the fabric's link layer do to the ports (R335-R338): a waiting frame is sent, a port goes down, a
link-control flit is taken, and what each leaves of the other ports.
-/
namespace Sys2Proof.Machine

/-! ### The flits that a port owes its peer, and the receive class that a waiting frame came from -/

theorem SamePort.trans {p q r : FabPort} (first : SamePort p q) (second : SamePort q r) : SamePort p r := by
  obtain ⟨pq, waiting⟩ := first
  obtain ⟨qr, waiting'⟩ := second
  refine ⟨?_, waiting'.trans waiting⟩
  rw [qr, pq]

/-- The port with the flits freed that another one shows. -/
def withFreedOf (p q : FabPort) : FabPort := { p with freed := q.freed }

theorem samePort_withFreedOf (p q : FabPort) : SamePort p (withFreedOf p q) := ⟨rfl, rfl⟩

theorem nth_modify_freed (ps : List FabPort) (k j : Nat) (g : List Nat → List Nat) :
    nth (ps.modify k fun p => { p with freed := g p.freed }) j {}
      = withFreedOf (nth ps j {}) (nth (ps.modify k fun p => { p with freed := g p.freed }) j {}) := by
  simp only [nth, List.getD_eq_getElem?_getD, List.getElem?_modify]
  cases ps[j]? with
  | none => rfl
  | some p => by_cases here : k = j <;> simp [here, withFreedOf]

theorem nth_freeHomeIn (ps : List FabPort) (x : Queued) (j : Nat) :
    nth (freeHomeIn ps x) j {} = withFreedOf (nth ps j {}) (nth (freeHomeIn ps x) j {}) := by
  unfold freeHomeIn
  split
  · exact nth_modify_freed ..
  · rfl

/-- Forwarded frames that leave their receive classes free flits there and do nothing else (R336). -/
theorem nth_foldl_freeHomeIn (l : List Queued) (ps : List FabPort) (j : Nat) :
    nth (l.foldl freeHomeIn ps) j {} = withFreedOf (nth ps j {}) (nth (l.foldl freeHomeIn ps) j {}) := by
  induction l generalizing ps with
  | nil => rfl
  | cons x l ih =>
    rw [List.foldl_cons, ih, nth_freeHomeIn ps x j]
    rfl

theorem length_foldl_freeHomeIn (l : List Queued) (ps : List FabPort) : (l.foldl freeHomeIn ps).length = ps.length := by
  induction l generalizing ps with
  | nil => rfl
  | cons x l ih =>
    rw [List.foldl_cons, ih]
    unfold freeHomeIn
    split <;> simp

/-! ### A port is set -/

section
variable {s : State} {i : Nat} (present : i < s.fabric.ports.length) (p : FabPort)
include present

theorem fabPort_setFabPort_same : fabPort (setFabPort s i p) i = p := by rw [fabPort_setFabPort s i i p present, if_pos rfl]

theorem fabPort_setFabPort_other {j : Nat} (other : j ≠ i) : fabPort (setFabPort s i p) j = fabPort s j := by
  rw [fabPort_setFabPort s i j p present, if_neg other]

end

theorem setFabPort_setFabPort (s : State) (i : Nat) (p q : FabPort) :
    setFabPort (setFabPort s i p) i q = setFabPort s i q := by
  simp [setFabPort]

theorem length_setFabPort (s : State) (i : Nat) (p : FabPort) :
    (setFabPort s i p).fabric.ports.length = s.fabric.ports.length := by
  simp [setFabPort]

/-! ### The part of the state that an operation changes -/

theorem setFabPort_eq (s : State) (i : Nat) (p : FabPort) :
    setFabPort s i p = { s with fabric := (setFabPort s i p).fabric } := rfl

theorem setCtl_eq (s : State) (key obj v : Nat) : setCtl s key obj v = { s with dict := (setCtl s key obj v).dict } := rfl

theorem bump_eq (s : State) (sub n : Nat) : bump s sub n = { s with ctr := (bump s sub n).ctr } := rfl

theorem bump_log (s : State) (sub n : Nat) : (bump s sub n).log = s.log := rfl

theorem raise_eq (s : State) (code sev kind source handle index : Nat) (args : List Nat) :
    raise s code sev kind source handle index args = { s with log := (raise s code sev kind source handle index args).log } := rfl

/-! ### What a port, a counter and a stored value are read from -/

theorem fabPort_of_fabric {s t : State} (same : t.fabric = s.fabric) (j : Nat) : fabPort t j = fabPort s j := by
  rw [fabPort, fabPort, same]

theorem counter_of_ctr {s t : State} (same : t.ctr = s.ctr) (sub : Nat) : counter t sub = counter s sub := by
  rw [counter, counter, same]

theorem ctlObj_of_vals {s t : State} (same : t.dict.vals = s.dict.vals) (key obj : Nat) :
    ctlObj t key obj = ctlObj s key obj := by
  rw [ctlObj, ctlObj, same]

theorem counter_bump_narrow {sub : Nat} (narrow : isWide sub = false) (s : State) (n : Nat) :
    counter (bump s sub n) sub = min (counter s sub + n) 0xFFFFFFFF := by
  simp only [bump, narrow, Bool.false_eq_true, if_false]
  generalize min (counter s sub + n) 0xFFFFFFFF = w
  by_cases zero : w = 0 <;> simp [counter, zero]

/-! ### What may be sent is sent (R336, R340) -/

/-- A port after some frames were sent: they stand in the replay buffer behind those that were there. -/
def afterSending (p : FabPort) (sent : List Sent) (q : FabPort) : FabPort :=
  { p with queue := q.queue, unacked := p.unacked ++ sent, out := q.out, txSeq := q.txSeq, sentFlits := q.sentFlits }

theorem pumpLoop_sends (k : Nat) (p : FabPort) (l : List Queued) :
    ∃ sent, (pumpLoop k p l).1 = afterSending p sent (pumpLoop k p l).1 := by
  induction k generalizing p l with
  | zero => exact ⟨[], by simp [pumpLoop, afterSending]⟩
  | succ k ih =>
    unfold pumpLoop
    split
    · next x _ =>
      obtain ⟨sent, same⟩ := ih (transmit p x) (l ++ [x])
      refine ⟨{ fseq := p.txSeq, rpl := 0, cls := classOf x.frame, frame := x.frame } :: sent, ?_⟩
      rw [same]
      simp [afterSending, transmit]
    · exact ⟨[], by simp [afterSending]⟩

section
variable {s : State} {i : Nat} (present : i < s.fabric.ports.length)
include present

theorem fabPort_pump (j : Nat) : fabPort (pump s i) j
    = withFreedOf (if j = i then (pumpLoop (fabPort s i).queue.length (fabPort s i) []).1 else fabPort s j)
        (fabPort (pump s i) j) := by
  rw [← fabPort_setFabPort s i j _ present]
  exact nth_foldl_freeHomeIn ..

theorem fabPort_pump_same : ∃ sent, fabPort (pump s i) i
    = withFreedOf (afterSending (fabPort s i) sent (fabPort (pump s i) i)) (fabPort (pump s i) i) := by
  obtain ⟨sent, same⟩ := pumpLoop_sends (fabPort s i).queue.length (fabPort s i) []
  have pumped := fabPort_pump present i
  rw [if_pos rfl, same] at pumped
  refine ⟨sent, ?_⟩
  rw [pumped]
  rfl

theorem samePort_pump {j : Nat} (other : j ≠ i) : SamePort (fabPort s j) (fabPort (pump s i) j) := by
  rw [fabPort_pump present j, if_neg other]
  exact samePort_withFreedOf ..

end

section
variable {s : State} {i : Nat} (present : i < s.fabric.ports.length) (p : FabPort)
include present

/-- What the port itself and the others show once it was set and has sent what it may. -/
theorem fabPort_pump_setFabPort : ∃ sent, fabPort (pump (setFabPort s i p) i) i
    = withFreedOf (afterSending p sent (fabPort (pump (setFabPort s i p) i) i)) (fabPort (pump (setFabPort s i p) i) i) := by
  obtain ⟨sent, port⟩ := fabPort_pump_same (s := setFabPort s i p) (length_setFabPort s i p ▸ present)
  rw [fabPort_setFabPort_same present] at port
  exact ⟨sent, port⟩

theorem samePort_pump_setFabPort {j : Nat} (other : j ≠ i) : SamePort (fabPort s j) (fabPort (pump (setFabPort s i p) i) j) := by
  rw [← fabPort_setFabPort_other present p other]
  exact samePort_pump (length_setFabPort s i p ▸ present) other

end

theorem counter_pump_other {n : Nat} (other : n ≠ 0x70) (s : State) (i : Nat) : counter (pump s i) n = counter s n :=
  counter_bump_other other ..

/-- What was counted before does not bear on what a port sends. -/
theorem pump_bump_fabric (s : State) (sub n i : Nat) : (pump (bump s sub n) i).fabric = (pump s i).fabric := rfl

theorem pump_of_empty {s : State} {i : Nat} (empty : (fabPort s i).queue = []) :
    pump s i = bump (setFabPort s i (fabPort s i)) 0x70 0 := by
  simp [pump, empty, pumpLoop, setFabPort]

/-- The one waiting frame of a port goes when credit covers it. -/
theorem pumpLoop_of_one {p : FabPort} {x : Queued} (waiting : p.queue = [x]) (may : maySend p x.frame = true) :
    pumpLoop p.queue.length p [] = (transmit p x, [x]) := by
  have first : sendable p x = true := by simp [sendable, may, waiting]
  have next : nextFrame p = some x := by
    cases urgent : x.frame.tc == 1 <;> simp [nextFrame, waiting, first, urgent]
  simp [waiting, pumpLoop, next]

end Sys2Proof.Machine
end

section
/-!
Link-control flits at a port that is UP: ACK, NAK and CREDIT, and the one that the module sends (R335-R337).
-/
namespace Sys2Proof.Machine

/-- A port that has taken what every link-control flit tells: the peer's module and its credit totals (R335). -/
def told (p : FabPort) (l : LinkControl) : FabPort := { p with peer := l.peerId, peerFreed := l.credits.map (· % 65536) }

theorem takeLc_of_badParity (s : State) (i : Nat) {l : LinkControl} (bad : l.parityOk = false) : takeLc s i l = none := by
  simp [takeLc, bad]

/-! ### One with a parity error is discarded -/

theorem badParityIsDiscarded (s : State) (i : Nat) {l : LinkControl} (bad : l.parityOk = false) :
    exec (.ack i l) s = .next s ∧ exec (.nak i l) s = .next s ∧ exec (.credit i l) s = .next s := by
  have nothing := takeLc_of_badParity s i bad
  change execAck i l s = _ ∧ execNak i l s = _ ∧ execCredit i l s = _
  simp [execAck, execNak, execCredit, nothing, idle]

/-! ### The frame that a flit names -/

/-- The frames that a NAK names are sent again, with RPL one higher (R337). -/
def again (l : List Sent) : List Sent := l.map fun x => { x with rpl := min 3 (x.rpl + 1) }

/-- A port whose replay buffer holds some frames that stay and others that it has sent again. -/
def sentAgain (p : FabPort) (stay resent : List Sent) : FabPort :=
  { p with unacked := stay ++ resent, out := resent.reverse ++ p.out }

theorem unacked_split {before rest : List Sent} {u : Sent} {aseq : Nat} (named : u.fseq = aseq)
    (earlier : ∀ b, b ∈ before → b.fseq ≠ aseq) :
    (before ++ u :: rest).takeWhile (fun x => x.fseq != aseq) = before
      ∧ (before ++ u :: rest).dropWhile (fun x => x.fseq != aseq) = u :: rest := by
  have passed : ∀ b ∈ before, (b.fseq != aseq) = true := fun b member => by simp [earlier b member]
  constructor
  · rw [List.takeWhile_append_of_pos passed]
    simp [named]
  · rw [List.dropWhile_append_of_pos passed]
    simp [named]

section
variable {s : State} {i : Nat} {l : LinkControl} (up : (fabPort s i).state = .up) (good : l.parityOk = true)
include up

theorem present_of_up : i < s.fabric.ports.length := fabPort_exists (by rw [up]; decide)

/-- LINK_CONTROL_SEND (R335). -/
theorem execLinkControlSend_of_up : exec (.linkControlSend i) s = .next (sendLc s i .credit 0) := if_pos up

include good

theorem takeLc_of_goodParity : takeLc s i l = some (setFabPort s i (told (fabPort s i) l)) := by
  simp [takeLc, up, good, told]

section
variable {before rest : List Sent} {u : Sent} (held : (fabPort s i).unacked = before ++ u :: rest)
  (named : u.fseq = l.aseq) (earlier : ∀ b, b ∈ before → b.fseq ≠ l.aseq)
include held named earlier

theorem execAck_of_named : exec (.ack i l) s
    = .next (pump (setFabPort s i { told (fabPort s i) l with unacked := rest }) i) := by
  obtain ⟨-, cut⟩ := unacked_split (rest := rest) named earlier
  change execAck i l s = _
  simp only [execAck, takeLc_of_goodParity up good, fabPort_setFabPort_same (present_of_up up), told, held, cut,
    setFabPort_setFabPort]
  simp [named]

theorem execNak_of_named : exec (.nak i l) s
    = .next (pump (bump (setFabPort s i (sentAgain (told (fabPort s i) l) before (again (u :: rest)))) 0x71
        (u :: rest).length) i) := by
  obtain ⟨kept, cut⟩ := unacked_split (rest := rest) named earlier
  change execNak i l s = _
  simp only [execNak, takeLc_of_goodParity up good, fabPort_setFabPort_same (present_of_up up), told, held, kept, cut,
    setFabPort_setFabPort, List.length_map]
  rfl

/-- ACK retires the frames up to the named one (R337). -/
theorem ackRetiresFrames : ∃ t sent, exec (.ack i l) s = .next t ∧ (fabPort t i).unacked = rest ++ sent
    ∧ (fabPort t i).peer = l.peerId ∧ (fabPort t i).peerFreed = l.credits.map (· % 65536)
    ∧ (∀ j, j ≠ i → SamePort (fabPort s j) (fabPort t j)) ∧ t = { s with fabric := t.fabric, ctr := t.ctr } := by
  have present := present_of_up up
  obtain ⟨sent, port⟩ := fabPort_pump_setFabPort present { told (fabPort s i) l with unacked := rest }
  exact ⟨_, sent, execAck_of_named up good held named earlier, congrArg FabPort.unacked port, congrArg FabPort.peer port,
    congrArg FabPort.peerFreed port, fun _ other => samePort_pump_setFabPort present _ other, rfl⟩

/-- NAK sends the named frame and those after it again (R337). -/
theorem nakSendsAgain : ∃ t sent, exec (.nak i l) s = .next t ∧ (fabPort t i).unacked = before ++ again (u :: rest) ++ sent
    ∧ counter t 0x71 = min (counter s 0x71 + (u :: rest).length) 0xFFFFFFFF
    ∧ (∀ j, j ≠ i → SamePort (fabPort s j) (fabPort t j)) ∧ t = { s with fabric := t.fabric, ctr := t.ctr } := by
  have present := present_of_up up
  obtain ⟨sent, port⟩ := fabPort_pump_setFabPort present (sentAgain (told (fabPort s i) l) before (again (u :: rest)))
  have ports := fabPort_of_fabric (pump_bump_fabric
    (setFabPort s i (sentAgain (told (fabPort s i) l) before (again (u :: rest)))) 0x71 (u :: rest).length i)
  refine ⟨_, sent, execNak_of_named up good held named earlier, ?_, ?_, fun j other => ?_, rfl⟩
  · rw [ports, port]
    rfl
  · rw [counter_pump_other (by decide), counter_bump_narrow (by decide)]
    rfl
  · rw [ports]
    exact samePort_pump_setFabPort present _ other

end

/-! ### CREDIT (R336) -/

theorem execCredit_of_goodParity : exec (.credit i l) s = .next (pump (setFabPort s i (told (fabPort s i) l)) i) := by
  change execCredit i l s = _
  simp only [execCredit, takeLc_of_goodParity up good]

theorem creditSendsTheWaitingFrame {x : Queued} (waiting : (fabPort s i).queue = [x])
    (may : maySend (told (fabPort s i) l) x.frame = true) :
    ∃ t, exec (.credit i l) s = .next t ∧ (fabPort t i).queue = []
      ∧ (fabPort t i).out
        = { fseq := (fabPort s i).txSeq, rpl := 0, cls := classOf x.frame, frame := x.frame } :: (fabPort s i).out
      ∧ (fabPort t i).txSeq = ((fabPort s i).txSeq + 1) % 4096 ∧ counter t 0x70 = (counter s 0x70 + 1) % 2 ^ 64
      ∧ (∀ j, j ≠ i → SamePort (fabPort s j) (fabPort t j)) ∧ t = { s with fabric := t.fabric, ctr := t.ctr } := by
  have present := present_of_up up
  have sends := pumpLoop_of_one (p := told (fabPort s i) l) waiting may
  have port := fabPort_pump (length_setFabPort s i (told (fabPort s i) l) ▸ present) i
  rw [if_pos rfl, fabPort_setFabPort_same present, sends] at port
  have emptied : (transmit (told (fabPort s i) l) x).queue = [] := by simp [transmit, told, waiting]
  refine ⟨_, execCredit_of_goodParity up good, (congrArg FabPort.queue port).trans emptied, congrArg FabPort.out port,
    congrArg FabPort.txSeq port, ?_, fun _ other => samePort_pump_setFabPort present _ other, rfl⟩
  unfold pump
  dsimp only
  rw [counter_bump_wide (by decide), fabPort_setFabPort_same present, sends]
  rfl

theorem creditWithNothingWaiting (empty : (fabPort s i).queue = []) :
    ∃ t, exec (.credit i l) s = .next t ∧ fabPort t i = told (fabPort s i) l
      ∧ (∀ n, counter t n = counter s n ∨ n = 0x70) ∧ t = { s with fabric := t.fabric, ctr := t.ctr } := by
  have same := fabPort_setFabPort_same (present_of_up up) (told (fabPort s i) l)
  have nothing : pump (setFabPort s i (told (fabPort s i) l)) i = bump (setFabPort s i (told (fabPort s i) l)) 0x70 0 := by
    rw [pump_of_empty (by rw [same]; exact empty), same, setFabPort_setFabPort]
  refine ⟨_, execCredit_of_goodParity up good, ?_, fun n => ?_, rfl⟩
  · rw [nothing]
    exact same
  · by_cases sent : n = 0x70
    · exact .inr sent
    · exact .inl (counter_pump_other sent ..)

end

theorem linkControlIsTakenAndSent : Claims.LinkControlIsTakenAndSent :=
  fun s i _ up => ⟨badParityIsDiscarded s i,
    fun good => ⟨fun _ _ _ held named earlier =>
        ⟨ackRetiresFrames up good held named earlier, nakSendsAgain up good held named earlier⟩,
      fun _ waiting may => creditSendsTheWaitingFrame up good waiting may, creditWithNothingWaiting up good⟩,
    execLinkControlSend_of_up up⟩

end Sys2Proof.Machine
end

section
/-!
Fabric ports come up and go down: training, the loss of FEC lock, and PORT_ENABLE (R338).
-/
namespace Sys2Proof.Machine

/-! ### Training -/

/-- A port whose training is complete: FSEQ 0 each way, nothing held, full credits (R338). -/
def trained (p : FabPort) (now : Nat) : FabPort :=
  { p with state := .up, since := now, txSeq := 0, rxSeq := 0, nakked := false, unacked := [], queue := [], unrec := [],
           sentFlits := List.replicate 8 0, peerFreed := List.replicate 8 0, freed := List.replicate 8 0, lastLc := now }

theorem creditOf_trained (p : FabPort) (now c : Nat) : creditOf (trained p now) c = 512 := by
  simp [creditOf, trained]

section
variable {s : State} {i : Nat} (training : (fabPort s i).state = .training)
include training

theorem present_of_training : i < s.fabric.ports.length := fabPort_exists (by rw [training]; decide)

theorem trainingEndsUp : ∃ t, exec (.portTrainingDone i) s = .next t ∧ (fabPort t i).state = .up ∧ (fabPort t i).txSeq = 0
    ∧ (fabPort t i).rxSeq = 0 ∧ (fabPort t i).unacked = [] ∧ (∀ c, c < 8 → creditOf (fabPort t i) c = 512)
    ∧ (∀ j, j ≠ i → fabPort t j = fabPort s j) ∧ t = { s with fabric := t.fabric } := by
  have present := present_of_training training
  have answer : exec (.portTrainingDone i) s = .next (setFabPort s i (trained (fabPort s i) s.time.tick)) := if_pos training
  refine ⟨_, answer, ?_⟩
  rw [fabPort_setFabPort_same present]
  exact ⟨rfl, rfl, rfl, rfl, fun c _ => creditOf_trained .., fun _ other => fabPort_setFabPort_other present _ other, rfl⟩

theorem longTrainingRestarts (late : (fabPort s i).since + 500000000 ≤ s.time.tick) :
    ∃ t, exec (.portTrainingTimeout i) s = .next t ∧ fabPort t i = { fabPort s i with since := s.time.tick }
      ∧ (∀ j, j ≠ i → fabPort t j = fabPort s j) ∧ t.log.next = s.log.next + 1
      ∧ t = { s with fabric := t.fabric, log := t.log } := by
  have present := present_of_training training
  exact ⟨_, if_pos ⟨training, late⟩, fabPort_setFabPort_same present _, fun _ other => fabPort_setFabPort_other present _ other,
    raise_next .., rfl⟩

end

theorem shortTrainingGoesOn {s : State} {i : Nat} (early : s.time.tick < (fabPort s i).since + 500000000) :
    exec (.portTrainingTimeout i) s = .next s := if_neg (by omega)

/-! ### A port goes down -/

theorem forgetHome_eq (s : State) (i : Nat) : forgetHome s i = { s with fabric := (forgetHome s i).fabric } := rfl

/-- A waiting frame that owes no credit at a port any more. -/
def withoutHome (i : Nat) (x : Queued) : Queued := { x with home := x.home.filter fun h => h.1 != i }

theorem fabPort_forgetHome (s : State) (i j : Nat) :
    fabPort (forgetHome s i) j = { fabPort s j with queue := (fabPort s j).queue.map (withoutHome i) } := by
  simp only [fabPort, nth, forgetHome, List.getD_eq_getElem?_getD, List.getElem?_map]
  cases s.fabric.ports[j]? <;> rfl

theorem samePort_forgetHome (s : State) (i j : Nat) : SamePort (fabPort s j) (fabPort (forgetHome s i) j) := by
  rw [fabPort_forgetHome]
  exact ⟨rfl, by simp [withoutHome]⟩

/-- Whether the port led to the time parent or not, its loss concerns time and log alone (R350). -/
theorem timeParentLost_spec (s : State) (i : Nat) :
    ∃ time log, s.log.next ≤ log.next ∧ timeParentLost s i = { s with time := time, log := log } := by
  unfold timeParentLost
  split
  · exact ⟨_, (raise _ 0x0507 2).log, (raise_next ..).symm ▸ Nat.le_succ _, rfl⟩
  · exact ⟨s.time, s.log, Nat.le_refl _, rfl⟩

/-- The ports as they go down at one of them: forwarded frames leave their classes, and nothing is owed there any more. -/
def unhomed (s : State) (i : Nat) : State :=
  forgetHome { s with fabric := { s.fabric with ports := (fabPort s i).queue.foldl freeHomeIn s.fabric.ports } } i

theorem samePort_unhomed (s : State) (i j : Nat) : SamePort (fabPort s j) (fabPort (unhomed s i) j) := by
  refine .trans ?_ (samePort_forgetHome _ i j)
  have freed := nth_foldl_freeHomeIn (fabPort s i).queue s.fabric.ports j
  rw [fabPort, fabPort, freed]
  exact samePort_withFreedOf ..

theorem length_unhomed (s : State) (i : Nat) : (unhomed s i).fabric.ports.length = s.fabric.ports.length := by
  simp [unhomed, forgetHome, length_foldl_freeHomeIn]

/-- The frames that a port discards as it goes down: those that wait and those that are unacknowledged. -/
def discarded (p : FabPort) : Nat := p.queue.length + p.unacked.length

theorem SamePort.discarded {p q : FabPort} (same : SamePort p q) : discarded q = discarded p := by
  obtain ⟨fields, waiting⟩ := same
  have unacked : q.unacked = p.unacked := by rw [fields]
  have queue : q.queue.length = p.queue.length := by simpa using congrArg List.length waiting
  rw [Machine.discarded, Machine.discarded, queue, unacked]

/-- A port in a state other than UP, with nothing held. -/
def downed (p : FabPort) (next : PortState) (now : Nat) : FabPort :=
  { p with state := next, since := now, queue := [], unacked := [], unrec := [], nakked := false }

/-- The ports once one of them is down. -/
def downPorts (s : State) (i : Nat) (next : PortState) : State :=
  setFabPort (unhomed s i) i (downed (fabPort (unhomed s i) i) next s.time.tick)

theorem fabPort_downPorts {s : State} {i : Nat} (present : i < s.fabric.ports.length) (next : PortState) :
    fabPort (downPorts s i next) i = downed (fabPort (unhomed s i) i) next s.time.tick :=
  fabPort_setFabPort_same (length_unhomed s i ▸ present) _

theorem samePort_downPorts {s : State} {i j : Nat} (present : i < s.fabric.ports.length) (other : j ≠ i) (next : PortState) :
    SamePort (fabPort s j) (fabPort (downPorts s i next) j) := by
  rw [downPorts, fabPort_setFabPort_other (length_unhomed s i ▸ present) _ other]
  exact samePort_unhomed s i j

theorem downPorts_ctr (s : State) (i : Nat) (next : PortState) : (downPorts s i next).ctr = s.ctr := rfl

theorem unhomed_eq (s : State) (i : Nat) : unhomed s i = { s with fabric := (unhomed s i).fabric } :=
  forgetHome_eq _ i

theorem downPorts_eq (s : State) (i : Nat) (next : PortState) :
    downPorts s i next = { s with fabric := (downPorts s i next).fabric } :=
  congrArg (fun u => setFabPort u i (downed (fabPort (unhomed s i) i) next s.time.tick)) (unhomed_eq s i)

/-- A port goes down: besides the ports its discarded frames are counted, and time and log may change. -/
theorem portDown_eq (s : State) (i : Nat) (next : PortState) (arg : Nat) :
    ∃ time log, s.log.next < log.next ∧ portDown s i next arg
      = { s with fabric := (downPorts s i next).fabric, ctr := (bump (downPorts s i next) 0x74 (discarded (fabPort s i))).ctr,
                 time := time, log := log } := by
  have same : portDown s i next arg = timeParentLost (raise (bump (downPorts s i next) 0x74 (discarded (fabPort (unhomed s i) i)))
    0x0502 2 5 i (args := [arg])) i := rfl
  obtain ⟨time, log, later, lost⟩ := timeParentLost_spec
    (raise (bump (downPorts s i next) 0x74 (discarded (fabPort s i))) 0x0502 2 5 i (args := [arg])) i
  rw [raise_next, bump_log, downPorts_eq] at later
  refine ⟨time, log, later, ?_⟩
  rw [same, (samePort_unhomed s i i).discarded, lost, raise_eq, bump_eq, downPorts_eq]

/-- What the loss of a port leaves of its state and its frames, of the other ports, and of all else (R338). -/
structure WentDown (s : State) (i : Nat) (next : PortState) (t : State) : Prop where
  state : (fabPort t i).state = next
  queue : (fabPort t i).queue = []
  unacked : (fabPort t i).unacked = []
  count : counter t 0x74 = min (counter s 0x74 + discarded (fabPort s i)) 0xFFFFFFFF
  logged : s.log.next < t.log.next
  others : ∀ j, j ≠ i → SamePort (fabPort s j) (fabPort t j)
  dict : t.dict = s.dict
  rest : t = { s with fabric := t.fabric, ctr := t.ctr, log := t.log, time := t.time }

theorem portDown_wentDown {s : State} {i : Nat} (present : i < s.fabric.ports.length) (next : PortState) (arg : Nat) :
    WentDown s i next (portDown s i next arg) := by
  obtain ⟨time, log, later, down⟩ := portDown_eq s i next arg
  have ports : (portDown s i next arg).fabric = (downPorts s i next).fabric := by rw [down]
  have counters : (portDown s i next arg).ctr = (bump (downPorts s i next) 0x74 (discarded (fabPort s i))).ctr := by rw [down]
  have port := (fabPort_of_fabric ports i).trans (fabPort_downPorts present next)
  exact {
    state := by rw [port]; rfl
    queue := by rw [port]; rfl
    unacked := by rw [port]; rfl
    count := by rw [counter_of_ctr counters, counter_bump_narrow (by decide), counter_of_ctr (downPorts_ctr ..)]
    logged := by rw [down]; exact later
    others := fun j other => by rw [fabPort_of_fabric ports]; exact samePort_downPorts present other next
    dict := by rw [down]
    rest := by rw [down] }

theorem lossOfLockTrainsAgain {s : State} {i : Nat} (up : (fabPort s i).state = .up) :
    ∃ t, exec (.fecLockLost i 1) s = .next t ∧ (fabPort t i).state = .training ∧ (fabPort t i).queue = []
      ∧ (fabPort t i).unacked = []
      ∧ counter t 0x74 = min (counter s 0x74 + (fabPort s i).queue.length + (fabPort s i).unacked.length) 0xFFFFFFFF
      ∧ s.log.next < t.log.next ∧ (∀ j, j ≠ i → SamePort (fabPort s j) (fabPort t j))
      ∧ t = { s with fabric := t.fabric, ctr := t.ctr, log := t.log, time := t.time } := by
  obtain ⟨state, queue, unacked, count, logged, others, -, rest⟩ := portDown_wentDown (present_of_up up) .training 1
  rw [discarded, ← Nat.add_assoc] at count
  exact ⟨_, if_pos ⟨up, .inl rfl⟩, state, queue, unacked, count, logged, others, rest⟩

/-! ### PORT_ENABLE -/

/-- The entries of the fabric whose writes act on ports or time are no selectors. -/
theorem not_selector_of_fabric : ∀ e ∈ dictEntries, e.key ∈ [0x801101, 0x800003, 0x800004] → e.sel = false := by
  decide +kernel

theorem entryAt_fabric {key : Nat} {e : DictEnt} (entry : entryAt key = some e)
    (fabric : key ∈ [0x801101, 0x800003, 0x800004]) : e.key = key ∧ e.sel = false := by
  have same := key_of_entryAt entry
  exact ⟨same, not_selector_of_fabric e (List.mem_of_find?_eq_some entry) (same ▸ fabric)⟩

theorem applyWrite_portEnable {path obj v : Nat} {e : DictEnt} (entry : entryAt 0x801101 = some e) (u : State) :
    applyWrite u path e obj v = enablePort u obj v := by
  obtain ⟨key, plain⟩ := entryAt_fabric entry (by decide)
  simp [applyWrite, key, plain]

theorem ctlObj_setCtl_same (s : State) (key obj v : Nat) : ctlObj (setCtl s key obj v) key obj = v := by
  rw [ctlObj_setCtl, if_pos rfl]
  split
  · next default_ => exact default_.symm
  · rfl

theorem enablePort_zero (s : State) (i : Nat) :
    enablePort s i 0 = portDown (setCtl s 0x801101 i 0) i .disabled Config.portDisabledArg := rfl

theorem enablePort_one {s : State} {i : Nat} (disabled : (fabPort s i).state = .disabled) (rails : railsOn s = true) :
    enablePort s i 1 = setFabPort (setCtl s 0x801101 i 1) i { fabPort s i with state := .training, since := s.time.tick } :=
  if_pos ⟨disabled, rails⟩

theorem portDown_dict (s : State) (i : Nat) (next : PortState) (arg : Nat) : (portDown s i next arg).dict = s.dict := by
  obtain ⟨time, log, -, down⟩ := portDown_eq s i next arg
  rw [down]

theorem enablePort_restart (s : State) (i v : Nat) : (enablePort s i v).dict.restart = s.dict.restart := by
  unfold enablePort
  dsimp only
  split
  · rw [portDown_dict]
    rfl
  · split <;> rfl

theorem fabPort_withPaths (s : State) (l : List Path) (j : Nat) : fabPort (withPaths s l) j = fabPort s j := rfl

theorem fabPort_setCtl (s : State) (key obj v j : Nat) : fabPort (setCtl s key obj v) j = fabPort s j := rfl

theorem ctlObj_withPaths (s : State) (l : List Path) (key obj : Nat) : ctlObj (withPaths s l) key obj = ctlObj s key obj := rfl

theorem ctlObj_setFabPort (s : State) (i : Nat) (p : FabPort) (key obj : Nat) :
    ctlObj (setFabPort s i p) key obj = ctlObj s key obj := rfl

section
variable {s : State} {path i v : Nat} {e : DictEnt} (entry : entryAt 0x801101 = some e)
  (object : objOf (dropStage (usePath s path) path) path [] e = some i) (present : i < s.fabric.ports.length)
  (ok : WriteOk s path 0x801101 v)
include entry object ok

theorem execPortEnable_of_ok : ∃ before after,
    exec (.portEnable path v) s = .next (withPaths (enablePort (withPaths s before) i v) after) := by
  obtain ⟨before, after, done⟩ :=
    writeOne_of_ok ok (by decide) entry object (applyWrite_portEnable entry) (enablePort_restart · i v)
  exact ⟨before, after, congrArg Host.Outcome.next done⟩

include present

theorem enabledPortTrains (one : v = 1) (disabled : (fabPort s i).state = .disabled) (rails : railsOn s = true) :
    ∃ t, exec (.portEnable path v) s = .next t ∧ (fabPort t i).state = .training ∧ ctlObj t 0x801101 i = 1
      ∧ (∀ j, j ≠ i → fabPort t j = fabPort s j) ∧ t = { s with dict := t.dict, fabric := t.fabric } := by
  subst one
  obtain ⟨before, after, done⟩ := execPortEnable_of_ok entry object ok
  rw [enablePort_one (s := withPaths s before) disabled rails] at done
  have present' : i < (setCtl (withPaths s before) 0x801101 i 1).fabric.ports.length := present
  refine ⟨_, done, ?_, ?_, fun j other => ?_, ?_⟩
  · rw [fabPort_withPaths, fabPort_setFabPort_same present']
  · rw [ctlObj_withPaths, ctlObj_setFabPort, ctlObj_setCtl_same]
  · rw [fabPort_withPaths, fabPort_setFabPort_other present' _ other, fabPort_setCtl, fabPort_withPaths]
  · rw [setFabPort_eq, setCtl_eq]
    rfl

theorem disabledPortGoesDown (zero : v = 0) :
    ∃ t, exec (.portEnable path v) s = .next t ∧ (fabPort t i).state = .disabled ∧ (fabPort t i).queue = []
      ∧ (fabPort t i).unacked = [] ∧ ctlObj t 0x801101 i = 0 ∧ (∀ j, j ≠ i → SamePort (fabPort s j) (fabPort t j))
      ∧ t = { s with dict := t.dict, fabric := t.fabric, ctr := t.ctr, log := t.log, time := t.time } := by
  subst zero
  obtain ⟨before, after, done⟩ := execPortEnable_of_ok entry object ok
  rw [enablePort_zero] at done
  obtain ⟨state, queue, unacked, -, -, others, dict, rest⟩ :=
    portDown_wentDown (s := setCtl (withPaths s before) 0x801101 i 0) present .disabled Config.portDisabledArg
  refine ⟨_, done, state, queue, unacked, ?_, others, ?_⟩
  · rw [ctlObj_withPaths, ctlObj_of_vals (congrArg Dict.vals dict), ctlObj_setCtl_same]
  · rw [rest]
    rfl

end

theorem fabricPortsComeUpAndGoDown : Claims.FabricPortsComeUpAndGoDown :=
  ⟨fun _ _ => ⟨fun training => ⟨trainingEndsUp training, longTrainingRestarts training, shortTrainingGoesOn⟩,
      lossOfLockTrainsAgain⟩,
    fun _ _ _ _ _ entry object present ok =>
      ⟨enabledPortTrains entry object present ok, disabledPortGoesDown entry object present ok⟩⟩

/-- Settles O47: the ports' states follow R338, and link-control flits do what R335-R337 say. -/
theorem fabricPortsAndTheirLinkControl : Obligations.FabricPortsAndTheirLinkControl :=
  ⟨fabricPortsComeUpAndGoDown, linkControlIsTakenAndSent⟩

end Sys2Proof.Machine
end

section
/-!
Time synchronisation with the parent, and the module's time role (R349, R350).
-/
namespace Sys2Proof.Machine

/-! ### The module asks (R349) -/

/-- The time base once an exchange has been sent. -/
def asked (s : State) (lag : Nat) : TimeBase :=
  { s.time with exch := some { num := s.time.nextNum, t1 := seenTime s lag, sent := s.time.tick },
                nextNum := (s.time.nextNum + 1) % 4096, lastStart := some s.time.tick }

section
variable {s : State} {i : Nat} (up : (fabPort s i).state = .up) (lag : Nat) (parent : ctl s 0x800004 = i) (bound : i < 8)
  (sync : s.time.sync = .acquire ∨ s.time.sync = .locked ∨ s.time.sync = .holdover) (free : s.time.exch = none)
  (due : ∀ x, s.time.lastStart = some x → x + ctl s 0x800005 ≤ s.time.tick)
include up parent bound sync free due

theorem execTimeExchangeStart_of_due : exec (.timeExchangeStart lag) s
    = .next (sendLc { s with time := asked s lag } i .timeReq s.time.nextNum (seenTime s lag)) := by
  subst parent
  change execTimeExchangeStart lag s = _
  cases last : s.time.lastStart with
  | none =>
    simp only [execTimeExchangeStart, last, bound, sync, up, free]
    rfl
  | some x =>
    simp only [execTimeExchangeStart, last, bound, sync, up, free, due x last]
    rfl

theorem exchangeStarts : ∃ t, exec (.timeExchangeStart lag) s = .next t ∧ t.time = asked s lag
    ∧ (fabPort t i).lc = { op := .timeReq, aseq := s.time.nextNum, peerId := myId s, credits := (fabPort s i).freed,
                           tA := seenTime s lag } :: (fabPort s i).lc
    ∧ t = { s with time := t.time, fabric := t.fabric } :=
  ⟨_, execTimeExchangeStart_of_due up lag parent bound sync free due, rfl,
    congrArg FabPort.lc (fabPort_setFabPort_same (present_of_up up) _), rfl⟩

end

/-! ### What the module asks and answers of an UP port's peer -/

/-- The state once a link-control flit without errors has been taken, and what its totals cover has been sent. -/
def heard (s : State) (i : Nat) (l : LinkControl) : State := pump (setFabPort s i (told (fabPort s i) l)) i

theorem pump_told (s : State) (i : Nat) (l : LinkControl) : pump (setFabPort s i (told (fabPort s i) l)) i = heard s i l := rfl

theorem heard_time (s : State) (i : Nat) (l : LinkControl) : (heard s i l).time = s.time := rfl

theorem ctl_heard (s : State) (i : Nat) (l : LinkControl) (key : Nat) : ctl (heard s i l) key = ctl s key := rfl

theorem seenTime_heard (s : State) (i : Nat) (l : LinkControl) (lag : Nat) : seenTime (heard s i l) lag = seenTime s lag := rfl

/-- The time base once an answer has stepped it by an offset, in ACQUIRE (R350). -/
def stepped (t : TimeBase) (off : Int) : TimeBase :=
  { t with exch := none, missed := 0, offset := off, base := (t.base + off).toNat, sync := .locked, slewLeft := 0 }

/-- The time base once an answer has left an offset to be slewed, in LOCKED and HOLDOVER (R350). -/
def slewed (t : TimeBase) (off : Int) : TimeBase :=
  { t with exch := none, missed := 0, offset := off, sync := .locked, slewLeft := off }

/-- An answer to the exchange under way, from the parent's port and in time, is not dropped. -/
theorem not_dropped {s : State} {i aseq : Nat} {e : Exchange} (num : e.num = aseq) (parent : ctl s 0x800004 = i)
    (inTime : s.time.tick ≤ e.sent + 10000) : ¬(e.num ≠ aseq ∨ ctl s 0x800004 ≠ i ∨ e.sent + 10000 < s.time.tick) := by
  omega

section
variable {s : State} {i : Nat} {l : LinkControl} (up : (fabPort s i).state = .up) (good : l.parityOk = true)
include up good

theorem execTimeReq_of_up (lagIn lagOut : Nat) : exec (.timeReq i l lagIn lagOut) s
    = .next (sendLc (heard s i l) i .timeRsp l.aseq (seenTime s lagIn) (seenTime s lagOut)) := by
  change execTimeReq i l lagIn lagOut s = _
  simp only [execTimeReq, takeLc_of_goodParity up good]
  rfl

omit good in
theorem present_heard : i < (heard s i l).fabric.ports.length := by
  simpa [heard, pump, length_foldl_freeHomeIn, setFabPort] using present_of_up up

omit good in
theorem heard_lc : (fabPort (heard s i l) i).lc = (fabPort s i).lc := by
  obtain ⟨sent, port⟩ := fabPort_pump_setFabPort (present_of_up up) (told (fabPort s i) l)
  rw [heard, port]
  rfl

theorem requestsAreAnswered (lagIn lagOut : Nat) : ∃ t, exec (.timeReq i l lagIn lagOut) s = .next t
    ∧ (fabPort t i).lc = { op := .timeRsp, aseq := l.aseq, peerId := myId s, credits := (fabPort t i).freed,
                           tA := seenTime s lagIn, tB := seenTime s lagOut } :: (fabPort s i).lc
    ∧ t = { s with fabric := t.fabric, ctr := t.ctr } := by
  refine ⟨_, execTimeReq_of_up up good lagIn lagOut, ?_, rfl⟩
  rw [← heard_lc up (l := l), sendLc, fabPort_setFabPort_same (present_heard up)]
  rfl

/-! ### The answer (R349, R350) -/

variable {e : Exchange} (exch : s.time.exch = some e) (lag : Nat)
include exch

theorem execTimeRsp_of_late (late : e.sent + 10000 < s.time.tick) : exec (.timeRsp i l lag) s = .next (heard s i l) := by
  change execTimeRsp i l lag s = _
  simp only [execTimeRsp, takeLc_of_goodParity up good, pump_told, heard_time, exch]
  exact if_pos (.inr (.inr late))

theorem lateAnswersAreDropped (late : e.sent + 10000 < s.time.tick) : ∃ t, exec (.timeRsp i l lag) s = .next t
    ∧ t.time = s.time ∧ t = { s with fabric := t.fabric, ctr := t.ctr } :=
  ⟨_, execTimeRsp_of_late up good exch lag late, rfl, rfl⟩

variable (num : e.num = l.aseq) (parent : ctl s 0x800004 = i) (inTime : s.time.tick ≤ e.sent + 10000)
include num parent inTime

theorem execTimeRsp_of_acquire (sync : s.time.sync = .acquire) : exec (.timeRsp i l lag) s
    = .next (raise { heard s i l with time := stepped s.time (exchangeOffset e.t1 l.tA l.tB (seenTime s lag)) }
        0x0506 1 (args := [arg64 (exchangeOffset e.t1 l.tA l.tB (seenTime s lag))])) := by
  have awaited := not_dropped num parent inTime
  change execTimeRsp i l lag s = _
  simp only [execTimeRsp, takeLc_of_goodParity up good, pump_told, heard_time, ctl_heard, seenTime_heard, exch, if_neg awaited,
    sync]
  rfl

theorem execTimeRsp_of_locked (sync : s.time.sync = .locked) : exec (.timeRsp i l lag) s
    = .next (if 1000 < (exchangeOffset e.t1 l.tA l.tB (seenTime s lag)).natAbs then
        raise { heard s i l with time := slewed s.time (exchangeOffset e.t1 l.tA l.tB (seenTime s lag)) }
          0x0508 1 (args := [arg64 (exchangeOffset e.t1 l.tA l.tB (seenTime s lag))])
      else { heard s i l with time := slewed s.time (exchangeOffset e.t1 l.tA l.tB (seenTime s lag)) }) := by
  have awaited := not_dropped num parent inTime
  change execTimeRsp i l lag s = _
  simp only [execTimeRsp, takeLc_of_goodParity up good, pump_told, heard_time, ctl_heard, seenTime_heard, exch, if_neg awaited,
    sync]
  split <;> rfl

theorem execTimeRsp_of_holdover (sync : s.time.sync = .holdover) : exec (.timeRsp i l lag) s
    = .next { heard s i l with time := slewed s.time (exchangeOffset e.t1 l.tA l.tB (seenTime s lag)) } := by
  have awaited := not_dropped num parent inTime
  change execTimeRsp i l lag s = _
  simp only [execTimeRsp, takeLc_of_goodParity up good, pump_told, heard_time, ctl_heard, seenTime_heard, exch, if_neg awaited,
    sync]
  rfl

theorem acquireSteps (sync : s.time.sync = .acquire) {off : Int} (offset : off = exchangeOffset e.t1 l.tA l.tB (seenTime s lag)) :
    ∃ t, exec (.timeRsp i l lag) s = .next t ∧ t.log.next = s.log.next + 1 ∧ t.time = stepped s.time off
      ∧ t = { s with time := t.time, fabric := t.fabric, ctr := t.ctr, log := t.log } := by
  subst offset
  exact ⟨_, execTimeRsp_of_acquire up good exch lag num parent inTime sync, raise_next .., rfl, rfl⟩

theorem lockedSlews (sync : s.time.sync = .locked ∨ s.time.sync = .holdover) {off : Int}
    (offset : off = exchangeOffset e.t1 l.tA l.tB (seenTime s lag)) :
    ∃ t, exec (.timeRsp i l lag) s = .next t ∧ t.time = slewed s.time off
      ∧ (s.time.sync = .locked → 1000 < off.natAbs → t.log.next = s.log.next + 1)
      ∧ t = { s with time := t.time, fabric := t.fabric, ctr := t.ctr, log := t.log } := by
  subst offset
  rcases sync with locked | holdover
  · refine ⟨_, execTimeRsp_of_locked up good exch lag num parent inTime locked, ?_⟩
    split
    · exact ⟨rfl, fun _ _ => raise_next .., rfl⟩
    · next small => exact ⟨rfl, fun _ large => absurd large small, rfl⟩
  · exact ⟨_, execTimeRsp_of_holdover up good exch lag num parent inTime holdover, rfl,
      fun locked => by simp [locked] at holdover, rfl⟩

end

/-! ### An exchange without an answer (R349, R350) -/

section
variable {s : State} {e : Exchange} (exch : s.time.exch = some e)
include exch

theorem execTimeExchangeTimeout_of_early (early : s.time.tick < e.sent + 10000) : exec .timeExchangeTimeout s = .next s := by
  change execTimeExchangeTimeout s = _
  simp only [execTimeExchangeTimeout, exch]
  exact if_neg (by omega)

theorem unansweredExchangeIsDropped (late : e.sent + 10000 ≤ s.time.tick) :
    ∃ t, exec .timeExchangeTimeout s = .next t ∧ t.time.exch = none ∧ t.time.missed = s.time.missed + 1
      ∧ t.time.base = s.time.base
      ∧ t.time.sync = (if s.time.sync = .locked ∧ 8 ≤ s.time.missed + 1 then .holdover else s.time.sync)
      ∧ t = { s with time := t.time, log := t.log } := by
  change ∃ t, execTimeExchangeTimeout s = _ ∧ _
  simp only [execTimeExchangeTimeout, exch, if_pos late]
  split
  · exact ⟨_, rfl, rfl, rfl, rfl, rfl, rfl⟩
  · exact ⟨_, rfl, rfl, rfl, rfl, rfl, rfl⟩

end

/-! ### TIME_SLEW (R350) -/

section
variable {s : State} (due : ∀ x, s.time.lastSlew = some x → x + 5000 ≤ s.time.tick)
include due

theorem execTimeSlew_forward (left : 0 < s.time.slewLeft) : exec .timeSlew s = .next (passTime s { s.time with
    base := s.time.base + 41, tick := s.time.tick + 40, slewLeft := s.time.slewLeft - 1, lastSlew := some s.time.tick }) := by
  have some_ : s.time.slewLeft ≠ 0 := by omega
  change execTimeSlew s = _
  cases last : s.time.lastSlew with
  | none =>
    simp only [execTimeSlew, last]
    rw [if_neg (by simp [some_]), if_pos left]
  | some x =>
    simp only [execTimeSlew, last]
    rw [if_neg (by simp [some_, due x last]), if_pos left]

theorem execTimeSlew_backward (left : s.time.slewLeft < 0) : exec .timeSlew s = .next (passTime s { s.time with
    base := s.time.base + 39, tick := s.time.tick + 40, slewLeft := s.time.slewLeft + 1, lastSlew := some s.time.tick }) := by
  have some_ : s.time.slewLeft ≠ 0 := by omega
  have back : ¬0 < s.time.slewLeft := by omega
  change execTimeSlew s = _
  cases last : s.time.lastSlew with
  | none =>
    simp only [execTimeSlew, last]
    rw [if_neg (by simp [some_]), if_neg back]
  | some x =>
    simp only [execTimeSlew, last]
    rw [if_neg (by simp [some_, due x last]), if_neg back]

end

theorem execTimeSlew_of_recent {s : State} {x : Nat} (last : s.time.lastSlew = some x) (recent : s.time.tick < x + 5000) :
    exec .timeSlew s = .next s := by
  have notDue : decide (x + 5000 ≤ s.time.tick) = false := decide_eq_false (by omega)
  change execTimeSlew s = _
  simp only [execTimeSlew, last]
  exact if_pos (.inr notDue)

theorem exchangesWithTheParent : Claims.TimeIsExchangedWithTheParent :=
  fun _ _ up => ⟨exchangeStarts up,
    fun _ good => ⟨requestsAreAnswered up good, fun lag _ exch => lateAnswersAreDropped up good exch lag,
      fun lag _ _ exch num parent inTime offset => ⟨fun sync => acquireSteps up good exch lag num parent inTime sync offset,
        fun sync => lockedSlews up good exch lag num parent inTime sync offset⟩⟩,
    fun _ exch => ⟨unansweredExchangeIsDropped exch, execTimeExchangeTimeout_of_early exch⟩,
    fun due => ⟨execTimeSlew_forward due, execTimeSlew_backward due⟩, fun _ last => execTimeSlew_of_recent last⟩

end Sys2Proof.Machine
end

section
/-!
TIME_MASTER and TIME_PARENT_PORT (R350).
-/
namespace Sys2Proof.Machine

theorem ctl_setCtl_same (s : State) (key v : Nat) : ctl (setCtl s key 0 v) key = v := ctlObj_setCtl_same s key 0 v

/-! ### TIME_MASTER -/

/-- The time base of a module that takes another role; what was under way with the old one ends. -/
def inRole (t : TimeBase) (sync : TimeState) : TimeBase := { t with sync := sync, exch := none, missed := 0, slewLeft := 0 }

/-- The time base after a write of TIME_MASTER. -/
def afterMaster (t : TimeBase) (v : Nat) : TimeBase :=
  if t.sync = .free ∧ v = 1 then inRole t .master else if t.sync = .master ∧ v = 0 then inRole t .free else t

theorem setMaster_eq (s : State) (v : Nat) :
    setMaster s v = { s with dict := (setCtl s 0x800003 0 v).dict, time := afterMaster s.time v } := by
  unfold setMaster afterMaster
  dsimp only
  rw [setCtl_eq]
  dsimp only
  split
  · rfl
  · split <;> rfl

theorem applyWrite_timeMaster {path obj v : Nat} {e : DictEnt} (entry : entryAt 0x800003 = some e) (u : State) :
    applyWrite u path e obj v = setMaster u v := by
  obtain ⟨key, plain⟩ := entryAt_fabric entry (by decide)
  simp [applyWrite, key, plain]

theorem masterEntryGivesTheRole {s : State} {path v : Nat} (ok : WriteOk s path 0x800003 v) :
    ∃ t, exec (.timeMaster path v) s = .next t ∧ ctl t 0x800003 = v ∧ t.time = afterMaster s.time v
      ∧ t = { s with dict := t.dict, time := t.time } := by
  obtain ⟨e, obj, entry, object⟩ := exists_obj_of_writeOk ok
  obtain ⟨before, after, done⟩ := writeOne_of_ok ok (by decide) entry object (applyWrite_timeMaster entry)
    fun u => by rw [setMaster_eq]; rfl
  rw [setMaster_eq] at done
  exact ⟨_, congrArg Host.Outcome.next done, ctl_setCtl_same (withPaths s before) 0x800003 v, rfl, rfl⟩

/-! ### TIME_PARENT_PORT -/

/-- The time base of a module that has lost its parent. -/
def heldOver (t : TimeBase) : TimeBase := { t with sync := .holdover, slewLeft := 0, exch := none }

/-- The time base after a write of TIME_PARENT_PORT. -/
def afterParent (s : State) (v : Nat) : TimeBase :=
  if s.time.sync = .free ∧ v < 8 then inRole s.time .acquire
  else if s.time.sync ≠ .master ∧ v = 0xFF then inRole s.time .free
  else if v < 8 ∧ (fabPort s v).state ≠ .up ∧ s.time.sync = .locked then heldOver s.time
  else s.time

/-- The port that TIME_PARENT_PORT names is lost: only a LOCKED module goes to HOLDOVER. -/
theorem timeParentLost_of_parent {s : State} {i : Nat} (parent : ctl s 0x800004 = i) :
    ∃ log, timeParentLost s i
      = { s with time := if s.time.sync = .locked then heldOver s.time else s.time, log := log } := by
  by_cases locked : s.time.sync = .locked
  · have lost : timeParentLost s i = raise { s with time := heldOver s.time } 0x0507 2 := if_pos (by simp [locked, parent])
    refine ⟨(raise { s with time := heldOver s.time } 0x0507 2).log, ?_⟩
    rw [lost, if_pos locked, raise_eq]
  · exact ⟨s.log, by simp [timeParentLost, locked]⟩

theorem setParent_eq (s : State) (v : Nat) :
    ∃ log, setParent s v = { s with dict := (setCtl s 0x800004 0 v).dict, time := afterParent s v, log := log } := by
  unfold setParent afterParent
  dsimp only
  obtain ⟨log, lost⟩ := timeParentLost_of_parent (ctl_setCtl_same s 0x800004 v)
  rw [lost, fabPort_setCtl, setCtl_eq]
  dsimp only
  split
  · exact ⟨s.log, rfl⟩
  · split
    · exact ⟨s.log, rfl⟩
    · split
      · next down => exact ⟨log, by simp [down]⟩
      · next stays => exact ⟨s.log, by rw [if_neg fun h => stays ⟨h.1, h.2.1⟩]⟩

theorem applyWrite_timeParentPort {path obj v : Nat} {e : DictEnt} (entry : entryAt 0x800004 = some e) (u : State) :
    applyWrite u path e obj v = setParent u v := by
  obtain ⟨key, plain⟩ := entryAt_fabric entry (by decide)
  simp [applyWrite, key, plain]

theorem setParent_restart (s : State) (v : Nat) : (setParent s v).dict.restart = s.dict.restart := by
  obtain ⟨log, same⟩ := setParent_eq s v
  rw [same]
  rfl

theorem execTimeParentPort_of_ok {s : State} {path v : Nat} (ok : WriteOk s path 0x800004 v) :
    ∃ t, exec (.timeParentPort path v) s = .next t ∧ ctl t 0x800004 = v ∧ t.time = afterParent s v
      ∧ t = { s with dict := t.dict, time := t.time, log := t.log } := by
  obtain ⟨e, obj, entry, object⟩ := exists_obj_of_writeOk ok
  obtain ⟨before, after, done⟩ := writeOne_of_ok ok (by decide) entry object (applyWrite_timeParentPort entry)
    (setParent_restart · v)
  obtain ⟨log, same⟩ := setParent_eq (withPaths s before) v
  rw [same] at done
  exact ⟨_, congrArg Host.Outcome.next done, ctl_setCtl_same (withPaths s before) 0x800004 v, rfl, rfl⟩

/-! ### The table of R350 for a new parent port -/

section
variable {s : State} {v : Nat}

theorem afterParent_of_free (free : s.time.sync = .free) (bound : v < 8) : (afterParent s v).sync = .acquire := by
  rw [afterParent, if_pos ⟨free, bound⟩]
  rfl

theorem afterParent_none (notMaster : s.time.sync ≠ .master) (none_ : v = 0xFF) : (afterParent s v).sync = .free := by
  rw [afterParent, if_neg (by omega), if_pos ⟨notMaster, none_⟩]
  rfl

theorem afterParent_of_master (master : s.time.sync = .master) : afterParent s v = s.time := by simp [afterParent, master]

theorem afterParent_of_up (notFree : s.time.sync ≠ .free) (bound : v < 8)
    (stays : s.time.sync ≠ .locked ∨ (fabPort s v).state = .up) : afterParent s v = s.time := by
  rw [afterParent, if_neg fun h => notFree h.1, if_neg (by omega)]
  exact if_neg fun h => stays.elim (· h.2.2) h.2.1

theorem afterParent_of_down (locked : s.time.sync = .locked) (bound : v < 8) (down : (fabPort s v).state ≠ .up) :
    (afterParent s v).sync = .holdover := by
  rw [afterParent, if_neg (by simp [locked]), if_neg (by omega), if_pos ⟨bound, down, locked⟩]
  rfl

theorem afterParent_base : (afterParent s v).base = s.time.base := by
  unfold afterParent
  split
  · rfl
  · split
    · rfl
    · split <;> rfl

end

theorem parentEntryGivesTheParent {s : State} {path v : Nat} (ok : WriteOk s path 0x800004 v) :
    ∃ t, exec (.timeParentPort path v) s = .next t ∧ ctl t 0x800004 = v
      ∧ (s.time.sync = .free → v < 8 → t.time.sync = .acquire) ∧ (s.time.sync ≠ .master → v = 0xFF → t.time.sync = .free)
      ∧ (s.time.sync = .master → t.time = s.time)
      ∧ (s.time.sync ≠ .free → v < 8 → s.time.sync ≠ .locked ∨ (fabPort s v).state = .up → t.time = s.time)
      ∧ (s.time.sync = .locked → v < 8 → (fabPort s v).state ≠ .up → t.time.sync = .holdover)
      ∧ t.time.base = s.time.base ∧ t = { s with dict := t.dict, time := t.time, log := t.log } := by
  obtain ⟨t, answer, stored, time, rest⟩ := execTimeParentPort_of_ok ok
  refine ⟨t, answer, stored, ?_⟩
  rw [time] at rest ⊢
  exact ⟨afterParent_of_free, afterParent_none, afterParent_of_master, afterParent_of_up, afterParent_of_down, afterParent_base,
    rest⟩

theorem timeRoleFollowsItsEntries : Claims.TimeRoleFollowsItsEntries :=
  fun _ _ _ => ⟨masterEntryGivesTheRole, parentEntryGivesTheParent⟩

/-- Settles O48: exchanges with the time parent follow R349, and the entries of the time role the table of R350. -/
theorem timeIsExchangedWithTheParent : Obligations.TimeIsExchangedWithTheParent :=
  ⟨exchangesWithTheParent, timeRoleFollowsItsEntries⟩

end Sys2Proof.Machine
end

section
/-!
A LIST frame that arrives after its last-accept time is late, even where its query has left (R345): the model counts it in
MERGE_LATE, and as R129 says not in MERGE_BAD.
-/
namespace Sys2Proof.Machine

/-- Module 7 with port 0 UP and no query left; the list of child 9 for the query that had tag 5 did not come in time. -/
def listMissed : State := { State.reset with
  fabric := { ports := [{ state := .up }], missed := [(5, 9)] }, dict := { vals := [(0x800001 * 65536, 7)] } }

/-- That list, without entries, as it comes after all. -/
def lateFrame : Frame where
  typ := 2
  tc := 1
  hops := 0
  dst := 7
  src := 9
  origin := 7
  len := 0
  group := 0
  ptag := 5
  cutTime := 0
  payload := []

/-- It is the next frame in order at port 0. -/
def lateList : RxFrame := { fseq := 0, rpl := 0, parity := .good, frame := lateFrame }

theorem received_lateList : Received listMissed 0 lateList := ⟨rfl, rfl, rfl, by decide +kernel⟩

theorem lateList_outcome : ∃ t, exec (.list 0 lateList 0) listMissed = .next t ∧ counter t 0x2A = 1 ∧ counter t 0x2B = 0 :=
  ⟨_, rfl, by decide +kernel, by decide +kernel⟩

/-- Refutes O49: the statement has every list that no query waits for count in MERGE_BAD, but one that the fabric merge node gave
up at the last-accept time of a query that has left since counts in MERGE_LATE (R128, R345). -/
theorem not_framesReachTheirNode : ¬ Obligations.FramesReachTheirNode := by
  intro h
  obtain ⟨-, forThisModule⟩ := h listMissed 0 lateList 0 received_lateList
  obtain ⟨-, -, unwaited, -, -⟩ := forThisModule (by decide) (by decide +kernel)
  obtain ⟨t, answer, bad, -⟩ := unwaited rfl rfl
  obtain ⟨t', answer', -, good⟩ := lateList_outcome
  obtain rfl : t = t' := Host.Outcome.next.inj (answer.symm.trans answer')
  rw [good] at bad
  exact absurd bad (by decide +kernel)

end Sys2Proof.Machine
end
